-- ==== Sys2Proof/Word.lean ====
section
/-! DEFINITION. The words that the manual treats as bits: bytes of the operator line, the run time and the pumped
volume that wrap at 32 bits, the plan version that wraps at 16, and the sets of the five output groups. -/

namespace Sys2Proof

/-- A byte of the operator line. -/
abbrev Byte := BitVec 8

/-- Run time in milliseconds; it wraps to 0 after 2^32 ms (00_scope.md, "Run time"). -/
abbrev RunTime := BitVec 32

/-- A count of litres that wraps at 32 bits (R188). -/
abbrev Litres := BitVec 32

/-- A set of output groups: bit 0 WHEEL_A, bit 1 WHEEL_B, bit 2 PLATES, bit 3 PUMP, bit 4 FEED (section 1.12). -/
abbrev GroupSet := BitVec 5

/-- The milliseconds from `a` to `b`, "the unsigned difference of the two counts" (00_scope.md, "Run time"). -/
def RunTime.since (b a : RunTime) : Nat := (b - a).toNat

end Sys2Proof
end

