-- ==== Sys2Proof/Syntax.lean ====
section
/-! DEFINITION. The commands of the block: one constructor of `Instr` for each row of spec/opcode_table.json, in the
table's order. `now` is the run time at which the event takes place (log entry 1). A request row (REQUEST_UNKNOWN_KIND,
STATUS_GET to RESTART) is the event "the handler takes the oldest request of the queue" (R8); the request's own fields
stand in the request queue, where FRAME_RECEIVED put them (log entry 4). -/

namespace Sys2Proof

/-- The two cutter wheels: A is the left-hand drive, B the right-hand one. -/
inductive WheelId where
  | a | b
  deriving DecidableEq, Repr

/-- The two axes of the cutter's lateral path. -/
inductive Axis where
  | x | y
  deriving DecidableEq, Repr

/-- The three discrete inputs (section 3.3). -/
inductive InputId where
  | emergencyIn | gearPressLow | oilHot
  deriving DecidableEq, Repr

/-- The two levels of a discrete input. -/
inductive Level where
  | energised | deEnergised
  deriving DecidableEq, Repr

/-- The commands of the block, in the order of spec/opcode_table.json. -/
inductive Instr where
  /-- POWER_ON (R43): power is applied with the three inputs at these raw levels. -/
  | powerOn (emergency gear oil : Level)
  /-- MODULE_RESTART (R44): the module restarts, once the RESTART DONE reply has left the line. -/
  | moduleRestart
  /-- FRAME_RECEIVED (R3): these bytes arrive, the last of them completing the frame. -/
  | frameReceived (bytes : List Byte) (now : RunTime)
  /-- FRAME_BAD_LENGTH (R2): a length byte outside 2..250 arrives. -/
  | frameBadLength (length : Byte) (now : RunTime)
  /-- BAD_CHARACTER (R2): a character with a stop-bit error arrives. -/
  | badCharacter (now : RunTime)
  /-- GAP_TIMER_EXPIRY (R2). -/
  | gapTimerExpiry (now : RunTime)
  /-- LINK_SILENCE_EXPIRY (R19). -/
  | linkSilenceExpiry (now : RunTime)
  /-- TRANSMIT_FRAME_START (R7). -/
  | transmitFrameStart (now : RunTime)
  /-- TRANSMIT_COMPLETE (R7). -/
  | transmitComplete (now : RunTime)
  /-- REPLY_SLOT_GRANTED (R9). -/
  | replySlotGranted (now : RunTime)
  /-- STREAM_NEXT_PART (R10). -/
  | streamNextPart (now : RunTime)
  /-- REQUEST_UNKNOWN_KIND (R5). -/
  | requestUnknownKind (now : RunTime)
  /-- STATUS_GET (R25). -/
  | statusGet (now : RunTime)
  /-- PARAM_SET (R21). -/
  | paramSet (now : RunTime)
  /-- PARAM_GET (R22). -/
  | paramGet (now : RunTime)
  /-- MODE_SET (R36). -/
  | modeSet (now : RunTime)
  /-- PANEL_OPEN (R40). -/
  | panelOpen (now : RunTime)
  /-- PANEL_CLOSE (R42). -/
  | panelClose (now : RunTime)
  /-- DEPTH_ZERO (R41). -/
  | depthZero (now : RunTime)
  /-- WHEEL_SET (R156). -/
  | wheelSet (now : RunTime)
  /-- WHEEL_CLEAR (R167). -/
  | wheelClear (now : RunTime)
  /-- PUMP_SET (R176). -/
  | pumpSet (now : RunTime)
  /-- BACKFLUSH (R181). -/
  | backflush (now : RunTime)
  /-- PLATE_MOVE (R139). -/
  | plateMove (now : RunTime)
  /-- PLATE_CLEAR (R151). -/
  | plateClear (now : RunTime)
  /-- PLAN_OPEN (R105). -/
  | planOpen (now : RunTime)
  /-- PLAN_BAND (R106). -/
  | planBand (now : RunTime)
  /-- PLAN_CLOSE (R108). -/
  | planClose (now : RunTime)
  /-- PLAN_GET (R115). -/
  | planGet (now : RunTime)
  /-- LOG_READ (R11). -/
  | logRead (now : RunTime)
  /-- TRANSIT_GET (R200). -/
  | transitGet (now : RunTime)
  /-- AWAIT (R13). -/
  | await (now : RunTime)
  /-- AWAIT_CANCEL (R17). -/
  | awaitCancel (now : RunTime)
  /-- COUNTERS_READ (R24). -/
  | countersRead (now : RunTime)
  /-- TRIP_GET (R209). -/
  | tripGet (now : RunTime)
  /-- TRIP_CLEAR (R206). -/
  | tripClear (now : RunTime)
  /-- TRIP_FORCE (R207). -/
  | tripForce (now : RunTime)
  /-- TRIP_MAP_SET (R208). -/
  | tripMapSet (now : RunTime)
  /-- RESTART (R26). -/
  | restart (now : RunTime)
  /-- WAIT_DEADLINE_EXPIRY (R15): the deadline of the wait with this tag is reached. -/
  | waitDeadlineExpiry (tag : Byte) (now : RunTime)
  /-- SAMPLE_ARRIVAL (R48): a sample record with this channel number and value arrives on the field line. -/
  | sampleArrival (channel : Nat) (value : Int) (now : RunTime)
  /-- START_WINDOW_EXPIRY (R29). -/
  | startWindowExpiry (now : RunTime)
  /-- WINDOW_END (R49). -/
  | windowEnd (now : RunTime)
  /-- DISCRETE_INPUT_CHANGE (R53): the raw level of the input becomes `level`. -/
  | discreteInputChange (input : InputId) (level : Level) (now : RunTime)
  /-- FILTER_TIMER_EXPIRY (R53). -/
  | filterTimerExpiry (input : InputId) (now : RunTime)
  /-- DISAGREEMENT_TIMER_EXPIRY (R59). -/
  | disagreementTimerExpiry (axis : Axis) (now : RunTime)
  /-- PLATE_MOVE_DEADLINE (R146). -/
  | plateMoveDeadline (now : RunTime)
  /-- STALL_TIMER_EXPIRY (R163). -/
  | stallTimerExpiry (wheel : WheelId) (now : RunTime)
  /-- STALL_PAUSE_END (R164). -/
  | stallPauseEnd (wheel : WheelId) (now : RunTime)
  /-- REVERSE_TIME_EXPIRY (R165). -/
  | reverseTimeExpiry (wheel : WheelId) (now : RunTime)
  /-- BLOCKAGE_TIMER_EXPIRY (R180). -/
  | blockageTimerExpiry (now : RunTime)
  /-- BACKFLUSH_END (R183). -/
  | backflushEnd (now : RunTime)
  /-- LOAD_TIMER_EXPIRY (R113). -/
  | loadTimerExpiry (now : RunTime)
  /-- FRAME_LEAD_BYTE (R1): the byte 0xC3 arrives. -/
  | frameLeadByte (now : RunTime)
  deriving DecidableEq, Repr

end Sys2Proof
end

