-- ==== Sys2Proof/Machine/Arith.lean ====
section
/-! DEFINITION. The four methods of division and the clamp of 00_scope.md ("Integer division", "Units and
encodings"). Divisors are positive wherever the rules divide. -/

namespace Sys2Proof.Machine

/-- Largest integer not above a / b. -/
def floorDiv (a b : Int) : Int := a / b

/-- a / b with its fractional part dropped, toward zero. -/
def truncDiv (a b : Int) : Int := Int.tdiv a b

/-- Smallest integer not below a / b. -/
def ceilDiv (a b : Int) : Int := -((-a) / b)

/-- Round half up: floor((2a + b) / (2b)). -/
def roundHalfUp (a b : Int) : Int := (2 * a + b) / (2 * b)

/-- The remainder kept after floor division, a - b * floor(a / b). -/
def keptRemainder (a b : Int) : Int := a - b * (a / b)

/-- A value clamped to lo..hi: lo if it is below lo, hi if it is above hi, otherwise unchanged. -/
def clamp (lo hi v : Int) : Int := if v < lo then lo else if hi < v then hi else v

/-- The magnitude of a value. -/
def magnitude (v : Int) : Int := if v < 0 then -v else v

end Sys2Proof.Machine
end

