-- ==== Sys2Proof/Config.lean ====
section
/-! DEFINITION. The sizes and times that the manual fixes and that are not parameters. There is no free value: the
manual leaves no result of a command open (INVENTORY.md, "What the manual leaves open"). -/

namespace Sys2Proof.Config

/-- The lead byte of every frame (R1). -/
def leadByte : Byte := 0xC3
/-- Places of the request queue (R3). -/
def requestQueueSize : Nat := 8
/-- Places of the reply queue (R7). -/
def replyQueueSize : Nat := 16
/-- Entries of the wait table (R13). -/
def waitTableSize : Nat := 8
/-- The gap timer's 5 ms (R2). -/
def gapTime : Nat := 5
/-- The start window, 10 s (R27). -/
def startWindow : Nat := 10000
/-- The window timer's period (R49). -/
def windowPeriod : Nat := 1000
/-- The plan load timer, 30 s (R104). -/
def loadTime : Nat := 30000
/-- The stall pause (R163). -/
def stallPause : Nat := 500
/-- The span in which reverse attempts count (R164). -/
def attemptSpan : Nat := 60000
/-- The number of reverse attempts allowed in that span (R164). -/
def attemptLimit : Nat := 3
/-- The cap on the elapsed time of a ramp step and of a flow arrival (R160, R188). -/
def elapsedCap : Nat := 1000
/-- The margin of a plate move's duration (R144). -/
def moveMargin : Nat := 2000
/-- The completion tolerance of a plate move in 0.1 mm (chapter 8). -/
def plateTolerance : Int := 10
/-- The magnitude limit of an offset in um (R69). -/
def offsetLimit : Int := 2000000
/-- The magnitude limit of a derived slope (R56). -/
def slopeLimit : Int := 5000
/-- The shallowest accepted depth in mm (R62). -/
def depthMin : Int := -5000
/-- The deepest accepted depth in mm (R62). -/
def depthMax : Int := 300000
/-- Consecutive rejections that force the DEPTH channel STALE (R63). -/
def rejectionLimit : Nat := 5
/-- The highest index of the profile log (R89). -/
def logTop : Nat := 511
/-- Records or bands in one stream part (R11, R12). -/
def streamChunk : Nat := 5
/-- Entries of the feed-rate ring (R78). -/
def ringSize : Nat := 10
/-- The count at which a statistic of the open record stands still (R83). -/
def gatherCap : Nat := 16777215
/-- Bands of a plan (R99). -/
def planSize : Nat := 16
/-- Parcels of the transit line (R189). -/
def lineSize : Nat := 64
/-- The count at which a parcel's density sum stands still (R195). -/
def densityCap : Nat := 65535
/-- The value at which a counter stays (R23). -/
def counterCap : Nat := 65535

end Sys2Proof.Config
end

