-- ==== Sys2Proof/Machine/Tables.lean ====
section
/-! DEFINITION. The manual's tables: the parameters of every block with identifier, range and default (1.7, 3.7, 6.8,
7.8, 8.8, 9.8, 10.7, 11.7), the 21 channels with range and window threshold (3.1), and the 13 trip sources with their
default group sets (R202). -/

namespace Sys2Proof.Machine

/-- The 49 parameters of the module's one parameter table (section 1.8). -/
inductive ParamId where
  /-- 0x0101 link-silence time, ms. -/
  | linkSilenceTime
  /-- 0x0301 EMERGENCY_IN filter time, ms. -/
  | emergencyFilter
  /-- 0x0302 GEAR_PRESS_LOW filter time, ms. -/
  | gearFilter
  /-- 0x0303 OIL_HOT filter time, ms. -/
  | oilFilter
  /-- 0x0304 disagreement tolerance, 0.01 mm/m. -/
  | disagreeTolerance
  /-- 0x0305 disagreement time, s. -/
  | disagreeTime
  /-- 0x0306 inclination hard limit, 0.01 mm/m. -/
  | inclLimit
  /-- 0x0307 twist hard limit, 0.01 degree. -/
  | twistLimit
  /-- 0x0308 depth max step, mm. -/
  | depthMaxStep
  /-- 0x0501 default tX, um. -/
  | defTX
  /-- 0x0502 default tY, um. -/
  | defTY
  /-- 0x0503 default dbX, um. -/
  | defDbX
  /-- 0x0504 default dbY, um. -/
  | defDbY
  /-- 0x0505 default dbTwist, 0.01 degree. -/
  | defDbTwist
  /-- 0x0506 default gainY. -/
  | defGainY
  /-- 0x0507 default gainX. -/
  | defGainX
  /-- 0x0508 default gainW. -/
  | defGainW
  /-- 0x0509 default endThr, um. -/
  | defEndThr
  /-- 0x050A default twistGain. -/
  | defTwistGain
  /-- 0x050B default lookahead, mm. -/
  | defLookahead
  /-- 0x050C differential limit, 0.1 rpm. -/
  | diffMax
  /-- 0x050D plate hysteresis, mm. -/
  | hysteresis
  /-- 0x050E twist urgent threshold, 0.01 degree. -/
  | twistUrgent
  /-- 0x0601 plate move rate, mm/s. -/
  | plateRate
  /-- 0x0701 maximum wheel speed, 0.1 rpm. -/
  | maxWheelSpeed
  /-- 0x0702 ramp rate, 0.1 rpm per s. -/
  | rampRate
  /-- 0x0703 running band, 0.1 rpm. -/
  | runningBand
  /-- 0x0704 stall pressure, bar. -/
  | stallPressure
  /-- 0x0705 stall time, ms. -/
  | stallTime
  /-- 0x0706 auto-reverse switch. -/
  | autoReverse
  /-- 0x0707 reverse speed, 0.1 rpm. -/
  | reverseSpeed
  /-- 0x0708 reverse time, ms. -/
  | reverseTime
  /-- 0x0801 idle flow, L/min. -/
  | idleFlow
  /-- 0x0802 base flow, L/min. -/
  | baseFlow
  /-- 0x0803 carry, %. -/
  | carry
  /-- 0x0804 pump max rpm. -/
  | pumpMaxRpm
  /-- 0x0805 displacement, mL/rev. -/
  | displacement
  /-- 0x0806 flow band, %. -/
  | flowBand
  /-- 0x0807 operator feed limit, mm/min. -/
  | operatorFeedLimit
  /-- 0x0808 density soft limit, kg/m3. -/
  | softLimit
  /-- 0x0809 density hard limit, kg/m3. -/
  | hardLimit
  /-- 0x080A block pressure, bar. -/
  | blockPressure
  /-- 0x080B block time, s. -/
  | blockTime
  /-- 0x080C backflush speed, rpm. -/
  | backflushSpeed
  /-- 0x080D backflush time, s. -/
  | backflushTime
  /-- 0x080E auto-backflush switch. -/
  | autoBackflush
  /-- 0x080F parcel size, L. -/
  | parcelSize
  /-- 0x0810 surface hose length, mm. -/
  | hoseLength
  /-- 0x0811 bore area, cm2. -/
  | boreArea
  deriving DecidableEq, Repr

/-- The 16-bit identifier of a parameter (section 1.8). -/
def ParamId.number : ParamId → Nat
  | .linkSilenceTime => 0x0101
  | .emergencyFilter => 0x0301
  | .gearFilter => 0x0302
  | .oilFilter => 0x0303
  | .disagreeTolerance => 0x0304
  | .disagreeTime => 0x0305
  | .inclLimit => 0x0306
  | .twistLimit => 0x0307
  | .depthMaxStep => 0x0308
  | .defTX => 0x0501
  | .defTY => 0x0502
  | .defDbX => 0x0503
  | .defDbY => 0x0504
  | .defDbTwist => 0x0505
  | .defGainY => 0x0506
  | .defGainX => 0x0507
  | .defGainW => 0x0508
  | .defEndThr => 0x0509
  | .defTwistGain => 0x050A
  | .defLookahead => 0x050B
  | .diffMax => 0x050C
  | .hysteresis => 0x050D
  | .twistUrgent => 0x050E
  | .plateRate => 0x0601
  | .maxWheelSpeed => 0x0701
  | .rampRate => 0x0702
  | .runningBand => 0x0703
  | .stallPressure => 0x0704
  | .stallTime => 0x0705
  | .autoReverse => 0x0706
  | .reverseSpeed => 0x0707
  | .reverseTime => 0x0708
  | .idleFlow => 0x0801
  | .baseFlow => 0x0802
  | .carry => 0x0803
  | .pumpMaxRpm => 0x0804
  | .displacement => 0x0805
  | .flowBand => 0x0806
  | .operatorFeedLimit => 0x0807
  | .softLimit => 0x0808
  | .hardLimit => 0x0809
  | .blockPressure => 0x080A
  | .blockTime => 0x080B
  | .backflushSpeed => 0x080C
  | .backflushTime => 0x080D
  | .autoBackflush => 0x080E
  | .parcelSize => 0x080F
  | .hoseLength => 0x0810
  | .boreArea => 0x0811

/-- The place of a parameter in the parameter table. -/
def ParamId.idx : ParamId → Fin 49
  | .linkSilenceTime => 0
  | .emergencyFilter => 1
  | .gearFilter => 2
  | .oilFilter => 3
  | .disagreeTolerance => 4
  | .disagreeTime => 5
  | .inclLimit => 6
  | .twistLimit => 7
  | .depthMaxStep => 8
  | .defTX => 9
  | .defTY => 10
  | .defDbX => 11
  | .defDbY => 12
  | .defDbTwist => 13
  | .defGainY => 14
  | .defGainX => 15
  | .defGainW => 16
  | .defEndThr => 17
  | .defTwistGain => 18
  | .defLookahead => 19
  | .diffMax => 20
  | .hysteresis => 21
  | .twistUrgent => 22
  | .plateRate => 23
  | .maxWheelSpeed => 24
  | .rampRate => 25
  | .runningBand => 26
  | .stallPressure => 27
  | .stallTime => 28
  | .autoReverse => 29
  | .reverseSpeed => 30
  | .reverseTime => 31
  | .idleFlow => 32
  | .baseFlow => 33
  | .carry => 34
  | .pumpMaxRpm => 35
  | .displacement => 36
  | .flowBand => 37
  | .operatorFeedLimit => 38
  | .softLimit => 39
  | .hardLimit => 40
  | .blockPressure => 41
  | .blockTime => 42
  | .backflushSpeed => 43
  | .backflushTime => 44
  | .autoBackflush => 45
  | .parcelSize => 46
  | .hoseLength => 47
  | .boreArea => 48

/-- The lower end of a parameter's range. -/
def ParamId.lo : ParamId → Int
  | .linkSilenceTime => 500
  | .emergencyFilter => 0
  | .gearFilter => 0
  | .oilFilter => 0
  | .disagreeTolerance => 20
  | .disagreeTime => 1
  | .inclLimit => 500
  | .twistLimit => 50
  | .depthMaxStep => 100
  | .defTX => -2000000
  | .defTY => -2000000
  | .defDbX => 0
  | .defDbY => 0
  | .defDbTwist => 0
  | .defGainY => 0
  | .defGainX => 0
  | .defGainW => 0
  | .defEndThr => 0
  | .defTwistGain => 0
  | .defLookahead => 0
  | .diffMax => 0
  | .hysteresis => 1
  | .twistUrgent => 20
  | .plateRate => 1
  | .maxWheelSpeed => 50
  | .rampRate => 1
  | .runningBand => 5
  | .stallPressure => 50
  | .stallTime => 200
  | .autoReverse => 0
  | .reverseSpeed => 10
  | .reverseTime => 500
  | .idleFlow => 0
  | .baseFlow => 0
  | .carry => 100
  | .pumpMaxRpm => 100
  | .displacement => 1000
  | .flowBand => 1
  | .operatorFeedLimit => 0
  | .softLimit => 1050
  | .hardLimit => 1100
  | .blockPressure => 5
  | .blockTime => 1
  | .backflushSpeed => 50
  | .backflushTime => 2
  | .autoBackflush => 0
  | .parcelSize => 50
  | .hoseLength => 0
  | .boreArea => 20

/-- The upper end of a parameter's range. -/
def ParamId.hi : ParamId → Int
  | .linkSilenceTime => 10000
  | .emergencyFilter => 250
  | .gearFilter => 250
  | .oilFilter => 250
  | .disagreeTolerance => 1000
  | .disagreeTime => 60
  | .inclLimit => 5000
  | .twistLimit => 3000
  | .depthMaxStep => 5000
  | .defTX => 2000000
  | .defTY => 2000000
  | .defDbX => 500000
  | .defDbY => 500000
  | .defDbTwist => 3000
  | .defGainY => 1000
  | .defGainX => 1000
  | .defGainW => 100
  | .defEndThr => 2000000
  | .defTwistGain => 500
  | .defLookahead => 5000
  | .diffMax => 50
  | .hysteresis => 10
  | .twistUrgent => 3000
  | .plateRate => 50
  | .maxWheelSpeed => 400
  | .rampRate => 100
  | .runningBand => 50
  | .stallPressure => 420
  | .stallTime => 10000
  | .autoReverse => 1
  | .reverseSpeed => 100
  | .reverseTime => 10000
  | .idleFlow => 4000
  | .baseFlow => 8000
  | .carry => 2000
  | .pumpMaxRpm => 1200
  | .displacement => 50000
  | .flowBand => 50
  | .operatorFeedLimit => 2000
  | .softLimit => 1400
  | .hardLimit => 1500
  | .blockPressure => 60
  | .blockTime => 60
  | .backflushSpeed => 400
  | .backflushTime => 60
  | .autoBackflush => 1
  | .parcelSize => 1000
  | .hoseLength => 200000
  | .boreArea => 500

/-- The value of a parameter at power-on and restart (R20). -/
def ParamId.default : ParamId → Int
  | .linkSilenceTime => 2000
  | .emergencyFilter => 20
  | .gearFilter => 20
  | .oilFilter => 20
  | .disagreeTolerance => 150
  | .disagreeTime => 5
  | .inclLimit => 3000
  | .twistLimit => 300
  | .depthMaxStep => 1000
  | .defTX => 0
  | .defTY => 0
  | .defDbX => 3000
  | .defDbY => 15000
  | .defDbTwist => 50
  | .defGainY => 60
  | .defGainX => 40
  | .defGainW => 2
  | .defEndThr => 25000
  | .defTwistGain => 20
  | .defLookahead => 2000
  | .diffMax => 20
  | .hysteresis => 2
  | .twistUrgent => 150
  | .plateRate => 8
  | .maxWheelSpeed => 350
  | .rampRate => 20
  | .runningBand => 15
  | .stallPressure => 320
  | .stallTime => 1500
  | .autoReverse => 1
  | .reverseSpeed => 50
  | .reverseTime => 3000
  | .idleFlow => 1500
  | .baseFlow => 3000
  | .carry => 700
  | .pumpMaxRpm => 640
  | .displacement => 12500
  | .flowBand => 5
  | .operatorFeedLimit => 400
  | .softLimit => 1250
  | .hardLimit => 1320
  | .blockPressure => 25
  | .blockTime => 5
  | .backflushSpeed => 200
  | .backflushTime => 8
  | .autoBackflush => 0
  | .parcelSize => 200
  | .hoseLength => 40000
  | .boreArea => 177

/-- The parameters in the order of their identifiers. -/
def ParamId.all : List ParamId :=
  [.linkSilenceTime, .emergencyFilter, .gearFilter, .oilFilter, .disagreeTolerance, .disagreeTime,
   .inclLimit, .twistLimit, .depthMaxStep, .defTX, .defTY, .defDbX,
   .defDbY, .defDbTwist, .defGainY, .defGainX, .defGainW, .defEndThr,
   .defTwistGain, .defLookahead, .diffMax, .hysteresis, .twistUrgent, .plateRate,
   .maxWheelSpeed, .rampRate, .runningBand, .stallPressure, .stallTime, .autoReverse,
   .reverseSpeed, .reverseTime, .idleFlow, .baseFlow, .carry, .pumpMaxRpm,
   .displacement, .flowBand, .operatorFeedLimit, .softLimit, .hardLimit, .blockPressure,
   .blockTime, .backflushSpeed, .backflushTime, .autoBackflush, .parcelSize, .hoseLength,
   .boreArea]

/-- The parameter that an identifier names, if any (R21, R22). -/
def ParamId.ofNumber (n : Nat) : Option ParamId := ParamId.all.find? fun p => p.number == n

/-- Which of the two biaxial inclinometers (section 3.4). -/
inductive Mount where
  | upper | lower
  deriving DecidableEq, Repr

/-- A steering plate; the manual's number is the value plus 1 (00_scope.md, "The plates"). -/
abbrev Plate := Fin 8

/-- The plates in ascending number. -/
def Plate.all : List Plate := [0, 1, 2, 3, 4, 5, 6, 7]

/-- FL, front face left. -/
def Plate.fl : Plate := 0
/-- FR, front face right. -/
def Plate.fr : Plate := 1
/-- RL, rear face left. -/
def Plate.rl : Plate := 2
/-- RR, rear face right. -/
def Plate.rr : Plate := 3
/-- ELU, left end upper. -/
def Plate.elu : Plate := 4
/-- ELL, left end lower. -/
def Plate.ell : Plate := 5
/-- ERU, right end upper. -/
def Plate.eru : Plate := 6
/-- ERL, right end lower. -/
def Plate.erl : Plate := 7

/-- The 21 channels (section 3.1). -/
inductive Channel where
  | incl (mount : Mount) (axis : Axis)
  | twist
  | depth
  | speed (wheel : WheelId)
  | press (wheel : WheelId)
  | plate (plate : Plate)
  | pumpPress
  | retFlow
  | retDens
  deriving DecidableEq, Repr

/-- The place of a channel in the channel table; the channel number is one more (section 3.1). -/
def Channel.idx : Channel → Fin 21
  | .incl .upper .x => 0
  | .incl .upper .y => 1
  | .incl .lower .x => 2
  | .incl .lower .y => 3
  | .twist => 4
  | .depth => 5
  | .speed .a => 6
  | .speed .b => 7
  | .press .a => 8
  | .press .b => 9
  | .plate p => ⟨10 + p.val, by omega⟩
  | .pumpPress => 18
  | .retFlow => 19
  | .retDens => 20

/-- The channels in ascending number. -/
def Channel.all : List Channel :=
  [.incl .upper .x, .incl .upper .y, .incl .lower .x, .incl .lower .y, .twist, .depth, .speed .a, .speed .b,
   .press .a, .press .b, .plate 0, .plate 1, .plate 2, .plate 3, .plate 4, .plate 5, .plate 6, .plate 7,
   .pumpPress, .retFlow, .retDens]

/-- The channel that a channel number names, if it lies in 1..21 (R47). -/
def Channel.ofNumber (n : Nat) : Option Channel := Channel.all.find? fun c => c.idx.val + 1 == n

/-- The accepted range of a channel, both ends included (section 3.1). -/
def Channel.range : Channel → Int × Int
  | .incl _ _ => (-9999, 9999)
  | .twist => (-18000, 18000)
  | .depth => (-10000, 400000)
  | .speed _ => (-600, 600)
  | .press _ => (0, 500)
  | .plate _ => (0, 1050)
  | .pumpPress => (0, 100)
  | .retFlow => (-10000, 10000)
  | .retDens => (900, 2000)

/-- The window threshold of a channel (section 3.1). -/
def Channel.threshold : Channel → Nat
  | .speed _ | .press _ => 10
  | .pumpPress | .retFlow | .retDens => 3
  | .incl _ _ | .twist | .depth | .plate _ => 5

/-- A trip source; the manual's number is the value plus 1 (R202). -/
abbrev Source := Fin 13

/-- The sources in ascending number. -/
def Source.all : List Source := [0, 1, 2, 3, 4, 5, 6, 7, 8, 9, 10, 11, 12]


/-- Source 1, INCL_LIMIT. -/
def Source.inclLimit : Source := 0
/-- Source 2, INCL_DISAGREE. -/
def Source.inclDisagree : Source := 1
/-- Source 3, TWIST_LIMIT. -/
def Source.twistLimit : Source := 2
/-- Source 4, SENSOR_STALE. -/
def Source.sensorStale : Source := 3
/-- Source 5, WHEEL_A_LOCKOUT. -/
def Source.wheelALockout : Source := 4
/-- Source 6, WHEEL_B_LOCKOUT. -/
def Source.wheelBLockout : Source := 5
/-- Source 7, GEAR_PRESSURE. -/
def Source.gearPressure : Source := 6
/-- Source 8, OIL_TEMP. -/
def Source.oilTemp : Source := 7
/-- Source 9, RETURN_BLOCKED. -/
def Source.returnBlocked : Source := 8
/-- Source 10, RETURN_HEAVY. -/
def Source.returnHeavy : Source := 9
/-- Source 11, LINK_SILENT. -/
def Source.linkSilent : Source := 10
/-- Source 12, OPERATOR. -/
def Source.operator : Source := 11
/-- Source 13, EMERGENCY. -/
def Source.emergency : Source := 12

/-- The default group sets of the sources 1..13 (R202). -/
def defaultSets : Vector GroupSet 13 :=
  #v[0x10, 0x10, 0x10, 0x10, 0x10, 0x10, 0x13, 0x17, 0x13, 0x10, 0x10, 0x1F, 0x1F]

/-- The five output groups (chapter 12). -/
inductive Group where
  | wheel (wheel : WheelId)
  | plates
  | pump
  | feed
  deriving DecidableEq, Repr

/-- The bit of a group in a group set (section 1.12). -/
def Group.bit : Group → Nat
  | .wheel .a => 0
  | .wheel .b => 1
  | .plates => 2
  | .pump => 3
  | .feed => 4

/-- The groups in ascending bit number. -/
def Group.all : List Group := [.wheel .a, .wheel .b, .plates, .pump, .feed]

end Sys2Proof.Machine
end

