-- ==== Sys2Proof/Machine/State.lean ====
section
/-! DEFINITION. Everything the manual says the module holds, block by block, as plain data, and the state right after
reset (power-on with the three inputs inactive, log entry 10). Quantities with a sign or a sum are `Int`, counts are
`Nat`; what the manual wraps at a width is a bit vector (run time, V_pump, plan version). INVENTORY.md, "State", lists
every field with its rule. -/

namespace Sys2Proof.Machine

/-! ### Shared shapes -/

/-- A running timer: the run time at which it was started and its duration in ms ("Run time"; R20). A stopped timer is
`none`. -/
structure Timer where
  start : RunTime
  duration : Nat
  deriving DecidableEq, Repr

/-- One value for each wheel. -/
structure PerWheel (α : Type) where
  a : α
  b : α
  deriving DecidableEq, Repr

/-- One value for each axis. -/
structure PerAxis (α : Type) where
  x : α
  y : α
  deriving DecidableEq, Repr

/-! ### LI, the line interface (chapter 1) -/

/-- The result codes (section 1.2). -/
inductive Result where
  | done | doneClamped | busy | unknownKind | badLength | badValue | wrongMode | wrongState | notFound
  | timedOut | cancelled | planAborted
  deriving DecidableEq, Repr

/-- A result code with its reply data (R4). -/
structure Reply where
  result : Result
  data : List Byte
  deriving DecidableEq, Repr

/-- A request: the kind, the tag and the body of a good frame (R3). -/
structure Request where
  kind : Byte
  tag : Byte
  body : List Byte
  deriving DecidableEq, Repr

/-- Who waits for a reply part to leave the line: nobody, the stream whose next part follows it (R10), or the restart
that follows the DONE reply of RESTART (R26). -/
inductive PartOrigin where
  | plain | stream | restart
  deriving DecidableEq, Repr

/-- A reply part (R4): the kind and tag of its request, the result, the part number, whether it is final, the data. -/
structure ReplyPart where
  kind : Byte
  tag : Byte
  result : Result
  number : Nat
  final : Bool
  data : List Byte
  origin : PartOrigin
  deriving DecidableEq, Repr

/-- The receiver's two states (R1); COLLECT holds the bytes of the frame so far, the lead included. -/
inductive Receiver where
  | hunt
  | collect (bytes : List Byte)
  deriving DecidableEq, Repr

/-- What a stream sends: the profile log from `cursor` to `last` with `total` records sent so far (R11), or the active
plan from the band `cursor` (R12). -/
inductive StreamSource where
  | log (cursor last total : Nat)
  | plan (cursor : Nat)
  deriving DecidableEq, Repr

/-- Where a stream stands (R10): a built part waits for a slot, a part is placed and has not left the line, or the last
part has left the line. -/
inductive StreamPhase where
  | claiming (part : ReplyPart)
  | sending
  | left
  deriving DecidableEq, Repr

/-- The stream that the handler serves (R10): the request's kind and tag, the result of every part, the number of the
next part to build. -/
structure Stream where
  kind : Byte
  tag : Byte
  result : Result
  source : StreamSource
  next : Nat
  phase : StreamPhase
  deriving DecidableEq, Repr

/-- Where a RESTART stands (R26): its DONE reply waits for a slot, is placed, or has left the line. -/
inductive RestartPhase where
  | claiming (part : ReplyPart)
  | sending
  | left
  deriving DecidableEq, Repr

/-- The handler's four states (R8). -/
inductive Handler where
  | idle
  | placing (part : ReplyPart)
  | streaming (stream : Stream)
  | restarting (keepLog : Bool) (phase : RestartPhase)
  deriving DecidableEq, Repr

/-- The six wait conditions (section 1.6). -/
inductive WaitCond where
  | station | depth | trip | mode | platesIdle | attributed
  deriving DecidableEq, Repr

/-- A wait entry is WAITING, or HELD with a fixed reply (R16). -/
inductive WaitState where
  | waiting
  | held (reply : Reply)
  deriving DecidableEq, Repr

/-- An entry of the wait table (section 1.6). -/
structure WaitEntry where
  tag : Byte
  cond : WaitCond
  arg : Int
  deadline : Option Timer
  seq : Nat
  state : WaitState
  deriving DecidableEq, Repr

/-- The transmitter's line (R7): free, or sending the BUSY reply of the refusal slot or the oldest reply part, with the
bytes of the frame. -/
inductive Line where
  | free
  | busy (frame : List Byte)
  | part (frame : List Byte)
  deriving DecidableEq, Repr

/-- What LI holds. `linkTimer` is `none` in the state EXPIRED, in which the LINK_SILENT condition is present (R19);
`waits` stands in posting order. -/
structure LineInterface where
  receiver : Receiver
  gapTimer : Option Timer
  requestQueue : List Request
  refusal : Option ReplyPart
  handler : Handler
  replyQueue : List ReplyPart
  waits : List WaitEntry
  nextSeq : Nat
  line : Line
  linkTimer : Option Timer
  deriving DecidableEq, Repr

/-! ### MP, mode and panel (chapter 2) -/

/-- The controller modes (R27). -/
inductive Mode where
  | start | standby | manual | auto | hold
  deriving DecidableEq, Repr

/-- The panel states (R39). -/
inductive PanelState where
  | none | opened | closed
  deriving DecidableEq, Repr

/-- The set of present HOLD causes (R33). -/
structure HoldCauses where
  link : Bool
  depth : Bool
  slope : Bool
  deriving DecidableEq, Repr

/-- What MP holds (R27, R39). -/
structure ModePanel where
  mode : Mode
  holdCauses : HoldCauses
  startTimer : Option Timer
  panel : PanelState
  panelNumber : Nat
  cutArea : Int
  interval : Int
  deriving DecidableEq, Repr

/-! ### FC, the field channels (chapter 3) -/

/-- The states of a channel (section 3.2). -/
inductive ChannelState where
  | absent | fresh | stale
  deriving DecidableEq, Repr

/-- A channel entry (section 3.2); `good` is the good-window count, 0 or 1. -/
structure ChannelEntry where
  state : ChannelState
  value : Int
  windowCount : Nat
  good : Nat
  unjudged : Bool
  deriving DecidableEq, Repr

/-- A discrete input (R53). -/
structure DiscreteInput where
  raw : Level
  filtered : Level
  timer : Option Timer
  deriving DecidableEq, Repr

/-- The derivation cases of a slope (R55). -/
inductive SlopeCase where
  | both | single | none
  deriving DecidableEq, Repr

/-- The derived slope of an axis with its agreement watch (sections 3.4 and 3.5). -/
structure AxisSlope where
  slope : Int
  case : SlopeCase
  clamped : Bool
  disagreeing : Bool
  timer : Option Timer
  persistent : Bool
  deriving DecidableEq, Repr

/-- What FC holds (chapter 3). `accepted` says whether a depth sample has been accepted since power-on or restart (R40). -/
structure FieldChannels where
  channels : Vector ChannelEntry 21
  windowTimer : Timer
  startOver : Bool
  sensorStale : Bool
  emergencyIn : DiscreteInput
  gearPressLow : DiscreteInput
  oilHot : DiscreteInput
  slopes : PerAxis AxisSlope
  inclDisagree : Bool
  inclLimit : Bool
  twistLimit : Bool
  reference : Int
  lastAccepted : Option Int
  lastRaw : Option Int
  rejections : Nat
  recovery : Bool
  accepted : Bool
  deriving DecidableEq, Repr

/-! ### DI, depth integrator and station recorder (chapters 4 and 5) -/

/-- The integrated path of one axis (R65). -/
structure AxisPath where
  offset : Int
  residue : Int
  saturated : Bool
  deriving DecidableEq, Repr

/-- DI's copy of a derived slope (R66). -/
structure SlopeCopy where
  slope : Int
  case : SlopeCase
  clamped : Bool
  disagreeing : Bool
  deriving DecidableEq, Repr

/-- A sum and a count of values (R80). -/
structure Tally where
  sum : Int
  count : Nat
  deriving DecidableEq, Repr

/-- The largest value and a count of values (R80). -/
structure Peak where
  largest : Int
  count : Nat
  deriving DecidableEq, Repr

/-- The four flags of the open station record (R80). -/
structure OpenFlags where
  estimated : Bool
  single : Bool
  disagree : Bool
  saturated : Bool
  deriving DecidableEq, Repr

/-- The open station record (R80). -/
structure OpenRecord where
  station : Nat
  pass : Nat
  speed : PerWheel Tally
  press : PerWheel Peak
  flow : Tally
  flags : OpenFlags
  recovery : Bool
  densityVolume : Int
  volume : Nat
  attributions : Nat
  lastDensity : Option Int
  deriving DecidableEq, Repr

/-- The flags of a logged station record (section 1.12); DENSITY_PRESENT is that the density is present (R87). -/
structure RecordFlags where
  estimated : Bool
  single : Bool
  disagree : Bool
  suppressed : Bool
  saturated : Bool
  auto : Bool
  deriving DecidableEq, Repr

/-- A station record of the profile log (R85). -/
structure StationRecord where
  index : Nat
  pass : Nat
  flags : RecordFlags
  closedAt : RunTime
  offsets : PerAxis Int
  slopes : PerAxis Int
  twist : Int
  meanSpeed : PerWheel Int
  maxPress : PerWheel Int
  plateTargets : Vector Nat 8
  meanFlow : Int
  density : Option Int
  volume : Nat
  deriving DecidableEq, Repr

/-- An entry of the feed-rate ring (R78). -/
structure RingEntry where
  time : RunTime
  depth : Int
  deriving DecidableEq, Repr

/-- What DI holds (R65, R80, R89). `ring` and `log` stand oldest first and in rising index. -/
structure Integrator where
  path : PerAxis AxisPath
  depth : Int
  anchored : Bool
  closure : Bool
  copies : PerAxis SlopeCopy
  ring : List RingEntry
  feedRate : Int
  openRecord : Option OpenRecord
  log : List StationRecord
  deriving DecidableEq, Repr

/-! ### SL, steering plan and steering law (chapters 6 and 7) -/

/-- The kinds of a band (R98). -/
inductive BandKind where
  | steer | suppress
  deriving DecidableEq, Repr

/-- A band (R98). -/
structure Band where
  index : Nat
  kind : BandKind
  top : Int
  bottom : Int
  tX : Int
  tY : Int
  dbX : Int
  dbY : Int
  dbTwist : Int
  gainY : Int
  gainX : Int
  gainW : Int
  endThr : Int
  twistGain : Int
  lookahead : Int
  deriving DecidableEq, Repr

/-- A plan load in LOADING (section 6.4); the load IDLE is `none`. -/
structure PlanLoad where
  declared : Nat
  staged : List Band
  timer : Timer
  deriving DecidableEq, Repr

/-- What SL holds (R99, section 6.4, R116). -/
structure Steering where
  plan : List Band
  version : BitVec 16
  load : Option PlanLoad
  plateDemands : Vector Int 8
  diffDemand : Int
  deriving DecidableEq, Repr

/-! ### PM, plate manifold (chapter 8) -/

/-- The classes of a plate request. -/
inductive PlateClass where
  | urgent | trim
  deriving DecidableEq, Repr

/-- A pending entry of the plate request table (R133). -/
structure PlateEntry where
  target : Nat
  cls : PlateClass
  deriving DecidableEq, Repr

/-- The states of the arbiter (R140). -/
inductive ArbiterState where
  | idle | moving | halted
  deriving DecidableEq, Repr

/-- The move in flight (R142); the timer's end is the deadline (R144). -/
structure PlateMove where
  plate : Plate
  target : Nat
  deadline : Timer
  deriving DecidableEq, Repr

/-- The directions of the manifold (R135). -/
inductive ValveDirection where
  | neutral | extend | retract
  deriving DecidableEq, Repr

/-- The manifold record (R135). -/
structure ManifoldRecord where
  plate : Option Plate
  direction : ValveDirection
  deriving DecidableEq, Repr

/-- What PM holds (R133, R134, R135, R140). A snapshot holds `true` at the plates it contains. -/
structure Manifold where
  table : Vector (Option PlateEntry) 8
  targets : Vector Nat 8
  faulty : Vector Bool 8
  sentRecord : ManifoldRecord
  arbiter : ArbiterState
  nextPhase : PlateClass
  urgentSnap : Vector Bool 8
  trimSnap : Vector Bool 8
  move : Option PlateMove
  deriving DecidableEq, Repr

/-! ### WD, wheel drives (chapter 9) -/

/-- The seven states of a wheel. -/
inductive WheelState where
  | stopped | ramping | running | stopping | stalled | reversing | lockedOut
  deriving DecidableEq, Repr

/-- The directions of a wheel. -/
inductive Direction where
  | forward | reverse
  deriving DecidableEq, Repr

/-- What WD holds for one wheel (R154, R155). -/
structure Wheel where
  state : WheelState
  base : Int
  direction : Direction
  target : Int
  commanded : Int
  carry : Int
  prevSample : Option RunTime
  stallTimer : Option Timer
  stateTimer : Option Timer
  history : List RunTime
  sentSpeed : Int
  deriving DecidableEq, Repr

/-- What WD holds (R154). -/
structure WheelDrives where
  wheels : PerWheel Wheel
  applied : Int
  deriving DecidableEq, Repr

/-! ### SR, slurry return and transit line (chapters 10 and 11) -/

/-- The pump states (R172). -/
inductive PumpState where
  | off | idle | manual | balance | backflush | tripped
  deriving DecidableEq, Repr

/-- A parcel of the transit line (R189). Its volume is a 32-bit count of litres. -/
structure Parcel where
  station : Nat
  pass : Nat
  vIn : Litres
  vline : Nat
  vArrive : Litres
  volume : Litres
  atMeter : Bool
  densitySum : Int
  densityCount : Nat
  deriving DecidableEq, Repr

/-- The cutter copy (R190). -/
structure CutterCopy where
  station : Nat
  pass : Nat
  depth : Int
  deriving DecidableEq, Repr

/-- What SR holds (R171, R188, R189, R190). `line` stands oldest first. -/
structure Slurry where
  pumpState : PumpState
  command : Int
  trim : Int
  manualTarget : Int
  feedCopy : Int
  required : Int
  softMark : Bool
  feedLimit : Int
  feedPermit : Bool
  returnHeavy : Bool
  blockTimer : Option Timer
  returnBlocked : Bool
  backflushTimer : Option Timer
  sentCommand : Int
  sentPermit : Bool
  sentLimit : Int
  vPump : Litres
  flowResidue : Int
  prevFlow : Option RunTime
  line : List Parcel
  cutter : Option CutterCopy
  deriving DecidableEq, Repr

/-! ### TU, trip unit (chapter 12) -/

/-- The states of a trip source (R202). -/
inductive SourceState where
  | clear | active | latched
  deriving DecidableEq, Repr

/-- What TU holds (R202, R207). -/
structure TripUnit where
  sources : Vector SourceState 13
  sets : Vector GroupSet 13
  groups : GroupSet
  operatorOn : Bool
  deriving DecidableEq, Repr

/-! ### Outputs and reports -/

/-- The command records that leave on the field line (R135, R155, R172, R177). -/
inductive FieldRecord where
  | wheelSpeed (wheel : WheelId) (speed : Int)
  | manifold (record : ManifoldRecord)
  | pump (command : Int)
  | feed (permit : Bool) (limit : Int)
  deriving DecidableEq, Repr

/-- What an owner reports to LI for the wait table (R14). -/
inductive Report where
  | station (record : StationRecord)
  | depth (depth : Int)
  | trip (source : Source)
  | mode (mode : Mode)
  | platesIdle
  | attributed (station : Nat)
  deriving DecidableEq, Repr

/-- The whole module. `sent` holds the field-line records of the latest event (log entry 8); `reports` and `plateBusy`
serve within one event (log entry 30); `pending` is the queue of commands. -/
structure State where
  runTime : RunTime
  params : Vector Int 49
  counters : Vector Nat 17
  li : LineInterface
  mp : ModePanel
  fc : FieldChannels
  di : Integrator
  sl : Steering
  pm : Manifold
  wd : WheelDrives
  sr : Slurry
  tu : TripUnit
  sent : List FieldRecord
  reports : List Report
  plateBusy : Bool
  pending : List Instr
  deriving DecidableEq, Repr

/-- Reasons for which the machine stops: none. The manual describes no event after which the module stops. -/
inductive Fault where
  deriving DecidableEq, Repr

/-- Reasons for which a command has no meaning. -/
inductive Refusal where
  /-- Raised by an arm of `exec` that has no meaning yet, with the row's mnemonic (safe: nothing can be proved of the
  command). No arm raises it. -/
  | notModelled (mnemonic : String)
  deriving DecidableEq, Repr

/-! ### The state after power-on -/

/-- The parameter table with every parameter at its default (R20). -/
def defaultParams : Vector Int 49 := Vector.ofFn fun i => ((ParamId.all)[i.val]?.map ParamId.default).getD 0

/-- A channel entry at power-on and restart (section 3.2). -/
def ChannelEntry.initial : ChannelEntry := ⟨.absent, 0, 0, 0, false⟩

/-- LI at power-on and restart (R1, R3, R7, R8, R19; section 1.6). -/
def LineInterface.initial : LineInterface where
  receiver := .hunt
  gapTimer := none
  requestQueue := []
  refusal := none
  handler := .idle
  replyQueue := []
  waits := []
  nextSeq := 0
  line := .free
  linkTimer := some ⟨0, ParamId.linkSilenceTime.default.toNat⟩

/-- MP at power-on (R27, R33, R39). -/
def ModePanel.initial : ModePanel where
  mode := .start
  holdCauses := ⟨false, true, true⟩
  startTimer := some ⟨0, Config.startWindow⟩
  panel := .none
  panelNumber := 0
  cutArea := 10000
  interval := 500

/-- The derived slope of an axis at power-on and restart (section 3.4). -/
def AxisSlope.initial : AxisSlope := ⟨0, .none, false, false, none, false⟩

/-- A discrete input at power-on and restart: the filtered level is set to the raw level present (R54). -/
def DiscreteInput.initial (raw : Level) : DiscreteInput := ⟨raw, raw, none⟩

/-- FC at power-on with the inputs at these raw levels (sections 3.2 to 3.6). -/
def FieldChannels.initial (emergency gear oil : Level) : FieldChannels where
  channels := Vector.replicate 21 ChannelEntry.initial
  windowTimer := ⟨0, Config.windowPeriod⟩
  startOver := false
  sensorStale := false
  emergencyIn := .initial emergency
  gearPressLow := .initial gear
  oilHot := .initial oil
  slopes := ⟨.initial, .initial⟩
  inclDisagree := false
  inclLimit := false
  twistLimit := false
  reference := 0
  lastAccepted := none
  lastRaw := none
  rejections := 0
  recovery := false
  accepted := false

/-- DI at power-on (R65, R80, R90). -/
def Integrator.initial : Integrator where
  path := ⟨⟨0, 0, false⟩, ⟨0, 0, false⟩⟩
  depth := 0
  anchored := false
  closure := false
  copies := ⟨⟨0, .none, false, false⟩, ⟨0, .none, false, false⟩⟩
  ring := []
  feedRate := 0
  openRecord := none
  log := []

/-- SL at power-on and restart (R99, R104, R116). -/
def Steering.initial : Steering where
  plan := []
  version := 0
  load := none
  plateDemands := Vector.replicate 8 0
  diffDemand := 0

/-- PM at power-on and restart (R133, R134, R135, R140). -/
def Manifold.initial : Manifold where
  table := Vector.replicate 8 none
  targets := Vector.replicate 8 0
  faulty := Vector.replicate 8 false
  sentRecord := ⟨none, .neutral⟩
  arbiter := .idle
  nextPhase := .urgent
  urgentSnap := Vector.replicate 8 false
  trimSnap := Vector.replicate 8 false
  move := none

/-- A wheel at power-on and restart (R154). -/
def Wheel.initial : Wheel where
  state := .stopped
  base := 0
  direction := .forward
  target := 0
  commanded := 0
  carry := 0
  prevSample := none
  stallTimer := none
  stateTimer := none
  history := []
  sentSpeed := 0

/-- SR at power-on and restart (R171, R188, R189, R190). -/
def Slurry.initial : Slurry where
  pumpState := .off
  command := 0
  trim := 0
  manualTarget := 0
  feedCopy := 0
  required := 0
  softMark := false
  feedLimit := 0
  feedPermit := false
  returnHeavy := false
  blockTimer := none
  returnBlocked := false
  backflushTimer := none
  sentCommand := 0
  sentPermit := false
  sentLimit := 0
  vPump := 0
  flowResidue := 0
  prevFlow := none
  line := []
  cutter := none

/-- TU at power-on and restart (R202). -/
def TripUnit.initial : TripUnit := ⟨Vector.replicate 13 .clear, defaultSets, 0, false⟩

/-- The command records of START, sent at power-on and restart (R28, R135, R155, R172, R177). -/
def startRecords : List FieldRecord :=
  [.wheelSpeed .a 0, .wheelSpeed .b 0, .manifold ⟨none, .neutral⟩, .pump 0, .feed false 0]

/-- The module at power-on with the inputs at these raw levels, before the inputs report (R43). -/
def State.initial (emergency gear oil : Level) : State where
  runTime := 0
  params := defaultParams
  counters := Vector.replicate 17 0
  li := .initial
  mp := .initial
  fc := .initial emergency gear oil
  di := .initial
  sl := .initial
  pm := .initial
  wd := ⟨⟨.initial, .initial⟩, 0⟩
  sr := .initial
  tu := .initial
  sent := startRecords
  reports := []
  plateBusy := false
  pending := []

/-- The machine right after reset: power-on (R43) with the three inputs inactive, EMERGENCY_IN energised and the other
two de-energised (DESIGN CHOICE, log entries 9 and 10), and no command waiting. -/
def State.reset : State := State.initial .energised .deEnergised .deEnergised

end Sys2Proof.Machine
end

