-- ==== Sys2Proof/Machine/Ops.lean ====
section
/-! DEFINITION. The named operations that every block uses: timers, the parameter table, the counter set, the channel
table, reports to LI, the command records on the field line, and the frame of an event (`State.begin`, `sendRecords`). -/

namespace Sys2Proof.Machine

/-! ### Timers -/

/-- A timer started now with a duration in ms. -/
def State.timer (s : State) (duration : Int) : Timer := ⟨s.runTime, duration.toNat⟩

/-- A timer has reached its deadline: the duration has passed, as an unsigned difference of run times. -/
def Timer.due (t : Timer) (now : RunTime) : Bool := t.duration ≤ now.since t.start

/-- A running timer that has reached its deadline; a stopped timer has none. -/
def timerDue (t : Option Timer) (now : RunTime) : Bool :=
  match t with
  | some t => t.due now
  | none => false

/-- Milliseconds since an earlier arrival, capped at 1,000, and 0 if there is none (R160, R188). -/
def elapsedSince (now : RunTime) (prev : Option RunTime) : Nat :=
  match prev with
  | some p => min (now.since p) Config.elapsedCap
  | none => 0

/-! ### Access to the tables -/

/-- The value of a parameter as it stands (R20). -/
def State.par (s : State) (p : ParamId) : Int := s.params.get p.idx

/-- Store a parameter's value (R21). -/
def State.setPar (s : State) (p : ParamId) (v : Int) : State :=
  { s with params := s.params.set p.idx.val v p.idx.isLt }

/-- One value of a pair, by wheel. -/
def PerWheel.get {α : Type} (p : PerWheel α) : WheelId → α
  | .a => p.a
  | .b => p.b

/-- Replace one value of a pair, by wheel. -/
def PerWheel.set {α : Type} (p : PerWheel α) (w : WheelId) (v : α) : PerWheel α :=
  match w with
  | .a => { p with a := v }
  | .b => { p with b := v }

/-- One value of a pair, by axis. -/
def PerAxis.get {α : Type} (p : PerAxis α) : Axis → α
  | .x => p.x
  | .y => p.y

/-- Replace one value of a pair, by axis. -/
def PerAxis.set {α : Type} (p : PerAxis α) (a : Axis) (v : α) : PerAxis α :=
  match a with
  | .x => { p with x := v }
  | .y => { p with y := v }

/-- The other wheel. -/
def otherWheel : WheelId → WheelId
  | .a => .b
  | .b => .a

/-- A channel entry. -/
def State.chan (s : State) (c : Channel) : ChannelEntry := s.fc.channels.get c.idx

/-- Whether a channel is FRESH; ABSENT is treated as not FRESH (R52). -/
def State.fresh (s : State) (c : Channel) : Bool := (s.chan c).state == .fresh

/-- The last value of a channel, 0 while it is ABSENT (R52). -/
def State.value (s : State) (c : Channel) : Int := (s.chan c).value

/-- Replace a channel entry. -/
def State.setChan (s : State) (c : Channel) (e : ChannelEntry) : State :=
  { s with fc := { s.fc with channels := s.fc.channels.set c.idx.val e c.idx.isLt } }

/-- What WD holds for a wheel. -/
def State.wheel (s : State) (w : WheelId) : Wheel := s.wd.wheels.get w

/-- Replace what WD holds for a wheel. -/
def State.putWheel (s : State) (w : WheelId) (v : Wheel) : State :=
  { s with wd := { s.wd with wheels := s.wd.wheels.set w v } }

/-- Whether a group is tripped (R204). -/
def State.tripped (s : State) (g : Group) : Bool := s.tu.groups.getLsbD g.bit

/-- The state of a trip source. -/
def State.source (s : State) (i : Source) : SourceState := s.tu.sources.get i

/-! ### Counters -/

/-- The counters of R23 by their numbers 1..17. -/
def State.counter (s : State) (n : Nat) : Nat := (s.counters[n - 1]?).getD 0

/-- Increase counter `n` (1..17) by `k`, one at a time: it stays at 65,535 (R23). -/
def State.addCounter (s : State) (n k : Nat) : State :=
  { s with counters := Vector.ofFn fun i : Fin 17 =>
      if i.val + 1 = n then min (s.counters.get i + k) Config.counterCap else s.counters.get i }

/-- Increase counter `n` (1..17) by one (R23). -/
def State.count (s : State) (n : Nat) : State := s.addCounter n 1

/-- Set counter `n` (1..17) to 0 (R40). -/
def State.zeroCounter (s : State) (n : Nat) : State :=
  { s with counters := Vector.ofFn fun i : Fin 17 => if i.val + 1 = n then 0 else s.counters.get i }

/-! ### Reports to LI -/

/-- An owner reports to LI; LI takes all reports of an event at its end (R14). -/
def State.report (s : State) (r : Report) : State := { s with reports := s.reports ++ [r] }

/-! ### The frame of an event -/

/-- PM is not idle: a move is in flight or an entry is pending (R143). -/
def Manifold.busy (pm : Manifold) : Bool := pm.move.isSome || Plate.all.any fun p => (pm.table.get p).isSome

/-- An event begins at run time `now`: nothing has been sent or reported yet. -/
def State.begin (s : State) (now : RunTime) : State :=
  { s with runTime := now, sent := [], reports := [], plateBusy := s.pm.busy }

/-- The manifold record as PM's state gives it: the moving plate, EXTEND when 10 x target is greater than the last
position and RETRACT when it is less; none and NEUTRAL while no move is in flight (R135). A position of exactly
10 x target ends the move, so NEUTRAL never names a plate (log entry 31). -/
def State.manifoldRecord (s : State) : ManifoldRecord :=
  match s.pm.move with
  | none => ⟨none, .neutral⟩
  | some m =>
    let goal : Int := 10 * m.target
    let pos := s.value (.plate m.plate)
    ⟨some m.plate, if pos < goal then .extend else if goal < pos then .retract else .neutral⟩

/-- Send a record. -/
def State.emit (s : State) (r : FieldRecord) : State := { s with sent := s.sent ++ [r] }

/-- Send a wheel's speed record (R155; at a direct setting of the speed R163, R164, R166). -/
def announceWheel (w : WheelId) (s : State) : State :=
  let v := s.wheel w
  (s.putWheel w { v with sentSpeed := v.commanded }).emit (.wheelSpeed w v.commanded)

/-- Send a wheel's speed record if the commanded speed differs from the value last sent (R155). -/
def sendWheel (w : WheelId) (s : State) : State :=
  if (s.wheel w).commanded = (s.wheel w).sentSpeed then s else announceWheel w s

/-- Send the manifold record if the selection or direction differs from the record last sent (R135). -/
def sendManifold (s : State) : State :=
  if s.manifoldRecord = s.pm.sentRecord then s
  else ({ s with pm := { s.pm with sentRecord := s.manifoldRecord } }).emit (.manifold s.manifoldRecord)

/-- Send the pump record if the pump command differs from the value last sent (R172). -/
def sendPump (s : State) : State :=
  if s.sr.command = s.sr.sentCommand then s
  else ({ s with sr := { s.sr with sentCommand := s.sr.command } }).emit (.pump s.sr.command)

/-- Send the feed record if the permit or the limit differs from the values last sent (R177). -/
def sendFeed (s : State) : State :=
  if s.sr.feedPermit = s.sr.sentPermit ∧ s.sr.feedLimit = s.sr.sentLimit then s
  else ({ s with sr := { s.sr with sentPermit := s.sr.feedPermit, sentLimit := s.sr.feedLimit } }).emit
    (.feed s.sr.feedPermit s.sr.feedLimit)

/-- The command records that leave when the event is finished, each with the values as they then stand (R135, R155,
R172, R177). Their order is the model's (log entry 8). -/
def sendRecords (s : State) : State := sendFeed (sendPump (sendManifold (sendWheel .b (sendWheel .a s))))

end Sys2Proof.Machine
end

