-- ==== Sys2Proof/Machine/Flags.lean ====
section
/-! DEFINITION. The flags that the rules compute: the flags of the open station record and of a logged record (R84, R87),
and the flag bytes and bit fields of the operator line (section 1.12). -/

namespace Sys2Proof.Machine

/-- A number from bits, the first being bit 0. -/
def bitsToNat : List Bool → Nat
  | [] => 0
  | b :: bs => (if b then 1 else 0) + 2 * bitsToNat bs

/-- The open record's flags with the tests of one slope copy added: SINGLE for case SINGLE, ESTIMATED for case NONE,
SATURATED for the clamped mark, DISAGREE for the disagreeing mark (R84). -/
def OpenFlags.withSlope (f : OpenFlags) (c : SlopeCopy) : OpenFlags where
  estimated := f.estimated || c.case == .none
  single := f.single || c.case == .single
  disagree := f.disagree || c.disagreeing
  saturated := f.saturated || c.clamped

/-- The flags of a record at its reset (R84). -/
def State.seededFlags (s : State) : OpenFlags :=
  let f := OpenFlags.withSlope (OpenFlags.withSlope ⟨false, false, false, false⟩ s.di.copies.x) s.di.copies.y
  { f with estimated := f.estimated || !s.fresh .depth || !s.fresh .twist }

/-- The flags of a written record: those of the open record with the additions of closure (R87). `recovery` says that
the step that closes the station is a recovery step; `kind` is the kind of the band in force at the boundary. -/
def State.closureFlags (s : State) (r : OpenRecord) (recovery : Bool) (kind : BandKind) : RecordFlags where
  estimated := r.flags.estimated || recovery || r.recovery
  single := r.flags.single
  disagree := r.flags.disagree
  suppressed := kind == .suppress
  saturated := r.flags.saturated || s.di.path.x.saturated || s.di.path.y.saturated
  auto := s.mp.mode == .auto

/-- The flag byte of a station record: bit 0 ESTIMATED, 1 SINGLE, 2 DISAGREE, 3 SUPPRESSED, 4 SATURATED, 5 AUTO,
6 DENSITY_PRESENT, bit 7 zero (section 1.12). -/
def StationRecord.flagByte (r : StationRecord) : Nat :=
  bitsToNat [r.flags.estimated, r.flags.single, r.flags.disagree, r.flags.suppressed, r.flags.saturated, r.flags.auto,
    r.density.isSome]

/-- The path flags of the status body (section 1.12). -/
def State.pathFlags (s : State) : Nat :=
  bitsToNat [s.fc.slopes.x.case != .none, s.fc.slopes.y.case != .none, s.di.path.x.saturated, s.di.path.y.saturated,
    s.fresh .depth]

/-- The pump flags of the status body: bit 0 backflush running, bit 1 PUMP group tripped (section 1.12). -/
def State.pumpFlags (s : State) : Nat := bitsToNat [s.sr.backflushTimer.isSome, s.tripped .pump]

/-- The bits of the sources in a state: bit s - 1 for source s (section 1.12). -/
def State.sourceBits (s : State) (st : SourceState) : Nat := bitsToNat (Source.all.map fun i => s.source i == st)

end Sys2Proof.Machine
end

