-- ==== Sys2Proof/Machine/Plates.lean ====
section
/-! DEFINITION. PM, the plate manifold (chapter 8): the request table, the snapshot arbiter, moves and their ends, the
halted manifold. -/

namespace Sys2Proof.Machine

/-- Write one place of a vector over the plates. -/
def putPlate {α : Type} (v : Vector α 8) (p : Plate) (x : α) : Vector α 8 := v.set p.val x p.isLt

/-- Replace PM's state. -/
def State.putPm (s : State) (pm : Manifold) : State := { s with pm := pm }

/-- The distance |10 x target - position| in 0.1 mm, with the last position of the plate's channel (chapter 8). -/
def State.plateDistance (s : State) (p : Plate) (target : Nat) : Int :=
  magnitude (10 * target - s.value (.plate p))

/-- A plate is within 1 mm of a target (chapter 8). -/
def State.plateAt (s : State) (p : Plate) (target : Nat) : Bool := s.plateDistance p target ≤ Config.plateTolerance

/-- The deadline of a move from now: ceil(200 x D / rate) + 2,000 ms (R144). -/
def State.moveDeadline (s : State) (p : Plate) (target : Nat) : Timer :=
  s.timer (ceilDiv (200 * s.plateDistance p target) (s.par .plateRate) + Config.moveMargin)

/-! ### Snapshots -/

/-- No plate at all. -/
def noPlates : Vector Bool 8 := Vector.replicate 8 false

/-- The lowest-numbered plate of a snapshot. -/
def lowestPlate (v : Vector Bool 8) : Option Plate := Plate.all.find? fun p => v.get p

/-- The plates whose pending entry has a class (R141). -/
def Manifold.waitingOf (pm : Manifold) (c : PlateClass) : Vector Bool 8 :=
  Vector.ofFn fun p : Plate =>
    match pm.table.get p with
    | some e => e.cls == c
    | none => false

/-- Remove a plate's pending entry; it leaves its snapshot (R133, R140). -/
def Manifold.removeEntry (pm : Manifold) (p : Plate) : Manifold :=
  { pm with
    table := putPlate pm.table p none
    urgentSnap := putPlate pm.urgentSnap p false
    trimSnap := putPlate pm.trimSnap p false }

/-- The table and both snapshots emptied (R150, R152). -/
def Manifold.emptied (pm : Manifold) : Manifold :=
  { pm with table := Vector.replicate 8 none, urgentSnap := noPlates, trimSnap := noPlates }

/-! ### The grant point -/

/-- Step 1 of a grant point: the urgent snapshot is captured if it is empty; its lowest-numbered plate is the one to
grant, and the next phase becomes TRIM if that leaves the snapshot empty (R141). -/
def Manifold.tryUrgent (pm : Manifold) : Option (Plate × Manifold) :=
  let snap := match lowestPlate pm.urgentSnap with
    | some _ => pm.urgentSnap
    | none => pm.waitingOf .urgent
  match lowestPlate snap with
  | none => none
  | some p =>
    let rest := putPlate snap p false
    some (p, { pm with
      urgentSnap := rest
      nextPhase := if (lowestPlate rest).isSome then .urgent else .trim })

/-- Step 2 of a grant point: the trim snapshot is captured if it is empty; its lowest-numbered plate is the one to
grant, and the next phase becomes URGENT (R141). -/
def Manifold.tryTrim (pm : Manifold) : Option (Plate × Manifold) :=
  let snap := match lowestPlate pm.trimSnap with
    | some _ => pm.trimSnap
    | none => pm.waitingOf .trim
  match lowestPlate snap with
  | none => none
  | some p => some (p, { pm with trimSnap := putPlate snap p false, nextPhase := .urgent })

/-- The plate to grant at a grant point, by the next phase: steps 1 to 4 of R141. -/
def Manifold.choose (pm : Manifold) : Option (Plate × Manifold) :=
  match pm.nextPhase with
  | .urgent => match pm.tryUrgent with
    | some r => some r
    | none => pm.tryTrim
  | .trim => match pm.tryTrim with
    | some r => some r
    | none => pm.tryUrgent

/-- A move ends DONE, before the grant point that follows (R149). -/
def endDone (s : State) : State :=
  (s.putPm { s.pm with move := none, arbiter := .idle }).count 15

/-- A move of plate `p` ends FAILED, before the grant point that follows: the plate becomes FAULTY (R149). -/
def endFailed (p : Plate) (s : State) : State :=
  (s.putPm { s.pm with move := none, arbiter := .idle, faulty := putPlate s.pm.faulty p true }).count 16

/-- A grant starts the move of a plate to the target of its entry, which is removed (R142). -/
def startMove (p : Plate) (target : Nat) (pm : Manifold) (s : State) : State :=
  { s with
    plateBusy := true
    pm := { pm.removeEntry p with
      targets := putPlate pm.targets p target
      arbiter := .moving
      move := some ⟨p, target, s.moveDeadline p target⟩ } }

/-- A grant point (R141, R142): a granted move that ends at once is followed by a further grant point at the same
event. At most eight grants and the final idling fit in one event, so 9 rounds are enough. -/
def grantRounds : Nat → State → State
  | 0, s => s
  | n + 1, s =>
    match s.pm.choose with
    | none => s.putPm { s.pm with arbiter := .idle, nextPhase := .urgent }
    | some (p, pm) =>
      match pm.table.get p with
      | none => grantRounds n (s.putPm pm)
      | some e =>
        let s := startMove p e.target pm s
        if !s.fresh (.plate p) then grantRounds n (endFailed p s)
        else if s.plateAt p e.target then grantRounds n (endDone s)
        else s

/-- A grant point of the arbiter (R140). -/
def grantPoint (s : State) : State := grantRounds 9 s

/-! ### Requests -/

/-- The class of a replaced entry: URGENT if either the entry or the request is URGENT (R138). -/
def PlateClass.join : PlateClass → PlateClass → PlateClass
  | .trim, .trim => .trim
  | _, _ => .urgent

/-- Case 3 of R136: the move in flight is re-targeted (R148). -/
def retarget (m : PlateMove) (target : Nat) (s : State) : State :=
  if target = m.target then s
  else
    let s := s.putPm { s.pm with
      targets := putPlate s.pm.targets m.plate target
      move := some ⟨m.plate, target, s.moveDeadline m.plate target⟩ }
    if s.plateAt m.plate target then grantPoint (endDone s) else s

/-- Case 4 of R136: the request is met in place (R137). -/
def metInPlace (p : Plate) (target : Nat) (s : State) : State :=
  let pm := s.pm.removeEntry p
  s.putPm { pm with targets := putPlate pm.targets p target }

/-- Case 5 of R136: the pending entry is replaced; an entry upgraded from TRIM to URGENT leaves the trim snapshot
(R138). -/
def replaceEntry (p : Plate) (e : PlateEntry) (target : Nat) (c : PlateClass) (s : State) : State :=
  let cls := e.cls.join c
  s.putPm { s.pm with
    table := putPlate s.pm.table p (some ⟨target, cls⟩)
    trimSnap := if e.cls = .trim ∧ cls = .urgent then putPlate s.pm.trimSnap p false else s.pm.trimSnap }

/-- Case 6 of R136: a pending entry is made, in neither snapshot; while the arbiter is IDLE a grant point follows. -/
def makeEntry (p : Plate) (target : Nat) (c : PlateClass) (s : State) : State :=
  let t := { s.putPm { s.pm with table := putPlate s.pm.table p (some ⟨target, c⟩) } with plateBusy := true }
  if s.pm.arbiter = .idle then grantPoint t else t

/-- Cases 4 to 6 of R136: met in place, replaced, or entered. -/
def requestEntry (p : Plate) (target : Nat) (c : PlateClass) (s : State) : State :=
  if s.fresh (.plate p) && s.plateAt p target then metInPlace p target s
  else
    match s.pm.table.get p with
    | some e => replaceEntry p e target c s
    | none => makeEntry p target c s

/-- A plate request reaches PM and is disposed of by the first case of R136 that applies. -/
def plateRequest (p : Plate) (target : Nat) (c : PlateClass) (s : State) : State :=
  if s.pm.arbiter = .halted then s
  else if s.pm.faulty.get p then s
  else
    match s.pm.move with
    | some m => if m.plate = p then retarget m target s else requestEntry p target c s
    | none => requestEntry p target c s

/-! ### Arrivals, deadlines, channel reports -/

/-- A position sample of a plate arrives: the move of that plate ends DONE when the plate is within 1 mm (R145). -/
def plateArrival (p : Plate) (s : State) : State :=
  match s.pm.move with
  | some m => if m.plate = p ∧ s.plateAt p m.target then grantPoint (endDone s) else s
  | none => s

/-- The move in flight ends FAILED and a grant point follows (R146, R147, R149). -/
def failMove (p : Plate) (s : State) : State := grantPoint (endFailed p s)

/-- FC reports that a plate's position channel has left FRESH (R147). -/
def plateChannelLeft (p : Plate) (s : State) : State :=
  match s.pm.move with
  | some m => if m.plate = p then failMove p s else s
  | none => s

/-! ### Modes and the halted manifold -/

/-- The move in flight ends ABORTED and the table is emptied; no grant point follows (R149, R150, R152). The next phase
becomes URGENT also where the arbiter is HALTED afterwards (DESIGN CHOICE, log entry 33). -/
def Manifold.aborted (pm : Manifold) : Manifold := { pm.emptied with move := none, nextPhase := .urgent }

/-- PM on entry to STANDBY: the arbiter becomes IDLE, or stays HALTED if it is HALTED (R150). -/
def platesStandby (s : State) : State :=
  s.putPm { s.pm.aborted with arbiter := if s.pm.arbiter = .halted then .halted else .idle }

/-- PM on entry to MANUAL: every pending TRIM entry is removed and leaves its snapshot (R150). -/
def platesManual (s : State) : State :=
  let trims := s.pm.waitingOf .trim
  s.putPm { s.pm with
    table := Vector.ofFn fun p : Plate => if trims.get p then none else s.pm.table.get p
    urgentSnap := Vector.ofFn fun p : Plate => s.pm.urgentSnap.get p && !trims.get p
    trimSnap := Vector.ofFn fun p : Plate => s.pm.trimSnap.get p && !trims.get p }

/-- PM at a change of mode to the mode that now stands (R150). -/
def platesEnter (s : State) : State :=
  match s.mp.mode with
  | .standby => platesStandby s
  | .manual => platesManual s
  | .start | .auto | .hold => s

/-- The PLATES group has become tripped: the arbiter becomes HALTED (R152). -/
def platesHalt (s : State) : State := s.putPm { s.pm.aborted with arbiter := .halted }

/-- The PLATES group is no longer tripped: the arbiter becomes IDLE with the next phase URGENT (R153). -/
def platesRelease (s : State) : State := s.putPm { s.pm with arbiter := .idle, nextPhase := .urgent }

end Sys2Proof.Machine
end

