-- ==== Sys2Proof/Machine/Slurry.lean ====
section
/-! DEFINITION. SR's pump, feed limit and feed permit (chapter 10, sections 10.1 to 10.3 and 10.6): the recomputations
that other blocks cause. The watches, the backflush and the transit line stand in Watches.lean and Transit.lean. -/

namespace Sys2Proof.Machine

/-- A backflush runs while its timer runs (R171). -/
def State.backflushing (s : State) : Bool := s.sr.backflushTimer.isSome

/-- The maximum flow, floor(pump max rpm x displacement / 1,000) L/min, from the parameters as they stand (R171). -/
def State.maxFlow (s : State) : Int := floorDiv (s.par .pumpMaxRpm * s.par .displacement) 1000

/-- The feed of the required flow: the feed copy in AUTO, 0 in every other mode (R173). -/
def State.feedForFlow (s : State) : Int := if s.mp.mode = .auto then s.sr.feedCopy else 0

/-- Q_req (R173). -/
def State.requiredFlow (s : State) : Int :=
  clamp 0 s.maxFlow (s.par .baseFlow + floorDiv (s.mp.cutArea * s.feedForFlow * s.par .carry) 1000000)

/-- Recompute the required flow (R173). -/
def recomputeRequired (s : State) : State := { s with sr := { s.sr with required := s.requiredFlow } }

/-- The pump state from the PUMP group, the backflush and the mode, tested in this order (R172). -/
def State.pumpStateNow (s : State) : PumpState :=
  if s.tripped .pump then .tripped
  else if s.backflushing then .backflush
  else match s.mp.mode with
    | .start => .off
    | .standby => .idle
    | .manual => .manual
    | .auto | .hold => .balance

/-- The flow basis Q of the pump state (R174); during a backflush the watch does not use it. -/
def State.flowBasis (s : State) : Int :=
  match s.sr.pumpState with
  | .off | .tripped | .backflush => 0
  | .idle => s.par .idleFlow
  | .manual => s.sr.manualTarget
  | .balance => s.sr.required

/-- The pump command for a flow basis and a trim: the base speed ceil(Q x 1,000 / displacement), times
(1,000 + trim) / 1,000 rounded half up, clamped to 0..pump max rpm (R174). -/
def State.pumpFor (s : State) (q trim : Int) : Int :=
  let c := ceilDiv (q * 1000) (s.par .displacement)
  clamp 0 (s.par .pumpMaxRpm) (roundHalfUp (c * (1000 + trim)) 1000)

/-- The backflush command, -(backflush speed) limited to pump max rpm (R174). -/
def State.backflushCommand (s : State) : Int := -(min (s.par .backflushSpeed) (s.par .pumpMaxRpm))

/-- Recompute the pump command for the pump state (R174). The command of a running backflush is fixed at its start
(R182, R187). -/
def recomputePump (s : State) : State :=
  match s.sr.pumpState with
  | .backflush => s
  | .off | .tripped => { s with sr := { s.sr with command := 0 } }
  | .idle | .manual => { s with sr := { s.sr with command := s.pumpFor s.flowBasis 0 } }
  | .balance => { s with sr := { s.sr with command := s.pumpFor s.flowBasis s.sr.trim } }

/-- The pump state follows R172 and the command follows the pump state (R174). -/
def refreshPump (s : State) : State :=
  recomputePump { s with sr := { s.sr with pumpState := s.pumpStateNow } }

/-- The slurry-limited feed (R177). -/
def State.slurryLimitedFeed (s : State) : Int :=
  clamp 0 2000 (floorDiv ((s.maxFlow - s.par .baseFlow) * 1000000) (s.mp.cutArea * s.par .carry))

/-- The feed limit: 0 in START, otherwise the lesser of the operator feed limit and the slurry-limited feed, halved by
floor division while the soft-density mark is set (R177). -/
def State.feedLimitNow (s : State) : Int :=
  if s.mp.mode = .start then 0
  else
    let l := min (s.par .operatorFeedLimit) s.slurryLimitedFeed
    if s.sr.softMark then floorDiv l 2 else l

/-- Recompute the feed limit (R177). -/
def recomputeFeedLimit (s : State) : State := { s with sr := { s.sr with feedLimit := s.feedLimitNow } }

/-- The feed permit is on only while the mode is MANUAL or AUTO, both wheels are RUNNING, the FEED group is untripped
and no backflush is running (R178). -/
def State.permitNow (s : State) : Bool :=
  (s.mp.mode == .manual || s.mp.mode == .auto) && (s.wheel .a).state == .running && (s.wheel .b).state == .running
    && !s.tripped .feed && !s.backflushing

/-- Recompute the feed permit (R178). -/
def recomputePermit (s : State) : State := { s with sr := { s.sr with feedPermit := s.permitNow } }

/-- DI hands over a feed rate: SR stores it as the feed copy and recomputes the required flow and the pump command
(R173). -/
def feedHandOff (rate : Int) (s : State) : State :=
  recomputePump (recomputeRequired { s with sr := { s.sr with feedCopy := rate } })

/-- SR at a change of mode from `old` to the mode that now stands: the trim becomes 0, an entry to STANDBY ends a
running backflush, and the pump, the feed limit at the end of START, and the permit follow (R38, R173, R177, R178,
R183). -/
def slurryEnter (old : Mode) (s : State) : State :=
  let s := { s with sr := { s.sr with
    trim := 0
    backflushTimer := if s.mp.mode = .standby then none else s.sr.backflushTimer } }
  let s := refreshPump (recomputeRequired s)
  let s := if old = .start then recomputeFeedLimit s else s
  recomputePermit s

/-- The PUMP group has become tripped (R185). The permit is recomputed by R178, so that the end of a running backflush can
turn it on, where R185 speaks of the permit turning off (DEDUCED, log entry 38). -/
def pumpTripped (s : State) : State :=
  recomputePermit (refreshPump { s with sr := { s.sr with backflushTimer := none, trim := 0, manualTarget := 0 } })

/-- The PUMP group is no longer tripped (R185). -/
def pumpUntripped (s : State) : State := recomputePermit (refreshPump s)

end Sys2Proof.Machine
end

