-- ==== Sys2Proof/Machine/Wheels.lean ====
section
/-! DEFINITION. WD, the cutter wheel drives (chapter 9). Every change of a wheel goes through `changeWheel`, which zeroes
the applied differential when a wheel leaves RUNNING (R158) and reports to SR (R170). -/

namespace Sys2Proof.Machine

/-- RAMPING, RUNNING, STALLED or REVERSING: the states that a stop sends to STOPPING (R38, R168, R169). -/
def WheelState.moving : WheelState → Bool
  | .ramping | .running | .stalled | .reversing => true
  | .stopped | .stopping | .lockedOut => false

/-- The target speed of a wheel by its state (R159). The reverse command of a REVERSING wheel stands in its target. -/
def State.targetOf (s : State) (w : WheelId) (v : Wheel) : Int :=
  let top := s.par .maxWheelSpeed
  match v.state with
  | .ramping | .running =>
    match v.direction, w with
    | .forward, .a => clamp 0 top (v.base - s.wd.applied)
    | .forward, .b => clamp 0 top (v.base + s.wd.applied)
    | .reverse, _ => -v.base
  | .reversing => v.target
  | .stopped | .stopping | .stalled | .lockedOut => 0

/-- Form a wheel's target anew (R159). -/
def State.formed (s : State) (w : WheelId) (v : Wheel) : Wheel := { v with target := s.targetOf w v }

/-- Form both targets anew (R158, R159). -/
def formTargets (s : State) : State :=
  let s := s.putWheel .a (s.formed .a (s.wheel .a))
  s.putWheel .b (s.formed .b (s.wheel .b))

/-- Set the applied differential; both targets are formed anew at each change of it (R158). -/
def setApplied (d : Int) (s : State) : State :=
  if d = s.wd.applied then s else formTargets { s with wd := { s.wd with applied := d } }

/-- WD gives a wheel a new value. A wheel leaving RUNNING makes the applied differential 0 (R158), and SR recomputes
the permit from the states reported to it (R170, R178). -/
def changeWheel (w : WheelId) (v : Wheel) (s : State) : State :=
  let left := (s.wheel w).state = .running ∧ v.state ≠ .running
  let s := s.putWheel w v
  recomputePermit (if left then setApplied 0 s else s)

/-- A wheel goes to STOPPING: target 0 and both timers stopped (R156, R162, R168, R169). -/
def Wheel.toStopping (v : Wheel) : Wheel :=
  { v with state := .stopping, target := 0, stallTimer := none, stateTimer := none }

/-- A wheel takes a differential sent by SL: it is applied if the mode is AUTO and both wheels are RUNNING, and is 0
otherwise (R158). -/
def differentialSent (d : Int) (s : State) : State :=
  setApplied (if s.mp.mode = .auto ∧ (s.wheel .a).state = .running ∧ (s.wheel .b).state = .running then d else 0) s

/-! ### WHEEL_SET and WHEEL_CLEAR -/

/-- WHEEL_SET's effect on the wheel's state, base speed and direction being stored already (table of R156). -/
def wheelSetState (w : WheelId) (v : Wheel) (s : State) : Wheel :=
  if v.base = 0 then
    match v.state with
    | .ramping | .running | .stalled | .reversing => v.toStopping
    | .stopped | .stopping | .lockedOut => v
  else
    match v.state with
    | .stopped | .stopping => s.formed w { v with state := .ramping }
    | .ramping => s.formed w v
    | .running =>
      let n := s.formed w v
      if s.par .runningBand < magnitude (n.target - v.target) then { n with state := .ramping } else n
    | .stalled | .reversing | .lockedOut => v

/-- WD carries out WHEEL_SET with a base speed within the maximum (R156). -/
def wheelSet (w : WheelId) (d : Direction) (base : Int) (s : State) : State :=
  let v := { s.wheel w with base := base, direction := d }
  changeWheel w (wheelSetState w v s) s

/-! ### The ramp and the states that follow it -/

/-- The ramp step of a SPEED arrival (R160). -/
def rampStep (v : Wheel) (s : State) : Wheel :=
  let elapsed : Int := elapsedSince s.runTime v.prevSample
  let v := { v with prevSample := some s.runTime }
  match v.state with
  | .ramping | .running | .stopping =>
    let amount := s.par .rampRate * elapsed + v.carry
    let step := floorDiv amount 1000
    if magnitude (v.target - v.commanded) ≤ step then { v with commanded := v.target, carry := 0 }
    else
      { v with
        commanded := if v.commanded < v.target then v.commanded + step else v.commanded - step
        carry := keptRemainder amount 1000 }
  | .stopped | .stalled | .reversing | .lockedOut => v

/-- The test of the wheel's state after the ramp step, with the measured speed that has just arrived (R161). -/
def rampTest (measured : Int) (v : Wheel) (s : State) : Wheel :=
  match v.state with
  | .ramping =>
    if v.commanded = v.target ∧ magnitude (measured - v.commanded) ≤ s.par .runningBand then
      { v with state := .running }
    else v
  | .stopping =>
    if v.commanded = 0 ∧ magnitude measured < 5 then { v with state := .stopped, stallTimer := none } else v
  | _ => v

/-- The stall condition: pressure greater than the stall pressure and 10 x |measured| less than |commanded| (R162). -/
def stallCondition (w : WheelId) (v : Wheel) (s : State) : Bool :=
  s.par .stallPressure < s.value (.press w) && 10 * magnitude (s.value (.speed w)) < magnitude v.commanded

/-- The stall evaluation of a SPEED or PRESS arrival (R162). -/
def stallEvaluate (w : WheelId) (v : Wheel) (s : State) : Wheel :=
  match v.state with
  | .ramping | .running | .reversing =>
    if s.fresh (.speed w) && s.fresh (.press w) then
      if stallCondition w v s then
        match v.stallTimer with
        | none => { v with stallTimer := some (s.timer (s.par .stallTime)) }
        | some _ => v
      else { v with stallTimer := none }
    else v
  | _ => v

/-- WD takes a SPEED arrival: ramp step, state test, stall evaluation (R160, R161, R162). -/
def speedArrival (w : WheelId) (measured : Int) (s : State) : State :=
  changeWheel w (stallEvaluate w (rampTest measured (rampStep (s.wheel w) s) s) s) s

/-- WD takes a PRESS arrival: stall evaluation (R162). -/
def pressArrival (w : WheelId) (s : State) : State := changeWheel w (stallEvaluate w (s.wheel w) s) s

/-- FC reports that a SPEED or PRESS channel of the wheel has left FRESH: the stall timer stops (R162). -/
def wheelChannelLeft (w : WheelId) (s : State) : State := changeWheel w { s.wheel w with stallTimer := none } s

/-! ### Stalls, reversing and lockout -/

/-- The wheel becomes STALLED (R163). -/
def stall (w : WheelId) (s : State) : State :=
  let s := changeWheel w { s.wheel w with
    state := .stalled, target := 0, commanded := 0, carry := 0, stallTimer := none
    stateTimer := some (s.timer Config.stallPause) } s
  s.count (match w with | .a => 11 | .b => 12)

/-- The attempts of the last 60 s: those at the front that lie 60,000 ms or more before now are removed (R164). -/
def State.recentAttempts (s : State) (history : List RunTime) : List RunTime :=
  history.dropWhile fun t => Config.attemptSpan ≤ s.runTime.since t

/-- The reverse command: the reverse speed limited to the maximum, opposite to the wheel's direction (R164). -/
def State.reverseCommand (s : State) (d : Direction) : Int :=
  let v := min (s.par .reverseSpeed) (s.par .maxWheelSpeed)
  match d with
  | .forward => -v
  | .reverse => v

/-- Entry to REVERSING (R164). -/
def reverseEntry (w : WheelId) (s : State) : State :=
  let v := s.wheel w
  let r := s.reverseCommand v.direction
  let s := changeWheel w { v with
    state := .reversing, target := r, commanded := r, carry := 0
    history := s.recentAttempts v.history ++ [s.runTime]
    stateTimer := some (s.timer (s.par .reverseTime)) } s
  s.count (match w with | .a => 13 | .b => 14)

/-- Entry to LOCKED_OUT, without the report to TU (R166). -/
def lockOut (w : WheelId) (s : State) : State :=
  let v := s.wheel w
  changeWheel w { v with
    state := .lockedOut, target := 0, commanded := 0, carry := 0, base := 0
    history := s.recentAttempts v.history
    stallTimer := none, stateTimer := none } s

/-- Whether a STALLED wheel reverses at the end of its pause: auto-reverse is on and fewer than 3 attempts lie in the
last 60 s (R164). -/
def State.mayReverse (s : State) (w : WheelId) : Bool :=
  s.par .autoReverse == 1 && (s.recentAttempts (s.wheel w).history).length < Config.attemptLimit

/-- The end of the reverse time: the wheel enters RAMPING (R165). -/
def reverseEnd (w : WheelId) (s : State) : State :=
  changeWheel w (s.formed w { s.wheel w with state := .ramping, stateTimer := none }) s

/-- The trip source of a wheel's lockout (R166). -/
def lockoutSource : WheelId → Source
  | .a => Source.wheelALockout
  | .b => Source.wheelBLockout

/-- WHEEL_CLEAR on a LOCKED_OUT wheel, without the report to TU (R167). -/
def wheelClear (w : WheelId) (s : State) : State :=
  changeWheel w { s.wheel w with state := .stopped, history := [] } s

/-! ### Modes and group trips -/

/-- Entry to STANDBY for one wheel (R38, R168). -/
def Wheel.enterStandby (v : Wheel) : Wheel :=
  let v := { v with base := 0, direction := .forward }
  if v.state.moving then v.toStopping else v

/-- Entry to AUTO or HOLD from STANDBY or MANUAL for one wheel (R38, R168). -/
def Wheel.dropReverse (v : Wheel) : Wheel :=
  match v.direction with
  | .forward => v
  | .reverse =>
    let v := { v with base := 0, direction := .forward }
    if v.state.moving then v.toStopping else v

/-- WD at a change of mode from `old` to the mode that now stands: the wheels of the table in R38, the applied
differential 0, and the targets formed anew (R158, R168). -/
def wheelsEnter (old : Mode) (s : State) : State :=
  let f : Wheel → Wheel :=
    match s.mp.mode with
    | .standby => Wheel.enterStandby
    | .auto | .hold => if old = .standby ∨ old = .manual then Wheel.dropReverse else id
    | .manual | .start => id
  let s := (s.putWheel .a (f (s.wheel .a)))
  let s := (s.putWheel .b (f (s.wheel .b)))
  recomputePermit (formTargets { s with wd := { s.wd with applied := 0 } })

/-- The group of a wheel has become tripped (R169). -/
def wheelTripped (w : WheelId) (s : State) : State :=
  let v := s.wheel w
  match v.state with
  | .ramping | .running | .stalled | .reversing => changeWheel w { v.toStopping with base := 0 } s
  | .stopping => changeWheel w { v with base := 0 } s
  | .stopped | .lockedOut => s

/-- One wheel at the event that stores a lowered maximum: base speed, commanded speed and reverse command are clamped
to the new maximum (R157, log entry 19). -/
def Wheel.limit (top : Int) (v : Wheel) : Wheel :=
  { v with base := clamp 0 top v.base, commanded := clamp (-top) top v.commanded, target := clamp (-top) top v.target }

/-- The event that stores the maximum wheel speed, `old` being the value before. A lowered maximum clamps both wheels
and forms each target anew; a raised one changes no base speed, target or commanded speed (R157). A maximum stored anew
without a change forms no target (DEDUCED, log entry 19). -/
def maximumStored (old : Int) (s : State) : State :=
  let top := s.par .maxWheelSpeed
  if top < old then
    let s := s.putWheel .a ((s.wheel .a).limit top)
    formTargets (s.putWheel .b ((s.wheel .b).limit top))
  else s

end Sys2Proof.Machine
end

