-- ==== Sys2Proof/Machine/Steering.lean ====
section
/-! DEFINITION. SL: the band lookup (chapter 6) and the steering law (chapter 7). The plan load stands with the requests
(RequestsPlan.lean). -/

namespace Sys2Proof.Machine

/-! ### Bands -/

/-- The default band, built from the parameters as they stand; of kind STEER, without top or bottom (R100). -/
def State.defaultBand (s : State) : Band where
  index := 0
  kind := .steer
  top := 0
  bottom := 0
  tX := s.par .defTX
  tY := s.par .defTY
  dbX := s.par .defDbX
  dbY := s.par .defDbY
  dbTwist := s.par .defDbTwist
  gainY := s.par .defGainY
  gainX := s.par .defGainX
  gainW := s.par .defGainW
  endThr := s.par .defEndThr
  twistGain := s.par .defTwistGain
  lookahead := s.par .defLookahead

/-- A band covers a depth when top <= d < bottom (R98). -/
def Band.covers (b : Band) (d : Int) : Bool := b.top ≤ d && d < b.bottom

/-- The band in force at a depth (R101). -/
def State.bandAt (s : State) (d : Int) : Band := (s.sl.plan.find? fun b => b.covers d).getD s.defaultBand

/-! ### The components (section 7.3) -/

/-- The projection of an axis over a lookahead (R77). -/
def projection (offset slope lookahead : Int) : Int :=
  clamp (-Config.offsetLimit) Config.offsetLimit (offset + truncDiv (slope * lookahead) 100)

/-- A plate component: nothing within the dead band or threshold, otherwise the floor of excess x gain / scale
(R119, R120, R122). -/
def component (error deadBand gain scale : Int) : Int :=
  let excess := magnitude error - deadBand
  if excess ≤ 0 then 0 else floorDiv (excess * gain) scale

/-- The plates of the Y component by the sign of eY (R119). -/
def yServing (eY : Int) (p : Plate) : Bool :=
  (0 < eY && (p == Plate.fl || p == Plate.fr)) || (eY < 0 && (p == Plate.rl || p == Plate.rr))

/-- The twist-serving plates by the sign of the twist (R120). -/
def twistServing (twist : Int) (p : Plate) : Bool :=
  (0 < twist && (p == Plate.fr || p == Plate.rl)) || (twist < 0 && (p == Plate.fl || p == Plate.rr))

/-- The end plates by the sign of eX (R122). -/
def endServing (eX : Int) (p : Plate) : Bool :=
  (0 < eX && (p == Plate.eru || p == Plate.erl)) || (eX < 0 && (p == Plate.elu || p == Plate.ell))

/-- The signed excess of the X error (R121). -/
def signedExcess (eX dbX : Int) : Int :=
  if dbX < eX then eX - dbX else if eX < -dbX then eX + dbX else 0

/-- The differential of an X error (R121). -/
def differentialOf (eX : Int) (b : Band) (limit : Int) : Int :=
  clamp (-limit) limit (truncDiv (signedExcess eX b.dbX * b.gainW) 1000)

/-- The X error against the target of a band: projected offset less target (R121). -/
def State.errorX (s : State) (b : Band) : Int :=
  projection s.di.path.x.offset s.di.copies.x.slope b.lookahead - b.tX

/-- The Y error against the target of a band (R119). -/
def State.errorY (s : State) (b : Band) : Int :=
  projection s.di.path.y.offset s.di.copies.y.slope b.lookahead - b.tY

/-- A plate's demand: the sum of the components that name it, clamped to 0..100 mm (R123). The twist component counts
only while the TWIST channel is FRESH (R120). -/
def State.demandOf (s : State) (b : Band) (p : Plate) : Int :=
  let eX := s.errorX b
  let eY := s.errorY b
  let twist := s.value .twist
  let y := if yServing eY p then component eY b.dbY b.gainY 100000 else 0
  let t := if s.fresh .twist && twistServing twist p then component twist b.dbTwist b.twistGain 100 else 0
  let e := if endServing eX p then component eX b.endThr b.gainX 100000 else 0
  clamp 0 100 (y + t + e)

/-- The class of a request from SL (R126). -/
def State.requestClass (s : State) (p : Plate) : PlateClass :=
  if s.fresh .twist && s.par .twistUrgent < magnitude (s.value .twist) && twistServing (s.value .twist) p then .urgent
  else .trim

/-! ### Evaluation -/

/-- SL hands PM the request of one plate if its demand differs from the plate's current target, as it stood before any
request of this evaluation, by the hysteresis or more (R118, R125). -/
def handPlate (before : State) (demands : Vector Int 8) (s : State) (p : Plate) : State :=
  let demand := demands.get p
  if before.par .hysteresis ≤ magnitude (demand - (before.pm.targets.get p : Int)) then
    plateRequest p demand.toNat (before.requestClass p) s
  else s

/-- An evaluation of the steering law with a band (R117 to R126): the nine demands are replaced, the differential goes
to WD, the plate requests go to PM in ascending plate number. -/
def evaluate (b : Band) (s : State) : State :=
  let demands : Vector Int 8 := Vector.ofFn fun p => s.demandOf b p
  let diff := differentialOf (s.errorX b) b (s.par .diffMax)
  let t := differentialSent diff { s with sl := { s.sl with plateDemands := demands, diffDemand := diff } }
  Plate.all.foldl (handPlate s demands) t

/-- A depth event in a SUPPRESS band: the differential demand becomes 0 and 0 is sent; the plate demands are kept
(R103). -/
def suppress (s : State) : State := differentialSent 0 { s with sl := { s.sl with diffDemand := 0 } }

/-- SL at a depth event that DI hands over, at the integrated depth: in AUTO it looks up the band in force and evaluates
or freezes; in other modes it takes no action (R102, R117). -/
def steerAtDepth (s : State) : State :=
  if s.mp.mode = .auto then
    let b := s.bandAt s.di.depth
    match b.kind with
    | .steer => evaluate b s
    | .suppress => suppress s
  else s

/-- The event that stores the differential limit: SL clamps its demand to it, and sends the demand to WD if it changes
(R131). In AUTO with both wheels RUNNING WD applies it (R158), also between the return from HOLD and the first evaluation
after it, where the last sentence of R124 has WD hold 0 (DEDUCED, log entry 35). -/
def diffMaxStored (s : State) : State :=
  let d := clamp (-(s.par .diffMax)) (s.par .diffMax) s.sl.diffDemand
  if d = s.sl.diffDemand then s else differentialSent d { s with sl := { s.sl with diffDemand := d } }

end Sys2Proof.Machine
end

