-- ==== Sys2Proof/Machine/Profile.lean ====
section
/-! DEFINITION. DI's open station record and the profile log (chapter 5): reset, gathering, closure, attribution. -/

namespace Sys2Proof.Machine

/-! ### The log -/

/-- The record of the log at an index, if its place holds one (R89). -/
def Log.at (log : List StationRecord) (k : Nat) : Option StationRecord := log.find? fun r => r.index == k

/-- Store a record in the place of its index, replacing any record already there (R89). -/
def Log.store (log : List StationRecord) (r : StationRecord) : List StationRecord :=
  match log with
  | [] => [r]
  | q :: rest => if r.index < q.index then r :: q :: rest else if r.index = q.index then r :: rest else q :: Log.store rest r

/-- The log's form: at most one record for each index, only indices 0..511, in rising order, each pass 1..255 (R89). -/
def Log.wf (log : List StationRecord) : Bool :=
  decide (log.Pairwise fun q r => q.index < r.index) && log.all fun r => r.index ≤ Config.logTop && 1 ≤ r.pass && r.pass ≤ 255

/-- The present records of an index range, in index order (R91). -/
def Log.range (log : List StationRecord) (first last : Nat) : List StationRecord :=
  log.filter fun r => first ≤ r.index && r.index ≤ last

/-! ### The open record -/

/-- The pass of a record at its reset: one above the logged record's, at most 255, or 1 (R81). -/
def passFor (log : List StationRecord) (k : Nat) : Nat :=
  match Log.at log k with
  | some r => min (r.pass + 1) 255
  | none => 1

/-- The open record reset for station `k` (R80, R81, R84). -/
def State.freshRecord (s : State) (k : Nat) : OpenRecord where
  station := k
  pass := passFor s.di.log k
  speed := ⟨⟨0, 0⟩, ⟨0, 0⟩⟩
  press := ⟨⟨0, 0⟩, ⟨0, 0⟩⟩
  flow := ⟨0, 0⟩
  flags := s.seededFlags
  recovery := false
  densityVolume := 0
  volume := 0
  attributions := 0
  lastDensity := none

/-- Replace the open record. -/
def setOpen (r : Option OpenRecord) (s : State) : State := { s with di := { s.di with openRecord := r } }

/-- Change the open record, if there is one. -/
def changeOpen (f : OpenRecord → OpenRecord) (s : State) : State := setOpen (s.di.openRecord.map f) s

/-- The station index that contains a depth, if the depth is 0 or more (R65). -/
def stationAt (depth interval : Int) : Option Nat :=
  if 0 ≤ depth then some (floorDiv depth interval).toNat else none

/-- The cutter stands in the station that contains the integrated depth: the open record is reset for it, or there is
no open station (R40, R41, R45, R68). -/
def resetOpenAtDepth (s : State) : State :=
  setOpen ((stationAt s.di.depth s.mp.interval).map s.freshRecord) s

/-- A boundary has been crossed into station `k` (R72, R73); below 0 there is no station. -/
def enterStation (k : Int) (s : State) : State :=
  setOpen (if 0 ≤ k then some (s.freshRecord k.toNat) else none) s

/-! ### Gathering (R83, R84) -/

/-- A value added to a sum, until the count stands at 16,777,215 (R83). -/
def Tally.add (t : Tally) (v : Int) : Tally :=
  if t.count < Config.gatherCap then ⟨t.sum + v, t.count + 1⟩ else t

/-- A value kept as the largest if it is greater or the first (R83). -/
def Peak.add (t : Peak) (v : Int) : Peak :=
  ⟨if t.count = 0 ∨ t.largest < v then v else t.largest, min (t.count + 1) Config.gatherCap⟩

/-- DI gathers a SPEED value (R83). -/
def gatherSpeed (w : WheelId) (v : Int) : State → State :=
  changeOpen fun r => { r with speed := r.speed.set w ((r.speed.get w).add v) }

/-- DI gathers a PRESS value (R83). -/
def gatherPress (w : WheelId) (v : Int) : State → State :=
  changeOpen fun r => { r with press := r.press.set w ((r.press.get w).add v) }

/-- DI gathers a RET_FLOW value (R83). -/
def gatherFlow (v : Int) : State → State := changeOpen fun r => { r with flow := r.flow.add v }

/-- The DEPTH or TWIST channel has left FRESH: ESTIMATED (R84). -/
def markEstimated : State → State := changeOpen fun r => { r with flags := { r.flags with estimated := true } }

/-- A slope hand-off from FC: the copy of the axis is replaced and the open record marked (R66, R84). -/
def slopeHandOff (a : Axis) (c : SlopeCopy) (s : State) : State :=
  changeOpen (fun r => { r with flags := r.flags.withSlope c })
    { s with di := { s.di with copies := s.di.copies.set a c } }

/-! ### Closure (R85 to R89) -/

/-- The mean of a sum, rounded half up, or the channel's last value if nothing was gathered (R85). -/
def Tally.mean (t : Tally) (last : Int) : Int := if t.count = 0 then last else roundHalfUp t.sum t.count

/-- The largest value, or the channel's last value if nothing was gathered (R85). -/
def Peak.max (t : Peak) (last : Int) : Int := if t.count = 0 then last else t.largest

/-- The density of a closing record (R88). -/
def OpenRecord.density (r : OpenRecord) : Option Int :=
  if r.attributions = 0 then none
  else if 0 < r.volume then some (roundHalfUp r.densityVolume r.volume)
  else r.lastDensity

/-- The station record of station `k` that closes at boundary `b` (R85, R87, R88). -/
def State.closingRecord (s : State) (r : OpenRecord) (k : Nat) (b : Int) (recovery : Bool) : StationRecord where
  index := k
  pass := r.pass
  flags := s.closureFlags r recovery (s.bandAt b).kind
  closedAt := s.runTime
  offsets := ⟨s.di.path.x.offset, s.di.path.y.offset⟩
  slopes := ⟨s.di.copies.x.slope, s.di.copies.y.slope⟩
  twist := s.value .twist
  meanSpeed := ⟨r.speed.a.mean (s.value (.speed .a)), r.speed.b.mean (s.value (.speed .b))⟩
  maxPress := ⟨r.press.a.max (s.value (.press .a)), r.press.b.max (s.value (.press .b))⟩
  plateTargets := s.pm.targets
  meanFlow := r.flow.mean (s.value .retFlow)
  density := r.density
  volume := if r.attributions = 0 then 0 else r.volume

/-- DI hands a record to the profile log: stored and reported to LI, or counted beyond the log (R89). The closure sets
the closure mark (R72). -/
def writeRecord (r : StationRecord) (s : State) : State :=
  let s := { s with di := { s.di with closure := true } }
  if r.index ≤ Config.logTop then
    ({ s with di := { s.di with log := Log.store s.di.log r } }).report (.station r)
  else s.count 7

/-- The closure of station `k` at boundary `b` going down (R72, R85). A cutter below 0 has no station to close, and the
boundary at 0 closes nothing; in every state that the module reaches an open record stands at any later boundary. -/
def closeStation (k b : Int) (recovery : Bool) (s : State) : State :=
  match s.di.openRecord with
  | some r => if 0 ≤ k then writeRecord (s.closingRecord r k.toNat b recovery) s else s
  | none => s

/-! ### Attribution (R92 to R94) -/

/-- An attribution weighted into a logged record (R93). -/
def StationRecord.weigh (r : StationRecord) (density : Int) (volume : Nat) : StationRecord :=
  match r.density with
  | none => { r with density := some density, volume := volume }
  | some old =>
    if 0 < r.volume + volume then
      { r with
        density := some (roundHalfUp (old * r.volume + density * volume) (r.volume + volume : Nat))
        volume := r.volume + volume }
    else { r with density := some density, volume := 0 }

/-- An attribution accepted into the open record (R92 step 2). -/
def OpenRecord.accept (r : OpenRecord) (density : Int) (volume : Nat) : OpenRecord :=
  { r with
    densityVolume := r.densityVolume + density * volume
    volume := r.volume + volume
    attributions := r.attributions + 1
    lastDensity := some density }

/-- The open record is the one of this station and pass (R92 step 2). -/
def State.openMatches (s : State) (k pass : Nat) : Bool :=
  match s.di.openRecord with
  | some r => r.station == k && r.pass == pass
  | none => false

/-- An attribution reaches DI (R92): discarded and counted while the panel is not OPEN; accepted into the open record
of its station and pass, or into the logged record of that pass; discarded and counted otherwise. An acceptance is
reported to LI (R94). -/
def attribution (k pass : Nat) (density : Int) (volume : Nat) (s : State) : State :=
  if s.mp.panel ≠ .opened then s.count 10
  else if s.openMatches k pass then (changeOpen (fun r => r.accept density volume) s).report (.attributed k)
  else
    match Log.at s.di.log k with
    | some r =>
      if r.pass = pass then
        ({ s with di := { s.di with log := Log.store s.di.log (r.weigh density volume) } }).report (.attributed k)
      else s.count 10
    | none => s.count 10

end Sys2Proof.Machine
end

