-- ==== Sys2Proof/Machine/Transit.lean ====
section
/-! DEFINITION. The pumped volume and the transit line (chapter 11). -/

namespace Sys2Proof.Machine

/-- SR empties the transit line, each parcel removed increasing counter 9 (R197). -/
def emptyLine (s : State) : State :=
  ({ s with sr := { s.sr with line := [] } }).addCounter 9 s.sr.line.length

/-- DI hands SR its open station, pass and integrated depth; the copy is absent while there is no open station (R75,
R81, R190). -/
def cutterHandOff (s : State) : State :=
  { s with sr := { s.sr with cutter := s.di.openRecord.map fun r => ⟨r.station, r.pass, s.di.depth⟩ } }

/-! ### Placing (R191 to R193) -/

/-- The hose volume at a depth: floor((depth + surface hose length) x bore area / 10,000) L, the depth clamped at 0 or
more (R192). -/
def State.vlineAt (s : State) (depth : Int) : Nat :=
  (floorDiv ((max 0 depth + s.par .hoseLength) * s.par .boreArea) 10000).toNat

/-- A parcel opened with `litres`; `vIn` is V_pump before the arrival's litres were added (R192). -/
def State.openedParcel (s : State) (c : CutterCopy) (vIn : Litres) (litres : Nat) : Parcel where
  station := c.station
  pass := c.pass
  vIn := vIn
  vline := s.vlineAt c.depth
  vArrive := vIn + BitVec.ofNat 32 (s.vlineAt c.depth)
  volume := BitVec.ofNat 32 litres
  atMeter := false
  densitySum := 0
  densityCount := 0

/-- How an addition of litres is placed (the cases of R191). -/
inductive Placement where
  /-- Case 1: no parcel takes the litres. -/
  | nowhere
  /-- Cases 2 to 5: a parcel opens. -/
  | opens (copy : CutterCopy)
  /-- Case 6: the litres are merged into the youngest of a full line. -/
  | merge
  /-- Case 7: the youngest parcel's volume increases. -/
  | grows
  deriving DecidableEq, Repr

/-- The first case of R191 that applies, for the cutter copy, the line and the parcel size as they stand. -/
def placement (cutter : Option CutterCopy) (line : List Parcel) (size : Int) : Placement :=
  match cutter with
  | none => .nowhere
  | some c =>
    match line.getLast? with
    | none => .opens c
    | some y =>
      if y.atMeter then .opens c
      else if y.station ≠ c.station ∨ y.pass ≠ c.pass ∨ size ≤ (y.volume.toNat : Int) then
        if line.length < Config.lineSize then .opens c else .merge
      else .grows

/-- The youngest parcel takes litres (R191 case 7, R193); its volume has 32 bits (R189), and wraps beyond them (DESIGN
CHOICE, log entry 22). -/
def growYoungest : List Parcel → Nat → List Parcel
  | [], _ => []
  | [p], n => [{ p with volume := p.volume + BitVec.ofNat 32 n }]
  | p :: q :: rest, n => p :: growYoungest (q :: rest) n

/-- SR places the litres of an arrival; `vIn` is V_pump before them (R191). -/
def placeLitres (vIn : Litres) (litres : Nat) (s : State) : State :=
  match placement s.sr.cutter s.sr.line (s.par .parcelSize) with
  | .nowhere => s
  | .opens c => { s with sr := { s.sr with line := s.sr.line ++ [s.openedParcel c vIn litres] } }
  | .merge => ({ s with sr := { s.sr with line := growYoungest s.sr.line litres } }).count 8
  | .grows => { s with sr := { s.sr with line := growYoungest s.sr.line litres } }

/-! ### Arrival at the meter (R194, R196) -/

/-- A parcel has arrived when V_pump - V_in, modulo 2^32, is its Vline or more (R194). -/
def Parcel.arrived (p : Parcel) (vPump : Litres) : Bool := p.vline ≤ (vPump - p.vIn).toNat

/-- The density mean of a parcel (R196). -/
def Parcel.mean (p : Parcel) : Int := roundHalfUp p.densitySum p.densityCount

/-- The arrival test over the IN_LINE parcels behind an AT_METER head, in the order of the line: the line that remains
and the heads removed, oldest first (R194). -/
def arrivals (vPump : Litres) : Option Parcel → List Parcel → List Parcel × List Parcel
  | head, [] => (head.toList, [])
  | head, p :: rest =>
    if p.arrived vPump then
      let r := arrivals vPump (some { p with atMeter := true }) rest
      (r.1, head.toList ++ r.2)
    else (head.toList ++ p :: rest, [])

/-- The arrival test of a whole line, of which only the head may be AT_METER (R189, R194). -/
def lineArrivals (vPump : Litres) (line : List Parcel) : List Parcel × List Parcel :=
  match line with
  | [] => ([], [])
  | p :: rest => if p.atMeter then arrivals vPump (some p) rest else arrivals vPump none (p :: rest)

/-- A head removed from the line hands DI an attribution if it holds a density sample (R196). -/
def attributeParcel (s : State) (p : Parcel) : State :=
  if p.densityCount = 0 then s else attribution p.station p.pass p.mean p.volume.toNat s

/-- SR tests the line for arrivals; the attributions reach DI in the order of the line (R194, R196). -/
def testArrivals (s : State) : State :=
  let r := lineArrivals s.sr.vPump s.sr.line
  r.2.foldl attributeParcel { s with sr := { s.sr with line := r.1 } }

/-! ### Pumped volume (R188) -/

/-- SR takes a RET_FLOW arrival into V_pump, places the litres and tests for arrivals (R188, R191, R194). -/
def pumpedVolume (flow : Int) (s : State) : State :=
  let elapsed : Int := elapsedSince s.runTime s.sr.prevFlow
  let s := { s with sr := { s.sr with prevFlow := some s.runTime } }
  if 0 < flow ∧ !s.backflushing then
    let total := flow * elapsed + s.sr.flowResidue
    let litres := (floorDiv total 60000).toNat
    let vIn := s.sr.vPump
    let s := { s with sr := { s.sr with
      vPump := vIn + BitVec.ofNat 32 litres
      flowResidue := keptRemainder total 60000 } }
    if 1 ≤ litres then testArrivals (placeLitres vIn litres s) else s
  else s

/-- A density value taken by an AT_METER head, until its count stands at 65,535 (R195). -/
def Parcel.addDensity (p : Parcel) (v : Int) : Parcel :=
  if p.densityCount < Config.densityCap then
    { p with densitySum := p.densitySum + v, densityCount := p.densityCount + 1 }
  else p

/-- SR takes a RET_DENS arrival into the head of the line, if the head is AT_METER (R195). -/
def densitySample (v : Int) (s : State) : State :=
  match s.sr.line with
  | p :: rest => if p.atMeter then { s with sr := { s.sr with line := p.addDensity v :: rest } } else s
  | [] => s

end Sys2Proof.Machine
end

