-- ==== Sys2Proof/Machine/Depth.lean ====
section
/-! DEFINITION. DI, the depth integrator (chapter 4): pieces, boundaries, steps, anchoring, the feed-rate ring, and the
hand-offs of a depth event. -/

namespace Sys2Proof.Machine

/-! ### Pieces (R69, R76) -/

/-- One axis over a piece of depth change `delta` with slope `slope`: floor division with a kept residue (R69); an offset
that would pass the limit is held there with residue 0 and the saturation flag set (R76). -/
def AxisPath.piece (p : AxisPath) (slope delta : Int) : AxisPath :=
  let total := slope * delta + p.residue
  let moved := p.offset + floorDiv total 100
  if moved < -Config.offsetLimit then ⟨-Config.offsetLimit, 0, true⟩
  else if Config.offsetLimit < moved then ⟨Config.offsetLimit, 0, true⟩
  else ⟨moved, keptRemainder total 100, p.saturated⟩

/-- Both axes over a piece that ends at depth `d`; a piece of depth change 0 is not made (R69, R71). -/
def integrateTo (d : Int) (s : State) : State :=
  if d = s.di.depth then s
  else
    let delta := d - s.di.depth
    { s with di := { s.di with
      depth := d
      path := ⟨s.di.path.x.piece s.di.copies.x.slope delta, s.di.path.y.piece s.di.copies.y.slope delta⟩ } }

/-! ### Boundaries (R71 to R74) -/

/-- The boundaries crossed going down from `d0` to `d1`, d0 < b <= d1, in increasing depth (R71). -/
def boundariesDown (d0 d1 interval : Int) : List Int :=
  (List.range (floorDiv d1 interval - floorDiv d0 interval).toNat).map fun i =>
    (floorDiv d0 interval + 1 + (i : Int)) * interval

/-- The boundaries crossed going up from `d0` to `d1`, d1 < b <= d0, in decreasing depth (R71). -/
def boundariesUp (d0 d1 interval : Int) : List Int :=
  (List.range (floorDiv d0 interval - floorDiv d1 interval).toNat).map fun i =>
    (floorDiv d0 interval - (i : Int)) * interval

/-- A boundary crossed going down: the piece that reaches it, the closure of the station above it, the entry into the
station below it (R71, R72). -/
def crossDown (recovery : Bool) (s : State) (b : Int) : State :=
  let k := floorDiv b s.mp.interval
  enterStation k (closeStation (k - 1) b recovery (integrateTo b s))

/-- A boundary crossed going up: the piece that reaches it, and the entry into the station above it (R71, R73). -/
def crossUp (s : State) (b : Int) : State := enterStation (floorDiv b s.mp.interval - 1) (integrateTo b s)

/-- A step from the integrated depth to `d` (R69 to R73). -/
def takeStep (d : Int) (recovery : Bool) (s : State) : State :=
  let d0 := s.di.depth
  let s :=
    if d0 ≤ d then (boundariesDown d0 d s.mp.interval).foldl (crossDown recovery) s
    else (boundariesUp d0 d s.mp.interval).foldl crossUp s
  integrateTo d s

/-- The station in which a recovery step ends carries the recovery mark (R74, R87). -/
def markRecovery (recovery : Bool) (s : State) : State :=
  if recovery then changeOpen (fun r => { r with recovery := true }) s else s

/-! ### The feed-rate ring (R78, R79) -/

/-- The whole second of a run time (R78). -/
def wholeSecond (t : RunTime) : Nat := t.toNat / 1000

/-- The ring after a depth event at run time `t` with accepted depth `d` (R78). -/
def ringAfter (ring : List RingEntry) (t : RunTime) (d : Int) : List RingEntry :=
  match ring.getLast? with
  | none => [⟨t, d⟩]
  | some e =>
    if wholeSecond e.time = wholeSecond t then ring
    else (if ring.length < Config.ringSize then ring else ring.tail) ++ [⟨t, d⟩]

/-- The feed rate of a ring (R79). -/
def ringRate (ring : List RingEntry) : Int :=
  match ring with
  | [] | [_] => 0
  | oldest :: rest =>
    match rest.getLast? with
    | none => 0
    | some newest =>
      clamp 0 2000 (floorDiv ((newest.depth - oldest.depth) * 60000) (newest.time.since oldest.time))

/-- A changed ring: the feed rate is computed (R79), and handed to SR when the update has changed it (R75). -/
def setRing (ring : List RingEntry) (s : State) : State :=
  let rate := ringRate ring
  let t := { s with di := { s.di with ring := ring, feedRate := rate } }
  if rate = s.di.feedRate then t else feedHandOff rate t

/-- The ring emptied and the feed rate 0 (R79). -/
def emptyRing (s : State) : State := setRing [] s

/-- The ring takes a depth event; an event in the newest entry's second changes nothing (R78, R79). -/
def updateRing (d : Int) (s : State) : State :=
  let ring := ringAfter s.di.ring s.runTime d
  if ring = s.di.ring then s else setRing ring s

/-! ### The depth event (R67, R68, R75) -/

/-- DI reports its integrated depth to LI when it differs from the value before the event (R75). -/
def reportDepth (before : Int) (s : State) : State :=
  if s.di.depth = before then s else s.report (.depth s.di.depth)

/-- The hand-offs at the end of a step or an anchoring event (R75). -/
def depthHandOff (before : Int) (s : State) : State := steerAtDepth (cutterHandOff (reportDepth before s))

/-- The path is tied to the panel's depth scale without integrating (R68). -/
def anchor (d : Int) (s : State) : State :=
  resetOpenAtDepth { s with di := { s.di with depth := d, anchored := true } }

/-- FC hands over an accepted depth, with the mark of a recovery step: the rows of R67 and the ring (R74, R78, R79). -/
def depthEvent (d : Int) (recovery : Bool) (s : State) : State :=
  let before := s.di.depth
  let s := if recovery then emptyRing s else s
  if s.mp.panel ≠ .opened then
    reportDepth before (updateRing d { s with di := { s.di with depth := d } })
  else if s.mp.mode = .start then updateRing d s
  else if s.di.anchored then
    depthHandOff before (updateRing d (markRecovery recovery (takeStep d recovery s)))
  else depthHandOff before (updateRing d (anchor d s))

end Sys2Proof.Machine
end

