-- ==== Sys2Proof/Machine/Modes.lean ====
section
/-! DEFINITION. MP's changes of mode (chapter 2): each is made at the event that causes it and applied by WD, PM, SR and
SL at that same event (R27, R38). -/

namespace Sys2Proof.Machine

/-- SL at a change of mode: entry to MANUAL clears the nine demands; every other entry keeps them (R38, R128). -/
def steeringEnter (s : State) : State :=
  if s.mp.mode = .manual then
    { s with sl := { s.sl with plateDemands := Vector.replicate 8 0, diffDemand := 0 } }
  else s

/-- MP changes the mode; the change is reported to LI, WD, PM, SR and SL (R27, R38). A mode left as it was is no change
and is not reported. -/
def changeMode (m : Mode) (s : State) : State :=
  if s.mp.mode = m then s
  else
    let old := s.mp.mode
    let s := { s with mp := { s.mp with mode := m } }
    (slurryEnter old (platesEnter (wheelsEnter old (steeringEnter s)))).report (.mode m)

/-- The HOLD cause set is not empty (R33). -/
def HoldCauses.present (h : HoldCauses) : Bool := h.link || h.depth || h.slope

/-- MP tests the HOLD cause set: AUTO gives way to HOLD, counted in counter 17, and HOLD gives way to AUTO (R34). -/
def holdTest (s : State) : State :=
  match s.mp.mode with
  | .auto => if s.mp.holdCauses.present then changeMode .hold (s.count 17) else s
  | .hold => if s.mp.holdCauses.present then s else changeMode .auto s
  | .start | .standby | .manual => s

/-- Set or remove the LINK cause (R33). -/
def setLinkCause (b : Bool) (s : State) : State :=
  { s with mp := { s.mp with holdCauses := { s.mp.holdCauses with link := b } } }

/-- Set or remove the DEPTH cause (R33). -/
def setDepthCause (b : Bool) (s : State) : State :=
  { s with mp := { s.mp with holdCauses := { s.mp.holdCauses with depth := b } } }

/-- Set or remove the SLOPE cause (R33). -/
def setSlopeCause (b : Bool) (s : State) : State :=
  { s with mp := { s.mp with holdCauses := { s.mp.holdCauses with slope := b } } }

/-- EMERGENCY has entered ACTIVE: MANUAL, AUTO and HOLD give way to STANDBY (R37). -/
def emergencyStandby (s : State) : State :=
  match s.mp.mode with
  | .manual | .auto | .hold => changeMode .standby s
  | .start | .standby => s

end Sys2Proof.Machine
end

