-- ==== Sys2Proof/Machine/Trips.lean ====
section
/-! DEFINITION. TU, the trip unit (chapter 12): source states, group states, and the hand-offs to the group owners. -/

namespace Sys2Proof.Machine

/-- The group states from the sources and the map: a group is tripped exactly when some source mapped to it is ACTIVE or
LATCHED (R204). -/
def TripUnit.groupsNow (tu : TripUnit) : GroupSet :=
  Source.all.foldl (fun g i => if tu.sources.get i = .clear then g else g ||| tu.sets.get i) 0

/-- The owner of a group is told the group's new state (R204: R169, R152, R153, R185, R186). -/
def groupReport (g : Group) (trip : Bool) (s : State) : State :=
  match g, trip with
  | .wheel w, true => wheelTripped w s
  | .wheel _, false => s
  | .plates, true => platesHalt s
  | .plates, false => platesRelease s
  | .pump, true => pumpTripped s
  | .pump, false => pumpUntripped s
  | .feed, _ => recomputePermit s

/-- TU recomputes the group states and reports each group whose state differs to its owner, in ascending bit order
(R204, R205, log entry 14). -/
def recomputeGroups (s : State) : State :=
  let before := s.tu.groups
  let after := s.tu.groupsNow
  let s := { s with tu := { s.tu with groups := after } }
  Group.all.foldl
    (fun s g => if before.getLsbD g.bit = after.getLsbD g.bit then s else groupReport g (after.getLsbD g.bit) s) s

/-- Set a source's state and recompute the groups. -/
def setSource (i : Source) (st : SourceState) (s : State) : State :=
  recomputeGroups { s with tu := { s.tu with sources := s.tu.sources.set i.val st i.isLt } }

/-- A condition is reported present or absent (the table of R203). A source entering ACTIVE is reported to LI, and
EMERGENCY entering ACTIVE to MP. -/
def condition (i : Source) (present : Bool) (s : State) : State :=
  match s.source i, present with
  | .clear, true | .latched, true =>
    let s := (setSource i .active s).report (.trip i)
    if i = Source.emergency then emergencyStandby s else s
  | .active, false => setSource i .latched s
  | .clear, false | .latched, false | .active, true => s

end Sys2Proof.Machine
end

