-- ==== Sys2Proof/Machine/Watches.lean ====
section
/-! DEFINITION. SR's density and blockage watches, the trim and the backflush (sections 10.2, 10.4, 10.5). -/

namespace Sys2Proof.Machine

/-! ### Trim (R175) -/

/-- The trim after a measured flow: by 1 per mille toward the required flow when the error is beyond the flow band
(R175). -/
def State.trimAfter (s : State) (measured : Int) : Int :=
  let q := s.sr.required
  if s.par .flowBand * q < 100 * magnitude (measured - q) then
    if measured < q then min 100 (s.sr.trim + 1) else max (-100) (s.sr.trim - 1)
  else s.sr.trim

/-- SR adjusts the trim at a FRESH RET_FLOW arrival in AUTO with the pump state BALANCE (R175). -/
def adjustTrim (measured : Int) (s : State) : State :=
  if s.sr.pumpState = .balance ∧ s.mp.mode = .auto ∧ s.fresh .retFlow then
    recomputePump { s with sr := { s.sr with trim := s.trimAfter measured } }
  else s

/-! ### Density watch (R179) -/

/-- SR evaluates both density limits at a RET_DENS arrival (R179). -/
def densityWatch (v : Int) (s : State) : State :=
  let soft : Bool := s.par .softLimit < v
  let heavy : Bool := s.par .hardLimit < v
  let s := if soft = s.sr.softMark then s else recomputeFeedLimit { s with sr := { s.sr with softMark := soft } }
  if heavy = s.sr.returnHeavy then s
  else condition Source.returnHeavy heavy { s with sr := { s.sr with returnHeavy := heavy } }

/-! ### Backflush (R181 to R184) -/

/-- Whether a BACKFLUSH request would be carried out: the mode is MANUAL or AUTO, the PUMP group is untripped and no
backflush is running (R181, R184). -/
def State.backflushAllowed (s : State) : Bool :=
  (s.mp.mode == .manual || s.mp.mode == .auto) && !s.tripped .pump && !s.backflushing

/-- The start of a backflush (R182). -/
def startBackflush (s : State) : State :=
  let s := { s with sr := { s.sr with
    backflushTimer := some (s.timer (s.par .backflushTime * 1000))
    pumpState := .backflush
    command := s.backflushCommand
    trim := 0
    blockTimer := none } }
  recomputePermit (emptyLine s)

/-- The end of a backflush at its timer's expiry (R183). -/
def endBackflush (s : State) : State :=
  recomputePermit (refreshPump { s with sr := { s.sr with backflushTimer := none } })

/-! ### Blockage watch (R180, R184) -/

/-- The blockage condition: pump pressure greater than the block pressure and 10 x Q_meas less than 3 x Q; a Q of 0
makes it false (R180). -/
def State.blockageCondition (s : State) : Bool :=
  s.flowBasis != 0 && s.par .blockPressure < s.value .pumpPress && 10 * s.value .retFlow < 3 * s.flowBasis

/-- SR evaluates the blockage condition at an arrival on PUMP_PRESS or RET_FLOW while both channels are FRESH and the
pump state is not BACKFLUSH (R180). -/
def blockageWatch (s : State) : State :=
  if s.fresh .pumpPress && s.fresh .retFlow && s.sr.pumpState != .backflush then
    if s.blockageCondition then
      if s.sr.blockTimer.isSome || s.sr.returnBlocked then s
      else { s with sr := { s.sr with blockTimer := some (s.timer (s.par .blockTime * 1000)) } }
    else
      let t := { s with sr := { s.sr with blockTimer := none, returnBlocked := false } }
      if s.sr.returnBlocked then condition Source.returnBlocked false t else t
  else s

/-- FC reports that PUMP_PRESS or RET_FLOW has left FRESH: the blockage timer stops (R180). -/
def blockageSuspend (s : State) : State := { s with sr := { s.sr with blockTimer := none } }

/-- RETURN_BLOCKED becomes present: it is reported to TU, and with auto-backflush on a backflush starts if one is
allowed as things then stand (R180, R184, log entry 13). -/
def blockagePresent (s : State) : State :=
  let s := condition Source.returnBlocked true { s with sr := { s.sr with blockTimer := none, returnBlocked := true } }
  if s.par .autoBackflush == 1 && s.backflushAllowed then startBackflush s else s

end Sys2Proof.Machine
end

