-- ==== Sys2Proof/Machine/Channels.lean ====
section
/-! DEFINITION. FC, the field channel table (chapter 3): arrivals, windows, discrete inputs, the derived slope with its
watches, depth acceptance, and MP's supervision of START (R29). -/

namespace Sys2Proof.Machine

/-! ### SENSOR_STALE (R51) -/

/-- SENSOR_STALE is present while at least one channel is STALE, and after START while at least one is ABSENT (R51). -/
def State.sensorStaleNow (s : State) : Bool :=
  Channel.all.any fun c => (s.chan c).state == .stale || (s.fc.startOver && (s.chan c).state == .absent)

/-- FC re-evaluates SENSOR_STALE and reports a change to TU (R51). -/
def sensorStaleWatch (s : State) : State :=
  let now := s.sensorStaleNow
  if now = s.fc.sensorStale then s
  else condition Source.sensorStale now { s with fc := { s.fc with sensorStale := now } }

/-! ### The derived slope (R55 to R60) -/

/-- Replace what FC holds for the slope of an axis. -/
def State.putSlope (s : State) (a : Axis) (v : AxisSlope) : State :=
  { s with fc := { s.fc with slopes := s.fc.slopes.set a v } }

/-- The derivation case of an axis by the freshness of its two channels (R55). -/
def State.slopeCase (s : State) (a : Axis) : SlopeCase :=
  match s.fresh (.incl .upper a), s.fresh (.incl .lower a) with
  | true, true => .both
  | true, false | false, true => .single
  | false, false => .none

/-- The derived slope before clamping in cases BOTH and SINGLE (R55). -/
def State.rawSlope (s : State) (a : Axis) : Int :=
  match s.fresh (.incl .upper a), s.fresh (.incl .lower a) with
  | true, true => truncDiv (s.value (.incl .upper a) + s.value (.incl .lower a)) 2
  | true, false => s.value (.incl .upper a)
  | _, _ => s.value (.incl .lower a)

/-- Whether the upper and lower values of an axis differ by more than the tolerance, in case BOTH (R58). -/
def State.disagrees (s : State) (a : Axis) : Bool :=
  s.slopeCase a == .both &&
    s.par .disagreeTolerance < magnitude (s.value (.incl .upper a) - s.value (.incl .lower a))

/-- The slope of an axis derived again (R55, R56) with its disagreeing mark, timer and persistent mark (R58). -/
def State.derivedSlope (s : State) (a : Axis) : AxisSlope :=
  let old := s.fc.slopes.get a
  let raw := s.rawSlope a
  let held := s.slopeCase a = .none
  let dis := s.disagrees a
  { slope := if held then old.slope else clamp (-Config.slopeLimit) Config.slopeLimit raw
    case := s.slopeCase a
    clamped := if held then old.clamped else Config.slopeLimit < magnitude raw
    disagreeing := dis
    timer := if dis then (if old.disagreeing then old.timer else some (s.timer (s.par .disagreeTime * 1000))) else none
    persistent := if dis then old.persistent else false }

/-- INCL_DISAGREE becomes absent at the derivation that leaves neither axis disagreeing (R59). -/
def disagreeWatch (s : State) : State :=
  if s.fc.inclDisagree && !s.fc.slopes.x.disagreeing && !s.fc.slopes.y.disagreeing then
    condition Source.inclDisagree false { s with fc := { s.fc with inclDisagree := false } }
  else s

/-- INCL_LIMIT is evaluated at each derivation on either axis (R60). -/
def inclLimitWatch (s : State) : State :=
  let limit := s.par .inclLimit
  let now : Bool := limit < magnitude s.fc.slopes.x.slope || limit < magnitude s.fc.slopes.y.slope
  if now = s.fc.inclLimit then s
  else condition Source.inclLimit now { s with fc := { s.fc with inclLimit := now } }

/-- The SLOPE cause is present while the slope is unavailable on at least one axis (R33, R57). -/
def slopeCause (s : State) : State :=
  setSlopeCause (s.fc.slopes.x.case == .none || s.fc.slopes.y.case == .none) s

/-- FC derives the slope of an axis again: the hand-off to DI and SL, the report to MP, the agreement watch and the
inclination limit (R55 to R60). MP's test of the HOLD causes follows separately (R34). -/
def derive (a : Axis) (s : State) : State :=
  let v := s.derivedSlope a
  let s := slopeHandOff a ⟨v.slope, v.case, v.clamped, v.disagreeing⟩ (s.putSlope a v)
  inclLimitWatch (disagreeWatch (slopeCause s))

/-! ### Reports of a channel's change of state (R50) -/

/-- FC reports the change of state of one channel to the blocks that depend on it, but for SENSOR_STALE and MP's test of
the HOLD causes, which follow once for the event (R34, R50). -/
def channelReport (c : Channel) (s : State) : State :=
  let left := !s.fresh c
  match c with
  | .incl _ a => derive a s
  | .twist => if left then markEstimated s else s
  | .depth =>
    let s := setDepthCause left s
    if left then markEstimated s else s
  | .speed w | .press w => if left then wheelChannelLeft w s else s
  | .plate p => if left then plateChannelLeft p s else s
  | .pumpPress | .retFlow => if left then blockageSuspend s else s
  | .retDens => s

/-! ### Depth acceptance (section 3.6) -/

/-- The fifth rejection in a row forces the DEPTH channel STALE (R63, R64). -/
def forceStale (s : State) : State :=
  let e := s.chan .depth
  let was := e.state
  let s := s.setChan .depth { e with state := .stale, good := 0, unjudged := true }
  let s := { s with fc := { s.fc with recovery := true, rejections := 0 } }
  if was = .fresh then sensorStaleWatch (holdTest (channelReport .depth s)) else s

/-- A depth sample is rejected (R63). -/
def rejectDepth (s : State) : State :=
  let s := s.count 5
  if s.fc.rejections + 1 < Config.rejectionLimit then { s with fc := { s.fc with rejections := s.fc.rejections + 1 } }
  else forceStale s

/-- A candidate is accepted and handed to DI (R62). -/
def acceptDepth (candidate raw : Int) (recovery : Bool) (s : State) : State :=
  depthEvent candidate recovery { s with fc := { s.fc with
    lastAccepted := some candidate, lastRaw := some raw, rejections := 0, recovery := false, accepted := true } }

/-- Depth acceptance of a DEPTH arrival with this raw value (R61, R62). -/
def depthArrival (raw : Int) (s : State) : State :=
  let candidate := raw + s.fc.reference
  if candidate < Config.depthMin ∨ Config.depthMax < candidate then rejectDepth s
  else
    match s.fc.lastAccepted with
    | none => acceptDepth candidate raw false s
    | some last =>
      if s.fc.recovery then
        if s.fresh .depth then acceptDepth candidate raw true s else s
      else if s.par .depthMaxStep < magnitude (candidate - last) then rejectDepth s
      else acceptDepth candidate raw false s

/-! ### Arrivals (R47, R48) -/

/-- TWIST_LIMIT is evaluated at each TWIST arrival (R60). -/
def twistLimitWatch (s : State) : State :=
  let now : Bool := s.par .twistLimit < magnitude (s.value .twist)
  if now = s.fc.twistLimit then s
  else condition Source.twistLimit now { s with fc := { s.fc with twistLimit := now } }

/-- FC passes the value of an arrival to the channel's users (R48 step 4, section 3.1). -/
def passValue (c : Channel) (v : Int) (s : State) : State :=
  match c with
  | .incl _ a => holdTest (derive a s)
  | .twist => twistLimitWatch s
  | .depth => depthArrival v s
  | .speed w => gatherSpeed w v (speedArrival w v s)
  | .press w => gatherPress w v (pressArrival w s)
  | .plate p => plateArrival p s
  | .pumpPress => blockageWatch s
  | .retFlow => pumpedVolume v (gatherFlow v (adjustTrim v (blockageWatch s)))
  | .retDens => densitySample v (densityWatch v s)

/-- An arrival on a channel (R48): value, window count, ABSENT to FRESH with its report, and the users. -/
def arrival (c : Channel) (v : Int) (s : State) : State :=
  let e := s.chan c
  let absent := e.state = .absent
  let s := s.setChan c { e with
    value := v
    windowCount := e.windowCount + 1
    state := if absent then .fresh else e.state
    unjudged := if absent then true else e.unjudged }
  let s := if absent then sensorStaleWatch (holdTest (channelReport c s)) else s
  passValue c v s

/-! ### The end of START (R29) -/

/-- START ends: MP stops the start window timer and tells FC, the mode becomes STANDBY, and SENSOR_STALE is re-evaluated
with ABSENT channels counted (R29, R51). -/
def endStart (s : State) : State :=
  sensorStaleWatch (changeMode .standby { s with
    mp := { s.mp with startTimer := none }
    fc := { s.fc with startOver := true } })

/-- MP tests after an arrival whether no channel is ABSENT any more (R29). -/
def startTest (s : State) : State :=
  if s.mp.mode = .start ∧ (Channel.all.all fun c => (s.chan c).state != .absent) then endStart s else s

/-! ### Window end (R49) -/

/-- The judgement of a channel entry at a window end; the window count then starts again at 0 (the table of R49). -/
def ChannelEntry.judged (e : ChannelEntry) (threshold : Nat) : ChannelEntry :=
  let e' := { e with windowCount := 0 }
  match e.state with
  | .absent => e'
  | .fresh =>
    if e.unjudged then { e' with unjudged := false }
    else if threshold ≤ e.windowCount then e'
    else { e' with state := .stale, good := 0 }
  | .stale =>
    if e.unjudged then { e' with unjudged := false }
    else if e.windowCount < threshold then { e' with good := 0 }
    else if e.good = 0 then { e' with good := 1 }
    else { e' with state := .fresh, good := 0 }

/-- Every entry judged. -/
def judgeAll (s : State) : State := Channel.all.foldl (fun t c => t.setChan c ((t.chan c).judged c.threshold)) s

/-- A window end: every entry is judged, each change of state is reported, MP tests its HOLD causes once, SENSOR_STALE is
re-evaluated, and the next window starts at once (R34, R49, R50). -/
def windowEnd (s : State) : State :=
  let t := judgeAll { s with fc := { s.fc with
    windowTimer := ⟨s.fc.windowTimer.start + BitVec.ofNat 32 Config.windowPeriod, Config.windowPeriod⟩ } }
  let changed := Channel.all.filter fun c => (s.chan c).state != (t.chan c).state
  sensorStaleWatch (holdTest (changed.foldl (fun u c => channelReport c u) t))

/-! ### Discrete inputs (R53, R54) -/

/-- A discrete input. -/
def State.input (s : State) : InputId → DiscreteInput
  | .emergencyIn => s.fc.emergencyIn
  | .gearPressLow => s.fc.gearPressLow
  | .oilHot => s.fc.oilHot

/-- Replace a discrete input. -/
def State.putInput (s : State) (i : InputId) (v : DiscreteInput) : State :=
  match i with
  | .emergencyIn => { s with fc := { s.fc with emergencyIn := v } }
  | .gearPressLow => { s with fc := { s.fc with gearPressLow := v } }
  | .oilHot => { s with fc := { s.fc with oilHot := v } }

/-- The active level of an input (section 3.3). -/
def activeLevel : InputId → Level
  | .emergencyIn => .deEnergised
  | .gearPressLow | .oilHot => .energised

/-- The filter parameter of an input (section 3.3). -/
def filterParam : InputId → ParamId
  | .emergencyIn => .emergencyFilter
  | .gearPressLow => .gearFilter
  | .oilHot => .oilFilter

/-- The trip source of an input (section 3.3). -/
def inputSource : InputId → Source
  | .emergencyIn => Source.emergency
  | .gearPressLow => Source.gearPressure
  | .oilHot => Source.oilTemp

/-- An input reports its condition: present when the filtered level is the active one (R54). -/
def reportInput (i : InputId) (s : State) : State :=
  condition (inputSource i) ((s.input i).filtered == activeLevel i) s

/-- The filtered level takes the raw level (R53), and the input reports (R54). -/
def passInput (i : InputId) (s : State) : State :=
  reportInput i (s.putInput i { s.input i with filtered := (s.input i).raw, timer := none })

/-- A change of the raw level (R53). -/
def inputChange (i : InputId) (l : Level) (s : State) : State :=
  let v := s.input i
  if v.raw = l then s
  else
    let s := s.putInput i { v with raw := l }
    match v.timer with
    | some _ => s.putInput i { v with raw := l, timer := none }
    | none =>
      if l = v.filtered then s
      else if s.par (filterParam i) = 0 then passInput i s
      else s.putInput i { v with raw := l, timer := some (s.timer (s.par (filterParam i))) }

/-! ### The disagreement timer (R59) -/

/-- The disagreement timer of an axis has expired: its persistent mark is set, and INCL_DISAGREE becomes present if it is
absent (R59). -/
def disagreementPersists (a : Axis) (s : State) : State :=
  let v := s.fc.slopes.get a
  let s := s.putSlope a { v with timer := none, persistent := true }
  if s.fc.inclDisagree then s
  else condition Source.inclDisagree true { s with fc := { s.fc with inclDisagree := true } }

end Sys2Proof.Machine
end

