-- ==== Sys2Proof/Machine/Operands.lean ====
section
/-! DEFINITION. The operand forms of the operator line (chapter 1, section 1.12): the fields of a request body, the
encodings of reply data, the check of a frame, the kinds with their body lengths, and the selector lists of R6. -/

namespace Sys2Proof.Machine

/-! ### Fields of a request body -/

/-- The byte of a body at an offset; the length test of R5 has passed when a field is read. -/
def byteAt (body : List Byte) (off : Nat) : Nat := ((body[off]?).getD 0).toNat

/-- An unsigned field of `n` bytes, little-endian ("Units and encodings"). -/
def unsignedAt (body : List Byte) (off : Nat) : Nat → Nat
  | 0 => 0
  | n + 1 => byteAt body off + 256 * unsignedAt body (off + 1) n

/-- A signed field of `n` bytes, two's complement. -/
def signedAt (body : List Byte) (off n : Nat) : Int :=
  let v := unsignedAt body off n
  if 2 * v < 256 ^ n then v else (v : Int) - (256 ^ n : Nat)

/-! ### Encodings of reply data -/

/-- A value in `n` bytes, little-endian, two's complement when negative ("Units and encodings"). -/
def encode : Nat → Int → List Byte
  | 0, _ => []
  | n + 1, v => BitVec.ofInt 8 v :: encode n (v / 256)

/-- A bit vector in `n` bytes, little-endian. -/
def encodeBits {w : Nat} (n : Nat) (v : BitVec w) : List Byte := encode n v.toNat

/-- The code of a result (section 1.2). -/
def Result.code : Result → Byte
  | .done => 0
  | .doneClamped => 1
  | .busy => 2
  | .unknownKind => 3
  | .badLength => 4
  | .badValue => 5
  | .wrongMode => 6
  | .wrongState => 7
  | .notFound => 8
  | .timedOut => 9
  | .cancelled => 10
  | .planAborted => 11

/-- The code of a mode (chapter 2). -/
def Mode.code : Mode → Nat
  | .start => 0
  | .standby => 1
  | .manual => 2
  | .auto => 3
  | .hold => 4

/-- The mode of a code 0..4 (R6, R36). -/
def Mode.ofCode : Nat → Option Mode
  | 0 => some .start
  | 1 => some .standby
  | 2 => some .manual
  | 3 => some .auto
  | 4 => some .hold
  | _ => none

/-- The code of a panel state (section 1.12). -/
def PanelState.code : PanelState → Nat
  | .none => 0
  | .opened => 1
  | .closed => 2

/-- The code of a wheel state (chapter 9). -/
def WheelState.code : WheelState → Nat
  | .stopped => 0
  | .ramping => 1
  | .running => 2
  | .stopping => 3
  | .stalled => 4
  | .reversing => 5
  | .lockedOut => 6

/-- The code of a source state (section 1.12). -/
def SourceState.code : SourceState → Nat
  | .clear => 0
  | .active => 1
  | .latched => 2

/-- The code of a band kind (R98). -/
def BandKind.code : BandKind → Nat
  | .steer => 0
  | .suppress => 1

/-- A station record in its 44 bytes (section 1.12): absent density is 0xFFFF, a volume above 65,535 is sent as
65,535. -/
def StationRecord.bytes (r : StationRecord) : List Byte :=
  encode 2 r.index ++ encode 1 r.pass ++ encode 1 r.flagByte ++ encodeBits 4 r.closedAt ++ encode 4 r.offsets.x
    ++ encode 4 r.offsets.y ++ encode 2 r.slopes.x ++ encode 2 r.slopes.y ++ encode 2 r.twist
    ++ encode 2 r.meanSpeed.a ++ encode 2 r.meanSpeed.b ++ encode 2 r.maxPress.a ++ encode 2 r.maxPress.b
    ++ (Plate.all.flatMap fun p => encode 1 (r.plateTargets.get p)) ++ encode 2 r.meanFlow
    ++ encode 2 (r.density.getD 0xFFFF) ++ encode 2 (min r.volume 65535)

/-- A plan band in its 42 bytes (section 1.12). -/
def Band.bytes (b : Band) : List Byte :=
  encode 1 b.index ++ encode 1 b.kind.code ++ encode 4 b.top ++ encode 4 b.bottom ++ encode 4 b.tX ++ encode 4 b.tY
    ++ encode 4 b.dbX ++ encode 4 b.dbY ++ encode 2 b.dbTwist ++ encode 2 b.gainY ++ encode 2 b.gainX
    ++ encode 2 b.gainW ++ encode 4 b.endThr ++ encode 2 b.twistGain ++ encode 2 b.lookahead

/-- The missing channels: those ABSENT or STALE, by ascending channel number (R25). -/
def State.missingChannels (s : State) : List Nat :=
  (Channel.all.filter fun c => !s.fresh c).map fun c => c.idx.val + 1

/-- The open station field of the status body: 0xFFFF while there is no open station (R65, section 1.12). -/
def State.openStationField (s : State) : Int :=
  match s.di.openRecord with
  | some r => r.station
  | none => 0xFFFF

/-- The status body after its result and part bytes, offsets 2 to 58 + n (R25, section 1.12). -/
def State.statusData (s : State) : List Byte :=
  encode 1 s.mp.mode.code ++ encode 1 s.mp.panel.code ++ encode 2 s.mp.panelNumber ++ encodeBits 4 s.runTime
    ++ encode 4 s.di.depth ++ encode 4 s.di.path.x.offset ++ encode 4 s.di.path.y.offset
    ++ encode 2 s.fc.slopes.x.slope ++ encode 2 s.fc.slopes.y.slope ++ encode 2 (s.value .twist)
    ++ encode 1 s.pathFlags ++ encode 2 s.openStationField ++ encode 2 s.di.feedRate
    ++ encode 1 (s.wheel .a).state.code ++ encode 1 (s.wheel .b).state.code
    ++ encode 2 (s.wheel .a).commanded ++ encode 2 (s.wheel .b).commanded
    ++ encode 2 (s.value (.speed .a)) ++ encode 2 (s.value (.speed .b)) ++ encode 2 s.wd.applied
    ++ encode 1 s.pumpFlags ++ encode 2 s.sr.command ++ encode 1 (if s.sr.feedPermit then 1 else 0)
    ++ encode 2 s.sr.feedLimit ++ encodeBits 1 s.tu.groups ++ encode 2 (s.sourceBits .active)
    ++ encode 2 (s.sourceBits .latched) ++ encodeBits 2 s.sl.version ++ encode 1 s.missingChannels.length
    ++ s.missingChannels.flatMap fun n => encode 1 n

/-- The 34 bytes of COUNTERS_READ: counters 1..17, u16 each (R24). -/
def State.counterData (s : State) : List Byte := s.counters.toList.flatMap fun n => encode 2 n

/-- The 27 bytes of TRIP_GET (R209, section 1.12). -/
def State.tripData (s : State) : List Byte :=
  (Source.all.flatMap fun i => encode 1 (s.source i).code)
    ++ (Source.all.flatMap fun i => encodeBits 1 (s.tu.sets.get i)) ++ encodeBits 1 s.tu.groups

/-- The head state of TRANSIT_GET: 0 line empty, 1 IN_LINE, 2 AT_METER (R200). -/
def headCode (line : List Parcel) : Nat :=
  match line with
  | [] => 0
  | p :: _ => if p.atMeter then 2 else 1

/-- The 28 bytes of TRANSIT_GET (R200, section 1.12). -/
def State.transitData (s : State) : List Byte :=
  let head := s.sr.line.head?
  let tail := s.sr.line.getLast?
  let field (p : Option Parcel) (f : Parcel → Litres) : List Byte := encodeBits 4 ((p.map f).getD 0)
  encode 1 s.sr.line.length ++ encode 1 (headCode s.sr.line) ++ encodeBits 4 s.sr.vPump
    ++ field head Parcel.vIn ++ field head Parcel.vArrive ++ field tail Parcel.vIn ++ field tail Parcel.vArrive
    ++ encode 2 (s.counter 8) ++ encode 2 (s.counter 9) ++ encode 2 (s.counter 10)

/-! ### Frames (R2, R4) -/

/-- One bit of the CRC, most significant first: polynomial x^16 + x^12 + x^5 + 1 (R2). -/
def crcBit (c : BitVec 16) : BitVec 16 := if c.msb then (c <<< 1) ^^^ 0x1021 else c <<< 1

/-- One byte of the CRC (R2). -/
def crcByte (c : BitVec 16) (b : Byte) : BitVec 16 :=
  Nat.rec (c ^^^ (b.zeroExtend 16 <<< 8)) (fun _ d => crcBit d) 8

/-- The CRC-16 of the bytes from the length byte to the last body byte: initial value 0xFFFF, no final inversion (R2). -/
def crc16 (bytes : List Byte) : BitVec 16 := bytes.foldl crcByte 0xFFFF

/-- The two check bytes, the first being the high byte (R2). -/
def checkBytes (bytes : List Byte) : List Byte :=
  let c := crc16 bytes
  [(c >>> 8).truncate 8, c.truncate 8]

/-- A frame: lead, length, kind, tag, body, check (section 1.12). -/
def frame (kind tag : Byte) (body : List Byte) : List Byte :=
  let inner := BitVec.ofNat 8 (body.length + 2) :: kind :: tag :: body
  Config.leadByte :: (inner ++ checkBytes inner)

/-- The part byte: the part number in the low seven bits, 1 in bit 7 in the final part (R4). -/
def ReplyPart.partByte (p : ReplyPart) : Byte := BitVec.ofNat 8 (p.number % 128 + if p.final then 128 else 0)

/-- The frame of a reply part (R4). -/
def ReplyPart.frame (p : ReplyPart) : List Byte :=
  Machine.frame p.kind p.tag (p.result.code :: p.partByte :: p.data)

/-- The kind of a reply: the request's kind plus 0x80, modulo 256 (R4). -/
def replyKind (kind : Byte) : Byte := kind + 0x80

/-- A reply of one part (R4). -/
def singlePart (kind tag : Byte) (r : Reply) : ReplyPart where
  kind := replyKind kind
  tag := tag
  result := r.result
  number := 0
  final := true
  data := r.data
  origin := .plain

/-- A refusal: the result code alone (R4). -/
def Reply.refuse (r : Result) : Reply := ⟨r, []⟩

/-- DONE with reply data. -/
def Reply.ok (data : List Byte) : Reply := ⟨.done, data⟩

/-- DONE, or DONE_CLAMPED when a value was clamped, with reply data (R6). -/
def Reply.stored (clamped : Bool) (data : List Byte) : Reply := ⟨if clamped then .doneClamped else .done, data⟩

/-! ### Kinds and selectors (R5, R6) -/

/-- A kind names a request when it lies in 0x01..0x1B (R5). -/
def knownKind (kind : Nat) : Bool := 1 ≤ kind && kind ≤ 0x1B

/-- The kind of an AWAIT request (section 1.12). -/
def awaitKind : Byte := 0x14

/-- The wheel selector: 0 for A, 1 for B (R6). -/
def wheelOf : Nat → Option WheelId
  | 0 => some .a
  | 1 => some .b
  | _ => none

/-- The direction selector: 0 for FORWARD, 1 for REVERSE (R6). -/
def directionOf : Nat → Option Direction
  | 0 => some .forward
  | 1 => some .reverse
  | _ => none

/-- The plate selector 1..8 (R6). -/
def plateOf (n : Nat) : Option Plate := Plate.all.find? fun p => p.val + 1 == n

/-- The trip source selector 1..13 (R6). -/
def sourceOf (n : Nat) : Option Source := Source.all.find? fun i => i.val + 1 == n

/-- The switch selector 0 or 1 of keep_log and TRIP_FORCE (R6). -/
def switchOf : Nat → Option Bool
  | 0 => some false
  | 1 => some true
  | _ => none

/-- The wait condition selector 1..6 (R6, section 1.6). -/
def waitCondOf : Nat → Option WaitCond
  | 1 => some .station
  | 2 => some .depth
  | 3 => some .trip
  | 4 => some .mode
  | 5 => some .platesIdle
  | 6 => some .attributed
  | _ => none

/-- The band kind, 0 or 1 (R106 step 4). -/
def bandKindOf : Nat → Option BandKind
  | 0 => some .steer
  | 1 => some .suppress
  | _ => none

end Sys2Proof.Machine
end

