-- ==== Sys2Proof/Machine/Line.lean ====
section
/-! DEFINITION. LI, the line interface (chapter 1): slots and claimants, the wait table, streams, the receiver, admission,
link silence, and the taking of a request. -/

namespace Sys2Proof.Machine

/-- Replace LI's state. -/
def State.putLi (s : State) (li : LineInterface) : State := { s with li := li }

/-! ### Slots and claimants (R9) -/

/-- The reply queue has a free slot (R7). -/
def State.slotFree (s : State) : Bool := s.li.replyQueue.length < Config.replyQueueSize

/-- Place a part as the newest of the reply queue. -/
def placePart (p : ReplyPart) (s : State) : State :=
  s.putLi { s.li with replyQueue := s.li.replyQueue ++ [p] }

/-- The reply of a wait entry: the AWAIT's reply kind and the entry's tag (R4, R17). -/
def WaitEntry.part (e : WaitEntry) (r : Reply) : ReplyPart := singlePart awaitKind e.tag r

/-- The first entry that holds a reply, in posting order, with that reply and the table without it (R9, R16). -/
def takeHeld : List WaitEntry → Option (ReplyPart × List WaitEntry)
  | [] => none
  | e :: rest =>
    match e.state with
    | .held r => some (e.part r, rest)
    | .waiting =>
      match takeHeld rest with
      | some (p, rest) => some (p, e :: rest)
      | none => none

/-- The part that the handler claims a slot for, with the handler's state once it is placed (R8, R9, R10, R26). -/
def Handler.claim : Handler → Option (ReplyPart × Handler)
  | .placing p => some (p, .idle)
  | .streaming st =>
    match st.phase with
    | .claiming p => some (p, if p.final then .idle else .streaming { st with phase := .sending })
    | .sending | .left => none
  | .restarting k (.claiming p) => some (p, .restarting k .sending)
  | .idle | .restarting _ .sending | .restarting _ .left => none

/-- A free slot is granted to the first claimant: held wait replies in posting order, then the handler (R9). -/
def grantSlot (s : State) : State :=
  if s.slotFree then
    match takeHeld s.li.waits with
    | some (p, rest) => placePart p (s.putLi { s.li with waits := rest })
    | none =>
      match s.li.handler.claim with
      | some (p, h) => placePart p (s.putLi { s.li with handler := h })
      | none => s
  else s

/-- Every free slot granted while a claimant waits: at most 8 held replies and the handler (R9). A slot that became free
before this event has been granted already (log entry 6). -/
def grantSlots (s : State) : State :=
  grantSlot (grantSlot (grantSlot (grantSlot (grantSlot (grantSlot (grantSlot (grantSlot (grantSlot s))))))))

/-- The handler has fixed a reply of one part: it is placed in a free slot, or the handler enters PLACING (R8). -/
def handlerReply (p : ReplyPart) (s : State) : State :=
  let s := grantSlots s
  if s.slotFree then placePart p s else s.putLi { s.li with handler := .placing p }

/-! ### The wait table (R14 to R18) -/

/-- An entry in state WAITING that `f` ends holds its reply; any other entry stays as it is (R14 to R16). -/
def WaitEntry.endBy (f : WaitEntry → Option Reply) (e : WaitEntry) : WaitEntry :=
  match e.state with
  | .held _ => e
  | .waiting =>
    match f e with
    | some r => { e with state := .held r }
    | none => e

/-- Entries in state WAITING that `f` ends get their reply; the replies become due together, in posting order: each is
placed in a free slot or held (R14, R16). -/
def endWaits (f : WaitEntry → Option Reply) (s : State) : State :=
  let s := grantSlots s
  grantSlots (s.putLi { s.li with waits := s.li.waits.map (WaitEntry.endBy f) })

/-- The reply data with which a report meets a waiting entry, if it does (the condition table of section 1.6). -/
def WaitEntry.metBy (e : WaitEntry) (r : Report) : Option (List Byte) :=
  match e.cond, r with
  | .station, .station q => if e.arg = -1 ∨ e.arg = (q.index : Int) then some q.bytes else none
  | .depth, .depth d => if e.arg ≤ d then some [] else none
  | .trip, .trip i => some (encode 1 (i.val + 1))
  | .mode, .mode m => some (encode 1 m.code)
  | .platesIdle, .platesIdle => some []
  | .attributed, .attributed k => if e.arg = (k : Int) then some [] else none
  | _, _ => none

/-- An entry ends on the first report that meets it, with DONE (R14). -/
def WaitEntry.firstMet (e : WaitEntry) (reports : List Report) : Option Reply :=
  (reports.findSome? fun r => e.metBy r).map Reply.ok

/-- PM's report of an event after which it is idle and during which it was not (R143). -/
def idleReport (s : State) : State := if s.plateBusy && !s.pm.busy then s.report .platesIdle else s

/-- LI takes all reports of the event before any reply becomes due (R14); an event without a report does not touch the
wait table. -/
def takeReports (s : State) : State :=
  let s := idleReport s
  { (if s.reports.isEmpty then s else endWaits (fun e => e.firstMet s.reports) s) with
    reports := [], plateBusy := false }

/-- Every WAITING entry ends with result CANCELLED (R18, R26). -/
def cancelWaits (s : State) : State := endWaits (fun _ => some (Reply.refuse .cancelled)) s

/-- An event is finished: LI takes the reports, and the command records leave. -/
def finish (s : State) : State := sendRecords (takeReports s)

/-! ### Streams (R10 to R12) -/

/-- A stream part (R10). -/
def Stream.part (st : Stream) (final : Bool) (data : List Byte) : ReplyPart where
  kind := replyKind st.kind
  tag := st.tag
  result := st.result
  number := st.next
  final := final
  data := data
  origin := if final then .plain else .stream

/-- The next part of a stream, and the source after it (R11, R12, R91, R115). -/
def State.buildPart (s : State) (st : Stream) : ReplyPart × StreamSource :=
  match st.source with
  | .log cursor last total =>
    let found := (Log.range s.di.log cursor last).take Config.streamChunk
    match found.getLast? with
    | some r =>
      (st.part false (encode 1 found.length ++ found.flatMap StationRecord.bytes),
        .log (r.index + 1) last (total + found.length))
    | none => (st.part true (encode 1 0 ++ encode 2 total), .log cursor last total)
  | .plan cursor =>
    let bands := (s.sl.plan.drop cursor).take Config.streamChunk
    if bands.isEmpty then
      (st.part true (encode 1 0 ++ encode 1 s.sl.plan.length ++ encodeBits 2 s.sl.version), .plan cursor)
    else (st.part false (encode 1 bands.length ++ bands.flatMap Band.bytes), .plan (cursor + bands.length))

/-- The handler builds the next part of a stream and places it, or waits for a slot; once the final part is placed it
becomes IDLE (R10). -/
def streamPart (st : Stream) (s : State) : State :=
  let b := s.buildPart st
  let st := { st with source := b.2, next := st.next + 1, phase := .claiming b.1 }
  grantSlots ((grantSlots s).putLi { (grantSlots s).li with handler := .streaming st })

/-! ### Taking a request (R5, R8) -/

/-- The handler takes the oldest request if it is IDLE, the queue is not empty and the request is of this kind (R8); an
owner is asked after the length test (R5), its reports are taken, and the reply, if there is one, is placed (R8, log
entry 7). In any other state no such request can be taken now, and nothing changes (log entry 2). -/
def takeRequest (kind length : Nat) (now : RunTime) (owner : Request → State → State × Option Reply) (s : State) : State :=
  let s := s.begin now
  match s.li.handler, s.li.requestQueue with
  | .idle, r :: rest =>
    if r.kind.toNat = kind then
      let s := s.putLi { s.li with requestQueue := rest }
      if r.body.length = length then
        let a := owner r s
        let t := takeReports a.1
        sendRecords (match a.2 with
          | some reply => handlerReply (singlePart r.kind r.tag reply) t
          | none => t)
      else sendRecords (handlerReply (singlePart r.kind r.tag (Reply.refuse .badLength)) (takeReports s))
    else finish s
  | _, _ => finish s

/-! ### Receiver and admission (R1 to R3) -/

/-- The receiver discards its frame: counter 1, HUNT, gap timer stopped (R2). -/
def discardFrame (s : State) : State := (s.putLi { s.li with receiver := .hunt, gapTimer := none }).count 1

/-- A request is admitted: appended, answered BUSY in the refusal slot, or dropped (the table of R3). -/
def admitRequest (r : Request) (s : State) : State :=
  if s.li.requestQueue.length < Config.requestQueueSize then
    s.putLi { s.li with requestQueue := s.li.requestQueue ++ [r] }
  else
    match s.li.refusal with
    | none => (s.putLi { s.li with refusal := some (singlePart r.kind r.tag (Reply.refuse .busy)) }).count 3
    | some _ => s.count 2

/-- A frame whose check passes has arrived: the link-silence timer is restarted; a silence ends, with LINK_SILENT absent
and the LINK cause gone (R19). -/
def linkHeard (s : State) : State :=
  let silent := s.li.linkTimer.isNone
  let s := s.putLi { s.li with linkTimer := some (s.timer (s.par .linkSilenceTime)) }
  if silent then holdTest (setLinkCause false (condition Source.linkSilent false s)) else s

/-- The check of a complete frame (R2): the last two bytes are the CRC-16 of those between the lead and them. -/
def frameChecks (bytes : List Byte) : Bool :=
  let n := bytes.length - 2
  bytes.drop n == checkBytes ((bytes.take n).drop 1)

/-- The request of a complete frame (R3). -/
def requestOf (bytes : List Byte) : Request where
  kind := (bytes[2]?).getD 0
  tag := (bytes[3]?).getD 0
  body := (bytes.take (bytes.length - 2)).drop 4

/-- A frame is complete: it is tested, and a good one is a request (R1, R2, R3). -/
def frameComplete (bytes : List Byte) (s : State) : State :=
  if frameChecks bytes then
    admitRequest (requestOf bytes) (linkHeard (s.putLi { s.li with receiver := .hunt, gapTimer := none }))
  else discardFrame s

/-- A byte arrives on the operator line (R1, R2). -/
def receiveByte (s : State) (b : Byte) : State :=
  match s.li.receiver with
  | .hunt =>
    if b = Config.leadByte then
      s.putLi { s.li with receiver := .collect [b], gapTimer := some (s.timer Config.gapTime) }
    else s
  | .collect bytes =>
    if bytes.length = 1 ∧ (b.toNat < 2 ∨ 250 < b.toNat) then discardFrame s
    else
      let bytes := bytes ++ [b]
      if bytes.length = byteAt bytes 1 + 4 then frameComplete bytes s
      else s.putLi { s.li with receiver := .collect bytes, gapTimer := some (s.timer Config.gapTime) }

/-- A character with a stop-bit error arrives: a frame in COLLECT is discarded, in HUNT it is ignored (R2). -/
def badCharacter (s : State) : State :=
  match s.li.receiver with
  | .hunt => s
  | .collect _ => discardFrame s

/-- The gap timer has expired: more than 5 ms have passed after a byte of the frame (R2). -/
def State.gapPassed (s : State) : Bool :=
  match s.li.gapTimer with
  | some t => t.duration < s.runTime.since t.start
  | none => false

/-- The link-silence timer has expired: it becomes EXPIRED, LINK_SILENT becomes present, and MP gets the LINK cause
(R19, R33). -/
def linkSilent (s : State) : State :=
  holdTest (setLinkCause true (condition Source.linkSilent true (s.putLi { s.li with linkTimer := none })))

end Sys2Proof.Machine
end

