-- ==== Sys2Proof/Machine/EventsLine.lean ====
section
/-! DEFINITION. The events of the operator line (chapter 1) but for the taking of requests: reception, the transmitter,
the granting of slots, streams, and the timers of LI. -/

namespace Sys2Proof.Machine

/-- An event that is not the taking of a request: it begins, acts, and is finished. -/
def event (now : RunTime) (f : State → State) (s : State) : State := finish (f (s.begin now))

/-! ### Reception (R1 to R3) -/

/-- FRAME_RECEIVED: the bytes arrive in order, the last of them completing the frame (R1 to R3, log entry 5). -/
def execFrameReceived (bytes : List Byte) (now : RunTime) (s : State) : Host.Outcome State Fault Refusal :=
  .next (event now (fun s => bytes.foldl receiveByte s) s)

/-- FRAME_BAD_LENGTH: the length byte arrives (R2). -/
def execFrameBadLength (length : Byte) (now : RunTime) (s : State) : Host.Outcome State Fault Refusal :=
  .next (event now (fun s => receiveByte s length) s)

/-- FRAME_LEAD_BYTE: the byte 0xC3 arrives (R1). -/
def execFrameLeadByte (now : RunTime) (s : State) : Host.Outcome State Fault Refusal :=
  .next (event now (fun s => receiveByte s Config.leadByte) s)

/-- BAD_CHARACTER: a character with a stop-bit error arrives (R2). -/
def execBadCharacter (now : RunTime) (s : State) : Host.Outcome State Fault Refusal := .next (event now badCharacter s)

/-- The gap timer's expiry in COLLECT (R2). -/
def gapExpiry (s : State) : State :=
  match s.li.receiver with
  | .hunt => s
  | .collect _ => if s.gapPassed then discardFrame s else s

/-- GAP_TIMER_EXPIRY (R2). -/
def execGapTimerExpiry (now : RunTime) (s : State) : Host.Outcome State Fault Refusal := .next (event now gapExpiry s)

/-! ### Link silence (R19) -/

/-- The link-silence timer's expiry while RUNNING (R19). -/
def linkExpiry (s : State) : State := if timerDue s.li.linkTimer s.runTime then linkSilent s else s

/-- LINK_SILENCE_EXPIRY (R19). -/
def execLinkSilenceExpiry (now : RunTime) (s : State) : Host.Outcome State Fault Refusal :=
  .next (event now linkExpiry s)

/-! ### The transmitter (R7) -/

/-- A free line takes the BUSY reply of the refusal slot, or else the oldest reply part (R7). -/
def startFrame (s : State) : State :=
  match s.li.line with
  | .busy _ | .part _ => s
  | .free =>
    match s.li.refusal, s.li.replyQueue with
    | some p, _ => s.putLi { s.li with line := .busy p.frame }
    | none, p :: _ => s.putLi { s.li with line := .part p.frame }
    | none, [] => s

/-- TRANSMIT_FRAME_START (R7). -/
def execTransmitFrameStart (now : RunTime) (s : State) : Host.Outcome State Fault Refusal := .next (event now startFrame s)

/-- The handler learns that a part that it waits for has left the line (R10, R26). -/
def Handler.partLeft (h : Handler) (o : PartOrigin) : Handler :=
  match o, h with
  | .stream, .streaming st => .streaming { st with phase := .left }
  | .restart, .restarting k _ => .restarting k .left
  | _, h => h

/-- The frame on the line has fully left: the refusal slot or the part's reply-queue slot is free (R7). -/
def completeFrame (s : State) : State :=
  match s.li.line with
  | .free => s
  | .busy _ => s.putLi { s.li with line := .free, refusal := none }
  | .part _ =>
    match s.li.replyQueue with
    | p :: rest => s.putLi { s.li with line := .free, replyQueue := rest, handler := s.li.handler.partLeft p.origin }
    | [] => s.putLi { s.li with line := .free }

/-- TRANSMIT_COMPLETE (R7). -/
def execTransmitComplete (now : RunTime) (s : State) : Host.Outcome State Fault Refusal :=
  .next (event now completeFrame s)

/-! ### Slots and streams (R9, R10) -/

/-- REPLY_SLOT_GRANTED: a free slot is granted to the first claimant (R9). -/
def execReplySlotGranted (now : RunTime) (s : State) : Host.Outcome State Fault Refusal := .next (event now grantSlot s)

/-- The next part of a stream whose last part has left the line (R10). -/
def nextPart (s : State) : State :=
  match s.li.handler with
  | .streaming st => if st.phase = .left then streamPart st s else s
  | .idle | .placing _ | .restarting _ _ => s

/-- STREAM_NEXT_PART (R10). -/
def execStreamNextPart (now : RunTime) (s : State) : Host.Outcome State Fault Refusal := .next (event now nextPart s)

/-! ### Wait deadlines (R15) -/

/-- The deadline of the WAITING entry with this tag is reached: it ends TIMED_OUT (R15). -/
def waitExpiry (tag : Byte) (s : State) : State :=
  endWaits (fun e => if e.tag = tag ∧ timerDue e.deadline s.runTime then some (Reply.refuse .timedOut) else none) s

/-- WAIT_DEADLINE_EXPIRY (R15). -/
def execWaitDeadlineExpiry (tag : Byte) (now : RunTime) (s : State) : Host.Outcome State Fault Refusal :=
  .next (event now (waitExpiry tag) s)

end Sys2Proof.Machine
end

