-- ==== Sys2Proof/Machine/EventsField.lean ====
section
/-! DEFINITION. The events of the field side and the timers of FC and MP (chapters 2 and 3). -/

namespace Sys2Proof.Machine

/-! ### SAMPLE_ARRIVAL (R47, R48) -/

/-- A sample record within its channel's range is an arrival; any other is counted in counter 6 (R47). After the arrival
MP tests the end of START (R29). -/
def sample (number : Nat) (v : Int) (s : State) : State :=
  match Channel.ofNumber number with
  | some c => if c.range.1 ≤ v ∧ v ≤ c.range.2 then startTest (arrival c v s) else s.count 6
  | none => s.count 6

/-- SAMPLE_ARRIVAL (R48). -/
def execSampleArrival (channel : Nat) (value : Int) (now : RunTime) (s : State) : Host.Outcome State Fault Refusal :=
  .next (event now (sample channel value) s)

/-! ### Windows (R29, R49) -/

/-- The start window timer's expiry while the mode is START (R29). -/
def startExpiry (s : State) : State :=
  if s.mp.mode = .start ∧ timerDue s.mp.startTimer s.runTime then endStart s else s

/-- START_WINDOW_EXPIRY (R29). -/
def execStartWindowExpiry (now : RunTime) (s : State) : Host.Outcome State Fault Refusal :=
  .next (event now startExpiry s)

/-- The window timer's expiry (R49). -/
def windowExpiry (s : State) : State := if s.fc.windowTimer.due s.runTime then windowEnd s else s

/-- WINDOW_END (R49). -/
def execWindowEnd (now : RunTime) (s : State) : Host.Outcome State Fault Refusal := .next (event now windowExpiry s)

/-! ### Discrete inputs (R53) -/

/-- DISCRETE_INPUT_CHANGE (R53). -/
def execDiscreteInputChange (input : InputId) (level : Level) (now : RunTime) (s : State) :
    Host.Outcome State Fault Refusal := .next (event now (inputChange input level) s)

/-- The filter timer's expiry (R53). -/
def filterExpiry (i : InputId) (s : State) : State := if timerDue (s.input i).timer s.runTime then passInput i s else s

/-- FILTER_TIMER_EXPIRY (R53). -/
def execFilterTimerExpiry (input : InputId) (now : RunTime) (s : State) : Host.Outcome State Fault Refusal :=
  .next (event now (filterExpiry input) s)

/-! ### Disagreement (R59) -/

/-- The disagreement timer's expiry (R59). -/
def disagreementExpiry (a : Axis) (s : State) : State :=
  if timerDue (s.fc.slopes.get a).timer s.runTime then disagreementPersists a s else s

/-- DISAGREEMENT_TIMER_EXPIRY (R59). -/
def execDisagreementTimerExpiry (axis : Axis) (now : RunTime) (s : State) : Host.Outcome State Fault Refusal :=
  .next (event now (disagreementExpiry axis) s)

end Sys2Proof.Machine
end

