-- ==== Sys2Proof/Machine/EventsPower.lean ====
section
/-! DEFINITION. Power-on and restart (section 2.5). -/

namespace Sys2Proof.Machine

/-- The three inputs report their conditions as they find them (R54, R202). -/
def reportInputs (s : State) : State := reportInput .oilHot (reportInput .gearPressLow (reportInput .emergencyIn s))

/-- Power-on with the inputs at these raw levels: every block takes its initial state, the records of START leave, and an
input at its active level reports (R43, R54). The queue of commands is not the module's. -/
def powerOn (emergency gear oil : Level) (s : State) : State :=
  finish (reportInputs { State.initial emergency gear oil with pending := s.pending })

/-- POWER_ON (R43). -/
def execPowerOn (emergency gear oil : Level) (s : State) : Host.Outcome State Fault Refusal :=
  .next (powerOn emergency gear oil s)

/-- The state after a restart with keep_log 0, before the inputs report: power-on with the raw levels present, but the
counter set is kept and each parcel of the line is counted in counter 9 (R44). -/
def restartState (s : State) : State :=
  { State.initial s.fc.emergencyIn.raw s.fc.gearPressLow.raw s.fc.oilHot.raw with
    counters := (s.addCounter 9 s.sr.line.length).counters
    pending := s.pending }

/-- What a restart with keep_log 1 keeps of the state `old`: the table of R45. -/
def keepRecord (old s : State) : State :=
  { s with
    mp := { s.mp with
      panel := old.mp.panel, panelNumber := old.mp.panelNumber, cutArea := old.mp.cutArea, interval := old.mp.interval }
    di := { s.di with
      path := old.di.path, depth := old.di.depth, anchored := old.di.anchored, closure := old.di.closure
      log := old.di.log }
    fc := { s.fc with
      reference := old.fc.reference, lastAccepted := old.fc.lastAccepted, lastRaw := old.fc.lastRaw } }

/-- With the panel OPEN, DI opens a fresh record for the station of the retained depth, and hands SR its station, pass and
depth (R45, R190). -/
def reopenStation (s : State) : State := if s.mp.panel = .opened then cutterHandOff (resetOpenAtDepth s) else s

/-- The module restarts (R44, R45). -/
def restartModule (keepLog : Bool) (s : State) : State :=
  finish (reportInputs (if keepLog then reopenStation (keepRecord s (restartState s)) else restartState s))

/-- MODULE_RESTART: once the DONE reply of RESTART has left the line, the module restarts (R26, R44). Before that there is
no such event, and nothing changes (log entry 2). -/
def execModuleRestart (s : State) : Host.Outcome State Fault Refusal :=
  match s.li.handler with
  | .restarting k .left => .next (restartModule k s)
  | _ => .next s

end Sys2Proof.Machine
end

