-- ==== Sys2Proof/Machine/EventsTimers.lean ====
section
/-! DEFINITION. The timers of PM, WD, SR and SL (chapters 6, 8, 9, 10). -/

namespace Sys2Proof.Machine

/-! ### PLATE_MOVE_DEADLINE (R146) -/

/-- The deadline of the move in flight: the move ends FAILED (R146). -/
def moveExpiry (s : State) : State :=
  match s.pm.move with
  | some m => if m.deadline.due s.runTime then failMove m.plate s else s
  | none => s

/-- PLATE_MOVE_DEADLINE (R146). -/
def execPlateMoveDeadline (now : RunTime) (s : State) : Host.Outcome State Fault Refusal := .next (event now moveExpiry s)

/-! ### The wheel timers (R163 to R166) -/

/-- The stall timer's expiry: the wheel is STALLED and its record leaves (R163). -/
def stallExpiry (w : WheelId) (s : State) : State :=
  if timerDue (s.wheel w).stallTimer s.runTime then announceWheel w (stall w s) else s

/-- STALL_TIMER_EXPIRY (R163). -/
def execStallTimerExpiry (wheel : WheelId) (now : RunTime) (s : State) : Host.Outcome State Fault Refusal :=
  .next (event now (stallExpiry wheel) s)

/-- The end of a STALLED wheel's pause: it reverses, or it is locked out and its lockout is reported to TU; either way its
record leaves, at a lockout also where the speed 0 has been sent before (R164, R166). -/
def pauseEnd (w : WheelId) (s : State) : State :=
  if s.mayReverse w then announceWheel w (reverseEntry w s)
  else condition (lockoutSource w) true (announceWheel w (lockOut w s))

/-- The stall pause's end while the wheel is STALLED (R164). -/
def pauseExpiry (w : WheelId) (s : State) : State :=
  if (s.wheel w).state = .stalled ∧ timerDue (s.wheel w).stateTimer s.runTime then pauseEnd w s else s

/-- STALL_PAUSE_END (R164). -/
def execStallPauseEnd (wheel : WheelId) (now : RunTime) (s : State) : Host.Outcome State Fault Refusal :=
  .next (event now (pauseExpiry wheel) s)

/-- The reverse time's expiry while the wheel is REVERSING (R165). -/
def reverseExpiry (w : WheelId) (s : State) : State :=
  if (s.wheel w).state = .reversing ∧ timerDue (s.wheel w).stateTimer s.runTime then reverseEnd w s else s

/-- REVERSE_TIME_EXPIRY (R165). -/
def execReverseTimeExpiry (wheel : WheelId) (now : RunTime) (s : State) : Host.Outcome State Fault Refusal :=
  .next (event now (reverseExpiry wheel) s)

/-! ### The slurry timers (R180, R183) -/

/-- The blockage timer's expiry (R180). -/
def blockageExpiry (s : State) : State := if timerDue s.sr.blockTimer s.runTime then blockagePresent s else s

/-- BLOCKAGE_TIMER_EXPIRY (R180). -/
def execBlockageTimerExpiry (now : RunTime) (s : State) : Host.Outcome State Fault Refusal :=
  .next (event now blockageExpiry s)

/-- The backflush timer's expiry (R183). -/
def backflushExpiry (s : State) : State := if timerDue s.sr.backflushTimer s.runTime then endBackflush s else s

/-- BACKFLUSH_END (R183). -/
def execBackflushEnd (now : RunTime) (s : State) : Host.Outcome State Fault Refusal := .next (event now backflushExpiry s)

/-! ### The plan load timer (R113) -/

/-- The load timer's expiry: the load is discarded and counted (R113). -/
def loadExpiry (s : State) : State :=
  match s.sl.load with
  | some l => if l.timer.due s.runTime then ({ s with sl := { s.sl with load := none } }).count 4 else s
  | none => s

/-- LOAD_TIMER_EXPIRY (R113). -/
def execLoadTimerExpiry (now : RunTime) (s : State) : Host.Outcome State Fault Refusal := .next (event now loadExpiry s)

end Sys2Proof.Machine
end

