-- ==== Sys2Proof/Machine/Answers.lean ====
section
/-! DEFINITION. How an owner answers a request (R4, R6): a refusal that leaves the state as it is, DONE, DONE with data,
and no reply at all. -/

namespace Sys2Proof.Machine

/-- What an owner gives back for a request: the state, and the reply if there is one. -/
abbrev Answer := State × Option Reply

/-- A refusal changes no state (R6). -/
def refuse (r : Result) (s : State) : Answer := (s, some (Reply.refuse r))

/-- DONE without reply data. -/
def done (s : State) : Answer := (s, some (Reply.ok []))

/-- DONE with reply data. -/
def doneWith (data : List Byte) (s : State) : Answer := (s, some (Reply.ok data))

/-- DONE, or DONE_CLAMPED when a value was clamped, with reply data (R6). -/
def doneStored (clamped : Bool) (data : List Byte) (s : State) : Answer := (s, some (Reply.stored clamped data))

/-- No reply when the request is taken: a posted AWAIT, a stream, RESTART (R8). -/
def noReply (s : State) : Answer := (s, none)

end Sys2Proof.Machine
end

