-- ==== Sys2Proof/Machine/RequestsDrive.lean ====
section
/-! DEFINITION. The requests that WD, SR and PM answer (chapters 8 to 11). -/

namespace Sys2Proof.Machine

/-! ### WHEEL_SET (R156) and WHEEL_CLEAR (R167) -/

/-- The tests of WHEEL_SET in the order of R156, and its effect. -/
def wheelSetTests (w : WheelId) (d : Direction) (sent : Int) (s : State) : Answer :=
  if s.mp.mode = .start ∨ s.mp.mode = .standby then refuse .wrongMode s
  else if d = .reverse ∧ (s.mp.mode = .auto ∨ s.mp.mode = .hold) then refuse .badValue s
  else if (s.wheel w).state = .lockedOut ∨ s.tripped (.wheel w) then refuse .wrongState s
  else
    let base := min sent (s.par .maxWheelSpeed)
    doneStored (base != sent) (encode 2 base) (wheelSet w d base s)

/-- WHEEL_SET: wheel u8, direction u8, base speed u16 (R6, R156). -/
def ownWheelSet (r : Request) (s : State) : Answer :=
  match wheelOf (byteAt r.body 0), directionOf (byteAt r.body 1) with
  | some w, some d => wheelSetTests w d (unsignedAt r.body 2 2) s
  | _, _ => refuse .badValue s

/-- WHEEL_SET (R156). -/
def execWheelSet (now : RunTime) (s : State) : Host.Outcome State Fault Refusal :=
  .next (takeRequest 0x08 4 now ownWheelSet s)

/-- WHEEL_CLEAR: wheel u8; a LOCKED_OUT wheel becomes STOPPED and its lockout condition absent (R6, R167). -/
def ownWheelClear (r : Request) (s : State) : Answer :=
  match wheelOf (byteAt r.body 0) with
  | none => refuse .badValue s
  | some w =>
    done (if (s.wheel w).state = .lockedOut then condition (lockoutSource w) false (wheelClear w s) else s)

/-- WHEEL_CLEAR (R167). -/
def execWheelClear (now : RunTime) (s : State) : Host.Outcome State Fault Refusal :=
  .next (takeRequest 0x09 1 now ownWheelClear s)

/-! ### PUMP_SET (R176) and BACKFLUSH (R181) -/

/-- PUMP_SET: flow target u16 (R176). The mode is tested before the trip, so that outside MANUAL the answer is WRONG_MODE
while the PUMP group is tripped as well (DESIGN CHOICE, log entry 34). -/
def ownPumpSet (r : Request) (s : State) : Answer :=
  if s.mp.mode ≠ .manual then refuse .wrongMode s
  else if s.tripped .pump then refuse .wrongState s
  else
    let sent : Int := unsignedAt r.body 0 2
    let target := min sent s.maxFlow
    doneStored (target != sent) (encode 2 target) (recomputePump { s with sr := { s.sr with manualTarget := target } })

/-- PUMP_SET (R176). -/
def execPumpSet (now : RunTime) (s : State) : Host.Outcome State Fault Refusal :=
  .next (takeRequest 0x0A 2 now ownPumpSet s)

/-- BACKFLUSH (R181). The mode is tested first, so that outside MANUAL and AUTO the answer is WRONG_MODE also while the
PUMP group is tripped, and in HOLD while a backflush runs, where R185 and the table of R183 give WRONG_STATE and name no
mode (DESIGN CHOICE, log entry 36). -/
def ownBackflush (_ : Request) (s : State) : Answer :=
  if s.mp.mode ≠ .manual ∧ s.mp.mode ≠ .auto then refuse .wrongMode s
  else if s.backflushAllowed then done (startBackflush s)
  else refuse .wrongState s

/-- BACKFLUSH (R181). -/
def execBackflush (now : RunTime) (s : State) : Host.Outcome State Fault Refusal :=
  .next (takeRequest 0x0B 0 now ownBackflush s)

/-! ### PLATE_MOVE (R139) and PLATE_CLEAR (R151) -/

/-- The tests of PLATE_MOVE in the order of R139, and its disposal at class URGENT. -/
def plateMoveTests (p : Plate) (sent : Nat) (s : State) : Answer :=
  if s.mp.mode = .start ∨ s.mp.mode = .standby then refuse .wrongMode s
  else if s.pm.arbiter = .halted then refuse .wrongState s
  else if s.pm.faulty.get p then refuse .wrongState s
  else
    let target := min sent 100
    doneStored (target != sent) (encode 1 target) (plateRequest p target .urgent s)

/-- PLATE_MOVE: plate u8, target u8 (R6, R139). -/
def ownPlateMove (r : Request) (s : State) : Answer :=
  match plateOf (byteAt r.body 0) with
  | none => refuse .badValue s
  | some p => plateMoveTests p (byteAt r.body 1) s

/-- PLATE_MOVE (R139). -/
def execPlateMove (now : RunTime) (s : State) : Host.Outcome State Fault Refusal :=
  .next (takeRequest 0x0C 2 now ownPlateMove s)

/-- PLATE_CLEAR: plate u8; the plate's fault mark is clear after it (R6, R151). -/
def ownPlateClear (r : Request) (s : State) : Answer :=
  match plateOf (byteAt r.body 0) with
  | none => refuse .badValue s
  | some p => done (s.putPm { s.pm with faulty := putPlate s.pm.faulty p false })

/-- PLATE_CLEAR (R151). -/
def execPlateClear (now : RunTime) (s : State) : Host.Outcome State Fault Refusal :=
  .next (takeRequest 0x0D 1 now ownPlateClear s)

/-! ### TRANSIT_GET (R200) -/

/-- TRANSIT_GET (R200). -/
def ownTransitGet (_ : Request) (s : State) : Answer := doneWith s.transitData s

/-- TRANSIT_GET (R200). -/
def execTransitGet (now : RunTime) (s : State) : Host.Outcome State Fault Refusal :=
  .next (takeRequest 0x13 0 now ownTransitGet s)

end Sys2Proof.Machine
end

