-- ==== Sys2Proof/Machine/RequestsLine.lean ====
section
/-! DEFINITION. The requests that LI answers itself (chapter 1): unknown kinds, the status snapshot, parameters, counters,
the streams of LOG_READ, the wait requests and RESTART. -/

namespace Sys2Proof.Machine

/-! ### REQUEST_UNKNOWN_KIND (R5) -/

/-- The handler takes the oldest request if its kind names no request, and answers UNKNOWN_KIND (R5). -/
def takeUnknown (now : RunTime) (s : State) : State :=
  let s := s.begin now
  match s.li.handler, s.li.requestQueue with
  | .idle, r :: rest =>
    if knownKind r.kind.toNat then finish s
    else sendRecords (handlerReply (singlePart r.kind r.tag (Reply.refuse .unknownKind))
      (takeReports (s.putLi { s.li with requestQueue := rest })))
  | _, _ => finish s

/-- REQUEST_UNKNOWN_KIND (R5). -/
def execRequestUnknownKind (now : RunTime) (s : State) : Host.Outcome State Fault Refusal := .next (takeUnknown now s)

/-! ### STATUS_GET (R25) -/

/-- The snapshot of the module at the event of taking (R25). -/
def ownStatusGet (_ : Request) (s : State) : Answer := doneWith s.statusData s

/-- STATUS_GET (R25). -/
def execStatusGet (now : RunTime) (s : State) : Host.Outcome State Fault Refusal :=
  .next (takeRequest 0x01 0 now ownStatusGet s)

/-! ### PARAM_SET and PARAM_GET (R20 to R22) -/

/-- The value that is stored for a value sent: clamped to the parameter's range, and then tied: the hard density limit is
at least the soft one (R21, R179). -/
def State.storedValue (s : State) (p : ParamId) (sent : Int) : Int :=
  let v := clamp p.lo p.hi sent
  match p with
  | .softLimit => min v (s.par .hardLimit)
  | .hardLimit => max v (s.par .softLimit)
  | _ => v

/-- What the owner recomputes at the event that stores a parameter, `old` being the value before (R131, R157, R187). Every
other parameter is used at its next use (R20). -/
def parameterStored (p : ParamId) (old : Int) (s : State) : State :=
  match p with
  | .maxWheelSpeed => maximumStored old s
  | .diffMax => diffMaxStored s
  | .idleFlow => if s.sr.pumpState = .idle then recomputePump s else s
  | .baseFlow | .carry | .pumpMaxRpm | .displacement => recomputeFeedLimit (recomputePump (recomputeRequired s))
  | .operatorFeedLimit => recomputeFeedLimit s
  | _ => s

/-- A value is stored and the owner acts on it (R20, R21). -/
def storeParameter (p : ParamId) (v : Int) (s : State) : State := parameterStored p (s.par p) (s.setPar p v)

/-- PARAM_SET: identifier u16, value s32 (R21). -/
def ownParamSet (r : Request) (s : State) : Answer :=
  let id := unsignedAt r.body 0 2
  let sent := signedAt r.body 2 4
  match ParamId.ofNumber id with
  | none => refuse .notFound s
  | some p =>
    let v := s.storedValue p sent
    doneStored (v != sent) (encode 2 id ++ encode 4 v) (storeParameter p v s)

/-- PARAM_SET (R21). -/
def execParamSet (now : RunTime) (s : State) : Host.Outcome State Fault Refusal :=
  .next (takeRequest 0x02 6 now ownParamSet s)

/-- PARAM_GET: identifier u16 (R22). -/
def ownParamGet (r : Request) (s : State) : Answer :=
  let id := unsignedAt r.body 0 2
  match ParamId.ofNumber id with
  | none => refuse .notFound s
  | some p => doneWith (encode 2 id ++ encode 4 (s.par p)) s

/-- PARAM_GET (R22). -/
def execParamGet (now : RunTime) (s : State) : Host.Outcome State Fault Refusal :=
  .next (takeRequest 0x03 2 now ownParamGet s)

/-! ### LOG_READ (R11) -/

/-- LOG_READ: first u16, count u16; a good request starts the stream (R10, R11). -/
def ownLogRead (r : Request) (s : State) : Answer :=
  let first := unsignedAt r.body 0 2
  let count := unsignedAt r.body 2 2
  if Config.logTop < first ∨ count = 0 then refuse .badValue s
  else
    let last := first + count - 1
    noReply (streamPart
      { kind := r.kind, tag := r.tag
        result := if Config.logTop < last then .doneClamped else .done
        source := .log first (min last Config.logTop) 0
        next := 0, phase := .left } s)

/-- LOG_READ (R11). -/
def execLogRead (now : RunTime) (s : State) : Host.Outcome State Fault Refusal :=
  .next (takeRequest 0x12 4 now ownLogRead s)

/-! ### AWAIT and AWAIT_CANCEL (R13, R17) -/

/-- The argument is one that the condition allows (R13 step 2). -/
def WaitCond.argAllowed (c : WaitCond) (arg : Int) : Bool :=
  match c with
  | .station => arg == -1 || (0 ≤ arg && arg ≤ Config.logTop)
  | .attributed => 0 ≤ arg && arg ≤ Config.logTop
  | .depth | .trip | .mode | .platesIdle => true

/-- The condition already holds at posting (R13 step 4). -/
def State.alreadyMet (s : State) (c : WaitCond) (arg : Int) : Bool :=
  match c with
  | .depth => arg ≤ s.di.depth
  | .platesIdle => !s.pm.busy
  | .station | .trip | .mode | .attributed => false

/-- A wait is posted as the newest entry of the table (R13 step 6). -/
def postWait (tag : Byte) (c : WaitCond) (arg : Int) (timeout : Nat) (s : State) : State :=
  s.putLi { s.li with
    waits := s.li.waits ++ [{
      tag := tag, cond := c, arg := arg
      deadline := if timeout = 0 then none else some (s.timer (timeout * 100))
      seq := s.li.nextSeq, state := .waiting }]
    nextSeq := s.li.nextSeq + 1 }

/-- AWAIT with a condition of the list: the tests of R13 in order. -/
def postTests (tag : Byte) (c : WaitCond) (arg : Int) (timeout : Nat) (s : State) : Answer :=
  if 6000 < timeout then refuse .badValue s
  else if !c.argAllowed arg then refuse .badValue s
  else if s.li.waits.any fun e => e.tag == tag then refuse .badValue s
  else if s.alreadyMet c arg then done s
  else if Config.waitTableSize ≤ s.li.waits.length then refuse .busy s
  else noReply (postWait tag c arg timeout s)

/-- AWAIT: condition u8, argument s32, timeout u16 in 100 ms (R6, R13). -/
def ownAwait (r : Request) (s : State) : Answer :=
  match waitCondOf (byteAt r.body 0) with
  | none => refuse .badValue s
  | some c => postTests r.tag c (signedAt r.body 1 4) (unsignedAt r.body 5 2) s

/-- AWAIT (R13). -/
def execAwait (now : RunTime) (s : State) : Host.Outcome State Fault Refusal :=
  .next (takeRequest 0x14 7 now ownAwait s)

/-- An entry in state WAITING has this tag. -/
def WaitEntry.waitsWith (e : WaitEntry) (tag : Byte) : Bool := e.tag == tag && e.state == .waiting

/-- AWAIT_CANCEL: tag u8 (R17). -/
def ownAwaitCancel (r : Request) (s : State) : Answer :=
  let tag := (r.body[0]?).getD 0
  if s.li.waits.any fun e => e.waitsWith tag then
    done (endWaits (fun e => if e.tag = tag then some (Reply.refuse .cancelled) else none) s)
  else refuse .notFound s

/-- AWAIT_CANCEL (R17). -/
def execAwaitCancel (now : RunTime) (s : State) : Host.Outcome State Fault Refusal :=
  .next (takeRequest 0x15 1 now ownAwaitCancel s)

/-! ### COUNTERS_READ (R24) -/

/-- COUNTERS_READ reads and clears the counter set at one event (R24). -/
def ownCountersRead (_ : Request) (s : State) : Answer :=
  doneWith s.counterData { s with counters := Vector.replicate 17 0 }

/-- COUNTERS_READ (R24). -/
def execCountersRead (now : RunTime) (s : State) : Host.Outcome State Fault Refusal :=
  .next (takeRequest 0x16 0 now ownCountersRead s)

/-! ### RESTART (R26) -/

/-- The DONE reply of a RESTART, after which the module restarts (R26). -/
def restartPart (r : Request) : ReplyPart := { singlePart r.kind r.tag (Reply.ok []) with origin := .restart }

/-- RESTART: keep_log u8. The waits end CANCELLED, and the DONE reply is placed after every held wait reply (R26). -/
def ownRestart (r : Request) (s : State) : Answer :=
  match switchOf (byteAt r.body 0) with
  | none => refuse .badValue s
  | some k =>
    let s := cancelWaits s
    noReply (grantSlots (s.putLi { s.li with handler := .restarting k (.claiming (restartPart r)) }))

/-- RESTART (R26). -/
def execRestart (now : RunTime) (s : State) : Host.Outcome State Fault Refusal :=
  .next (takeRequest 0x1B 1 now ownRestart s)

end Sys2Proof.Machine
end

