-- ==== Sys2Proof/Machine/RequestsMode.lean ====
section
/-! DEFINITION. The requests that MP answers (chapter 2): MODE_SET, PANEL_OPEN, DEPTH_ZERO, PANEL_CLOSE. -/

namespace Sys2Proof.Machine

/-! ### MODE_SET (R36) -/

/-- The requirement of MANUAL: the EMERGENCY source is CLEAR and the panel is OPEN (R31, R36 step 5). -/
def State.manualAllowed (s : State) : Bool := s.source Source.emergency == .clear && s.mp.panel == .opened

/-- The requirements of AUTO: those of MANUAL, the DEPTH channel FRESH, the derived slope available on both axes (R32,
R36 step 6). -/
def State.autoAllowed (s : State) : Bool :=
  s.manualAllowed && s.fresh .depth && s.fc.slopes.x.case != .none && s.fc.slopes.y.case != .none

/-- The tests of MODE_SET, in the order of R36. -/
def modeSet (m : Mode) (s : State) : Answer :=
  if m = .start ∨ m = .hold then refuse .badValue s
  else if s.mp.mode = .start then refuse .wrongMode s
  else if m = s.mp.mode ∨ (m = .auto ∧ s.mp.mode = .hold) then done s
  else
    match m with
    | .manual => if s.manualAllowed then done (changeMode .manual s) else refuse .wrongState s
    | .auto =>
      if s.autoAllowed then
        done (if s.mp.holdCauses.present then changeMode .hold (s.count 17) else changeMode .auto s)
      else refuse .wrongState s
    | .standby | .start | .hold => done (changeMode .standby s)

/-- MODE_SET: mode u8 (R6, R36). -/
def ownModeSet (r : Request) (s : State) : Answer :=
  match Mode.ofCode (byteAt r.body 0) with
  | none => refuse .badValue s
  | some m => modeSet m s

/-- MODE_SET (R36). -/
def execModeSet (now : RunTime) (s : State) : Host.Outcome State Fault Refusal :=
  .next (takeRequest 0x04 1 now ownModeSet s)

/-! ### PANEL_OPEN (R40) -/

/-- The latest accepted depth, or 0 if no depth sample has been accepted since power-on or restart (R40 step 3). -/
def State.latestAccepted (s : State) : Int := if s.fc.accepted then s.fc.lastAccepted.getD 0 else 0

/-- The effects of PANEL_OPEN in the order of R40: header, log, integrator, open station, transit line, panel state; DI's
hand-offs to SR and LI, and SR's recomputations for the new cut area (R65, R79, R173, R177, R190). The depth is the latest
accepted one, or 0 if no sample has been accepted since power-on or restart (R40); the anchored mark is set exactly if FC
has a last accepted depth, one that a restart with keep_log 1 retains included (R65; DEDUCED, log entry 32). -/
def openPanel (number : Nat) (area interval : Int) (s : State) : State :=
  let s := { s with mp := { s.mp with panelNumber := number, cutArea := area, interval := interval } }
  let s := ({ s with di := { s.di with log := [] } }).zeroCounter 7
  let s := { s with di := { s.di with
    path := ⟨⟨0, 0, false⟩, ⟨0, 0, false⟩⟩
    closure := false
    depth := s.latestAccepted
    anchored := s.fc.lastAccepted.isSome } }
  let s := emptyLine (resetOpenAtDepth (emptyRing s))
  let s := cutterHandOff { s with mp := { s.mp with panel := .opened } }
  (recomputeFeedLimit (recomputePump (recomputeRequired s))).report (.depth s.di.depth)

/-- PANEL_OPEN: panel number u16, cut area u32, station interval u16 (R40). -/
def ownPanelOpen (r : Request) (s : State) : Answer :=
  if s.mp.mode ≠ .standby then refuse .wrongMode s
  else
    let number := unsignedAt r.body 0 2
    let area : Int := unsignedAt r.body 2 4
    let interval : Int := unsignedAt r.body 6 2
    let a := clamp 10000 80000 area
    let i := clamp 100 2000 interval
    doneStored (a != area || i != interval) (encode 2 number ++ encode 4 a ++ encode 2 i) (openPanel number a i s)

/-- PANEL_OPEN (R40). -/
def execPanelOpen (now : RunTime) (s : State) : Host.Outcome State Fault Refusal :=
  .next (takeRequest 0x05 8 now ownPanelOpen s)

/-! ### DEPTH_ZERO (R41) -/

/-- The state allows DEPTH_ZERO, but for the latest accepted sample (R41 step 2). -/
def State.zeroAllowed (s : State) : Bool :=
  s.mp.mode == .standby && s.mp.panel == .opened && !s.di.closure && s.fresh .depth

/-- FC's depth reference and DI's integrator at a new zero (R41), with DI's hand-offs to SR and LI (R65, R79, R190). -/
def zeroDepth (d oX oY raw : Int) (s : State) : State :=
  let s := { s with
    fc := { s.fc with reference := d - raw, lastAccepted := some d }
    di := { s.di with depth := d, path := ⟨⟨oX, 0, false⟩, ⟨oY, 0, false⟩⟩, anchored := true } }
  let s := cutterHandOff (resetOpenAtDepth (emptyRing s))
  s.report (.depth d)

/-- An offset within its limits (R41 step 1). -/
def offsetAllowed (o : Int) : Bool := -Config.offsetLimit ≤ o && o ≤ Config.offsetLimit

/-- DEPTH_ZERO: depth s32, oX s32, oY s32 (R41). In START too the tests are those of R41: BAD_VALUE for a value out of
range and WRONG_STATE otherwise, where R28 refuses the requests tied to STANDBY WRONG_MODE (DESIGN CHOICE, log
entry 37). -/
def ownDepthZero (r : Request) (s : State) : Answer :=
  let d := signedAt r.body 0 4
  let oX := signedAt r.body 4 4
  let oY := signedAt r.body 8 4
  if d < Config.depthMin ∨ Config.depthMax < d ∨ !offsetAllowed oX ∨ !offsetAllowed oY then refuse .badValue s
  else if s.zeroAllowed then
    match s.fc.lastRaw with
    | some raw => done (zeroDepth d oX oY raw s)
    | none => refuse .wrongState s
  else refuse .wrongState s

/-- DEPTH_ZERO (R41). -/
def execDepthZero (now : RunTime) (s : State) : Host.Outcome State Fault Refusal :=
  .next (takeRequest 0x07 12 now ownDepthZero s)

/-! ### PANEL_CLOSE (R42) -/

/-- The effects of PANEL_CLOSE in the order of R42. -/
def closePanel (s : State) : State :=
  let s := setOpen none (cancelWaits s)
  let s := emptyLine s
  let s := { s with sr := { s.sr with cutter := none }, mp := { s.mp with panel := .closed } }
  match s.mp.mode with
  | .manual | .auto | .hold => changeMode .standby s
  | .start | .standby => s

/-- PANEL_CLOSE (R42). -/
def ownPanelClose (_ : Request) (s : State) : Answer :=
  if s.mp.panel = .opened then done (closePanel s) else refuse .wrongState s

/-- PANEL_CLOSE (R42). -/
def execPanelClose (now : RunTime) (s : State) : Host.Outcome State Fault Refusal :=
  .next (takeRequest 0x06 0 now ownPanelClose s)

end Sys2Proof.Machine
end

