-- ==== Sys2Proof/Machine/RequestsPlan.lean ====
section
/-! DEFINITION. The plan requests that SL answers (chapter 6). -/

namespace Sys2Proof.Machine

/-- Replace the plan load. -/
def setLoad (l : Option PlanLoad) (s : State) : State := { s with sl := { s.sl with load := l } }

/-- The load timer of 30 s, started now (R104). -/
def State.loadTimer (s : State) : Timer := s.timer Config.loadTime

/-- A load that is LOADING has its timer restarted (R104). -/
def restartLoad (s : State) : State := setLoad (s.sl.load.map fun l => { l with timer := s.loadTimer }) s

/-! ### PLAN_OPEN (R105) -/

/-- PLAN_OPEN: band count u8 (R105). -/
def ownPlanOpen (r : Request) (s : State) : Answer :=
  let n := byteAt r.body 0
  if n = 0 ∨ Config.planSize < n then refuse .badValue (restartLoad s)
  else
    let s := if s.sl.load.isSome then s.count 4 else s
    done (setLoad (some ⟨n, [], s.loadTimer⟩) s)

/-- PLAN_OPEN (R105). -/
def execPlanOpen (now : RunTime) (s : State) : Host.Outcome State Fault Refusal :=
  .next (takeRequest 0x0E 1 now ownPlanOpen s)

/-! ### PLAN_BAND (R106, R107) -/

/-- The band of a PLAN_BAND body with this kind, fields as sent (section 1.12). -/
def sentBand (kind : BandKind) (body : List Byte) : Band where
  index := byteAt body 0
  kind := kind
  top := signedAt body 2 4
  bottom := signedAt body 6 4
  tX := signedAt body 10 4
  tY := signedAt body 14 4
  dbX := unsignedAt body 18 4
  dbY := unsignedAt body 22 4
  dbTwist := unsignedAt body 26 2
  gainY := unsignedAt body 28 2
  gainX := unsignedAt body 30 2
  gainW := unsignedAt body 32 2
  endThr := unsignedAt body 34 4
  twistGain := unsignedAt body 38 2
  lookahead := unsignedAt body 40 2

/-- A band with its numeric fields clamped to the ranges of R98 (R107). -/
def Band.clamped (b : Band) : Band :=
  { b with
    top := clamp (-5000) 300001 b.top
    bottom := clamp (-5000) 300001 b.bottom
    tX := clamp (-2000000) 2000000 b.tX
    tY := clamp (-2000000) 2000000 b.tY
    dbX := clamp 0 500000 b.dbX
    dbY := clamp 0 500000 b.dbY
    dbTwist := clamp 0 3000 b.dbTwist
    gainY := clamp 0 1000 b.gainY
    gainX := clamp 0 1000 b.gainX
    gainW := clamp 0 100 b.gainW
    endThr := clamp 0 2000000 b.endThr
    twistGain := clamp 0 500 b.twistGain
    lookahead := clamp 0 5000 b.lookahead }

/-- The order tests of R106, steps 6 and 7, on the clamped band. -/
def Band.orderAllowed (b : Band) (staged : List Band) : Bool :=
  b.top < b.bottom &&
    match staged.getLast? with
    | some last => last.bottom ≤ b.top
    | none => true

/-- PLAN_BAND against a load in LOADING, whose timer has been restarted: steps 2 to 7 of R106. -/
def bandTests (l : PlanLoad) (body : List Byte) (s : State) : Answer :=
  if l.staged.length = l.declared then refuse .badValue s
  else if byteAt body 0 ≠ l.staged.length then refuse .badValue s
  else
    match bandKindOf (byteAt body 1) with
    | none => refuse .badValue s
    | some k =>
      let sent := sentBand k body
      let b := sent.clamped
      if b.orderAllowed l.staged then
        doneStored (b != sent) [] (setLoad (some { l with staged := l.staged ++ [b] }) s)
      else refuse .badValue s

/-- PLAN_BAND: one plan band (R106). -/
def ownPlanBand (r : Request) (s : State) : Answer :=
  match s.sl.load with
  | none => refuse .wrongState s
  | some l => bandTests { l with timer := s.loadTimer } r.body (restartLoad s)

/-- PLAN_BAND (R106). -/
def execPlanBand (now : RunTime) (s : State) : Host.Outcome State Fault Refusal :=
  .next (takeRequest 0x0F 42 now ownPlanBand s)

/-! ### PLAN_CLOSE (R108 to R112) -/

/-- PLAN_CLOSE (R108, R111, R112). -/
def ownPlanClose (_ : Request) (s : State) : Answer :=
  match s.sl.load with
  | none => refuse .wrongState s
  | some l =>
    if l.staged.length = l.declared then
      let version := s.sl.version + 1
      doneWith (encodeBits 2 version) { s with sl := { s.sl with plan := l.staged, version := version, load := none } }
    else refuse .planAborted ((setLoad none s).count 4)

/-- PLAN_CLOSE (R108). -/
def execPlanClose (now : RunTime) (s : State) : Host.Outcome State Fault Refusal :=
  .next (takeRequest 0x10 0 now ownPlanClose s)

/-! ### PLAN_GET (R12, R115) -/

/-- PLAN_GET starts the stream of the active plan (R12, R115). -/
def ownPlanGet (r : Request) (s : State) : Answer :=
  noReply (streamPart
    { kind := r.kind, tag := r.tag, result := .done, source := .plan 0, next := 0, phase := .left } s)

/-- PLAN_GET (R115). -/
def execPlanGet (now : RunTime) (s : State) : Host.Outcome State Fault Refusal :=
  .next (takeRequest 0x11 0 now ownPlanGet s)

end Sys2Proof.Machine
end

