-- ==== Sys2Proof/Machine/RequestsTrip.lean ====
section
/-! DEFINITION. The trip requests that TU answers (chapter 12). -/

namespace Sys2Proof.Machine

/-- TRIP_GET (R209). -/
def ownTripGet (_ : Request) (s : State) : Answer := doneWith s.tripData s

/-- TRIP_GET (R209). -/
def execTripGet (now : RunTime) (s : State) : Host.Outcome State Fault Refusal :=
  .next (takeRequest 0x17 0 now ownTripGet s)

/-- TRIP_CLEAR by the state of the source (R206). -/
def tripClear (i : Source) (s : State) : Answer :=
  match s.source i with
  | .latched => done (setSource i .clear s)
  | .active => refuse .wrongState s
  | .clear => done s

/-- TRIP_CLEAR: source u8 (R6, R206). -/
def ownTripClear (r : Request) (s : State) : Answer :=
  match sourceOf (byteAt r.body 0) with
  | none => refuse .badValue s
  | some i => tripClear i s

/-- TRIP_CLEAR (R206). -/
def execTripClear (now : RunTime) (s : State) : Host.Outcome State Fault Refusal :=
  .next (takeRequest 0x18 1 now ownTripClear s)

/-- TRIP_FORCE with a new or a repeated value of the OPERATOR switch (R207). -/
def tripForce (on : Bool) (s : State) : State :=
  if s.tu.operatorOn = on then s
  else condition Source.operator on { s with tu := { s.tu with operatorOn := on } }

/-- TRIP_FORCE: switch u8 (R6, R207). -/
def ownTripForce (r : Request) (s : State) : Answer :=
  match switchOf (byteAt r.body 0) with
  | none => refuse .badValue s
  | some on => done (tripForce on s)

/-- TRIP_FORCE (R207). -/
def execTripForce (now : RunTime) (s : State) : Host.Outcome State Fault Refusal :=
  .next (takeRequest 0x19 1 now ownTripForce s)

/-- The tests of TRIP_MAP_SET in the order of R208, and its effect; TU recomputes the groups at each change of the map
(R204). -/
def tripMapSet (i : Source) (set : Nat) (s : State) : Answer :=
  if i = Source.emergency then refuse .badValue s
  else if s.source i ≠ .clear then refuse .wrongState s
  else done (recomputeGroups { s with tu := { s.tu with sets := s.tu.sets.set i.val (BitVec.ofNat 5 set) i.isLt } })

/-- TRIP_MAP_SET: source u8, group set u8 with bits 0..4 only (R6, R208). -/
def ownTripMapSet (r : Request) (s : State) : Answer :=
  match sourceOf (byteAt r.body 0) with
  | none => refuse .badValue s
  | some i => if byteAt r.body 1 < 32 then tripMapSet i (byteAt r.body 1) s else refuse .badValue s

/-- TRIP_MAP_SET (R208). -/
def execTripMapSet (now : RunTime) (s : State) : Host.Outcome State Fault Refusal :=
  .next (takeRequest 0x1A 2 now ownTripMapSet s)

end Sys2Proof.Machine
end

