-- ==== Sys2Proof/Machine/Dispatch.lean ====
section
/-! DEFINITION. One arm per command, each a direct call of its meaning. -/

namespace Sys2Proof.Machine

/-- The effect of a command on everything but the queue (one arm per row of spec/opcode_table.json). -/
def exec (i : Instr) (s : State) : Host.Outcome State Fault Refusal :=
  match i with
  | .powerOn emergency gear oil => Sys2Proof.Machine.execPowerOn emergency gear oil s
  | .moduleRestart => Sys2Proof.Machine.execModuleRestart s
  | .frameReceived bytes now => Sys2Proof.Machine.execFrameReceived bytes now s
  | .frameBadLength length now => Sys2Proof.Machine.execFrameBadLength length now s
  | .badCharacter now => Sys2Proof.Machine.execBadCharacter now s
  | .gapTimerExpiry now => Sys2Proof.Machine.execGapTimerExpiry now s
  | .linkSilenceExpiry now => Sys2Proof.Machine.execLinkSilenceExpiry now s
  | .transmitFrameStart now => Sys2Proof.Machine.execTransmitFrameStart now s
  | .transmitComplete now => Sys2Proof.Machine.execTransmitComplete now s
  | .replySlotGranted now => Sys2Proof.Machine.execReplySlotGranted now s
  | .streamNextPart now => Sys2Proof.Machine.execStreamNextPart now s
  | .requestUnknownKind now => Sys2Proof.Machine.execRequestUnknownKind now s
  | .statusGet now => Sys2Proof.Machine.execStatusGet now s
  | .paramSet now => Sys2Proof.Machine.execParamSet now s
  | .paramGet now => Sys2Proof.Machine.execParamGet now s
  | .modeSet now => Sys2Proof.Machine.execModeSet now s
  | .panelOpen now => Sys2Proof.Machine.execPanelOpen now s
  | .panelClose now => Sys2Proof.Machine.execPanelClose now s
  | .depthZero now => Sys2Proof.Machine.execDepthZero now s
  | .wheelSet now => Sys2Proof.Machine.execWheelSet now s
  | .wheelClear now => Sys2Proof.Machine.execWheelClear now s
  | .pumpSet now => Sys2Proof.Machine.execPumpSet now s
  | .backflush now => Sys2Proof.Machine.execBackflush now s
  | .plateMove now => Sys2Proof.Machine.execPlateMove now s
  | .plateClear now => Sys2Proof.Machine.execPlateClear now s
  | .planOpen now => Sys2Proof.Machine.execPlanOpen now s
  | .planBand now => Sys2Proof.Machine.execPlanBand now s
  | .planClose now => Sys2Proof.Machine.execPlanClose now s
  | .planGet now => Sys2Proof.Machine.execPlanGet now s
  | .logRead now => Sys2Proof.Machine.execLogRead now s
  | .transitGet now => Sys2Proof.Machine.execTransitGet now s
  | .await now => Sys2Proof.Machine.execAwait now s
  | .awaitCancel now => Sys2Proof.Machine.execAwaitCancel now s
  | .countersRead now => Sys2Proof.Machine.execCountersRead now s
  | .tripGet now => Sys2Proof.Machine.execTripGet now s
  | .tripClear now => Sys2Proof.Machine.execTripClear now s
  | .tripForce now => Sys2Proof.Machine.execTripForce now s
  | .tripMapSet now => Sys2Proof.Machine.execTripMapSet now s
  | .restart now => Sys2Proof.Machine.execRestart now s
  | .waitDeadlineExpiry tag now => Sys2Proof.Machine.execWaitDeadlineExpiry tag now s
  | .sampleArrival channel value now => Sys2Proof.Machine.execSampleArrival channel value now s
  | .startWindowExpiry now => Sys2Proof.Machine.execStartWindowExpiry now s
  | .windowEnd now => Sys2Proof.Machine.execWindowEnd now s
  | .discreteInputChange input level now => Sys2Proof.Machine.execDiscreteInputChange input level now s
  | .filterTimerExpiry input now => Sys2Proof.Machine.execFilterTimerExpiry input now s
  | .disagreementTimerExpiry axis now => Sys2Proof.Machine.execDisagreementTimerExpiry axis now s
  | .plateMoveDeadline now => Sys2Proof.Machine.execPlateMoveDeadline now s
  | .stallTimerExpiry wheel now => Sys2Proof.Machine.execStallTimerExpiry wheel now s
  | .stallPauseEnd wheel now => Sys2Proof.Machine.execStallPauseEnd wheel now s
  | .reverseTimeExpiry wheel now => Sys2Proof.Machine.execReverseTimeExpiry wheel now s
  | .blockageTimerExpiry now => Sys2Proof.Machine.execBlockageTimerExpiry now s
  | .backflushEnd now => Sys2Proof.Machine.execBackflushEnd now s
  | .loadTimerExpiry now => Sys2Proof.Machine.execLoadTimerExpiry now s
  | .frameLeadByte now => Sys2Proof.Machine.execFrameLeadByte now s

end Sys2Proof.Machine
end

