-- ==== Sys2Proof/Safety.lean ====
section
/-! DEFINITION. The terms in which claims are stated: what stands outside LI (`State.blocks`), what the taking and the
answer of a request are, and the properties that every event keeps, each with the rule that gives it. -/

namespace Sys2Proof.Machine

/-! ### What an event may change -/

/-- The blocks outside LI, with the tables they share. -/
structure Blocks where
  params : Vector Int 49
  counters : Vector Nat 17
  mp : ModePanel
  fc : FieldChannels
  di : Integrator
  sl : Steering
  pm : Manifold
  wd : WheelDrives
  sr : Slurry
  tu : TripUnit
  deriving DecidableEq, Repr

/-- A wheel without the value last sent. -/
def Wheel.unsent (v : Wheel) : Wheel := { v with sentSpeed := 0 }

/-- WD without the values last sent. -/
def WheelDrives.unsent (d : WheelDrives) : WheelDrives := { d with wheels := ⟨d.wheels.a.unsent, d.wheels.b.unsent⟩ }

/-- PM without the record last sent. -/
def Manifold.unsent (m : Manifold) : Manifold := { m with sentRecord := ⟨none, .neutral⟩ }

/-- SR without the values last sent. -/
def Slurry.unsent (r : Slurry) : Slurry := { r with sentCommand := 0, sentPermit := false, sentLimit := 0 }

/-- Everything outside LI but the copies of the values last sent, which `State.Settled` gives. A statement that equates
the blocks before and after an event is that event's frame. -/
def State.blocks (s : State) : Blocks :=
  ⟨s.params, s.counters, s.mp, s.fc, s.di, s.sl, s.pm.unsent, s.wd.unsent, s.sr.unsent, s.tu⟩

/-- Each value last sent on the field line is the value that stands (R135, R155, R172, R177). -/
def State.Settled (s : State) : Prop :=
  (∀ w : WheelId, (s.wheel w).sentSpeed = (s.wheel w).commanded) ∧ s.pm.sentRecord = s.manifoldRecord ∧
    s.sr.sentCommand = s.sr.command ∧ s.sr.sentPermit = s.sr.feedPermit ∧ s.sr.sentLimit = s.sr.feedLimit

/-- The entries of the wait table in state WAITING. -/
def State.waiting (s : State) : List WaitEntry := s.li.waits.filter fun e => e.state == .waiting

/-- The parts of LI that only the line itself and its timers change: receiver, refusal slot, line, link-silence timer. -/
def State.sameLine (s t : State) : Prop :=
  t.li.receiver = s.li.receiver ∧ t.li.gapTimer = s.li.gapTimer ∧ t.li.refusal = s.li.refusal ∧
    t.li.line = s.li.line ∧ t.li.linkTimer = s.li.linkTimer

/-- The handler can take `r`, a request of this kind and body length, as the oldest of its queue (R5, R8). -/
def State.Takes (s : State) (kind length : Nat) (r : Request) (rest : List Request) : Prop :=
  s.li.handler = .idle ∧ s.li.requestQueue = r :: rest ∧ r.kind.toNat = kind ∧ r.body.length = length

/-- The state in which the owner of a request acts: the event has begun and the request has left its queue (R8). -/
def State.taken (s : State) (now : RunTime) (rest : List Request) : State :=
  (s.begin now).putLi { s.li with requestQueue := rest }

/-- The reply to `r` with result `res` and data `data` has been placed as the newest of the reply queue, or waits in the
handler while the queue is full (R4, R8). -/
def State.Answered (t : State) (r : Request) (res : Result) (data : List Byte) : Prop :=
  let p := singlePart r.kind r.tag ⟨res, data⟩
  (t.li.handler = .idle ∧ t.li.replyQueue.getLast? = some p) ∨
    (t.li.handler = .placing p ∧ Config.replyQueueSize ≤ t.li.replyQueue.length)

/-- `t` is `s` after the request at the front of the queue has been taken at run time `now` and answered: of LI, the
receiver, the line and its timers are as they were, and parts have only been added to the reply queue. -/
def State.Replied (s t : State) (now : RunTime) (r : Request) (rest : List Request) (res : Result)
    (data : List Byte) : Prop :=
  t.runTime = now ∧ t.pending = s.pending ∧ t.li.requestQueue = rest ∧ s.sameLine t ∧
    s.li.replyQueue <+: t.li.replyQueue ∧ t.Answered r res data

/-- As `State.Replied`, for a request that reports nothing to the wait table: every WAITING entry waits on. -/
def State.RepliedOnly (s t : State) (now : RunTime) (r : Request) (rest : List Request) (res : Result)
    (data : List Byte) : Prop :=
  s.Replied t now r rest res data ∧ t.waiting = s.waiting ∧ t.li.nextSeq = s.li.nextSeq

/-- `t` is `s` after an event at run time `now` that changes LI alone, to `li`. -/
def State.LineBecomes (s t : State) (now : RunTime) (li : LineInterface) : Prop :=
  t.runTime = now ∧ t.pending = s.pending ∧ t.blocks = s.blocks ∧ t.li = li

/-- `t` is `s` after an event at run time `now` that leaves LI as it was, and the blocks outside it as in `u`. -/
def State.BlocksBecome (s t : State) (now : RunTime) (u : State) : Prop :=
  t.runTime = now ∧ t.pending = s.pending ∧ t.blocks = u.blocks ∧ t.li = s.li

/-- No claimant waits for a free slot of the reply queue (R9). -/
def State.Granted (s : State) : Prop :=
  s.li.replyQueue.length < Config.replyQueueSize →
    (∀ e ∈ s.li.waits, e.state = .waiting) ∧ s.li.handler.claim = none

/-- LI has taken the reports of the event from `s` to `t`, PM's own (R143) with them: the wait table is the one that they
leave, and the replies that they place come first among those of the event (R9, R14, R16). It is stated of events that
make no plate request, in which PM is not idle at some moment exactly if it is not idle at the start. -/
def State.Reported (s t : State) (reports : List Report) : Prop :=
  s.Granted → s.li.waits.length ≤ Config.waitTableSize →
    let busy := s.pm.move ≠ none ∨ ∃ p : Plate, s.pm.table.get p ≠ none
    let u := takeReports { t with li := s.li, reports := reports, plateBusy := decide busy }
    t.li.waits = u.li.waits ∧ u.li.replyQueue <+: t.li.replyQueue

/-- MP has tested the HOLD causes that stand in `t` (R34): AUTO with a cause has become HOLD, counted in counter 17, HOLD
without one AUTO; any other mode stays, but for the end of START at an arrival (R29). -/
def State.HoldTested (s t : State) : Prop :=
  let free := t.mp.holdCauses = ⟨false, false, false⟩
  (s.mp.mode = .auto → ¬free → t.mp.mode = .hold ∧ t.counter 17 = min (s.counter 17 + 1) 65535) ∧
    (s.mp.mode = .hold → free → t.mp.mode = .auto ∧ t.counter 17 = s.counter 17) ∧
    (¬(s.mp.mode = .auto ∧ ¬free) → ¬(s.mp.mode = .hold ∧ free) → t.counter 17 = s.counter 17 ∧
      (t.mp.mode = s.mp.mode ∨ s.mp.mode = .start ∧ t.mp.mode = .standby))

/-- The handler's part `p` has been placed in a free slot, which leaves the handler in state `placed`; while the reply
queue is full the part is claimed for in state `claiming` (R8, R9, R10). -/
def State.Claimed (s t : State) (p : ReplyPart) (placed claiming : Handler) : Prop :=
  if s.li.replyQueue.length < Config.replyQueueSize then
    t.li.replyQueue = s.li.replyQueue ++ [p] ∧ t.li.handler = placed
  else t.li.replyQueue = s.li.replyQueue ∧ t.li.handler = claiming

/-- The kinds of section 1.12 with the command that takes each and the length of its body. -/
def requestRows : List ((RunTime → Instr) × Nat × Nat) :=
  [(.statusGet, 0x01, 0), (.paramSet, 0x02, 6), (.paramGet, 0x03, 2), (.modeSet, 0x04, 1), (.panelOpen, 0x05, 8),
   (.panelClose, 0x06, 0), (.depthZero, 0x07, 12), (.wheelSet, 0x08, 4), (.wheelClear, 0x09, 1), (.pumpSet, 0x0A, 2),
   (.backflush, 0x0B, 0), (.plateMove, 0x0C, 2), (.plateClear, 0x0D, 1), (.planOpen, 0x0E, 1), (.planBand, 0x0F, 42),
   (.planClose, 0x10, 0), (.planGet, 0x11, 0), (.logRead, 0x12, 4), (.transitGet, 0x13, 0), (.await, 0x14, 7),
   (.awaitCancel, 0x15, 1), (.countersRead, 0x16, 0), (.tripGet, 0x17, 0), (.tripClear, 0x18, 1),
   (.tripForce, 0x19, 1), (.tripMapSet, 0x1A, 2), (.restart, 0x1B, 1)]

/-- The bytes of a reply's data at an offset. -/
def field (data : List Byte) (off n : Nat) : List Byte := (data.drop off).take n

/-! ### What every event keeps -/

/-- A parameter's value lies within its range, and the hard density limit is at least the soft one (R20, R179). -/
def State.ParamsInRange (s : State) : Prop :=
  (∀ p : ParamId, p.lo ≤ s.par p ∧ s.par p ≤ p.hi) ∧ s.par .softLimit ≤ s.par .hardLimit

/-- A counter stays at 65,535 (R23). -/
def State.CountersBounded (s : State) : Prop := ∀ i : Fin 17, s.counters.get i ≤ Config.counterCap

/-- The queues of LI hold no more than their places (R3, R7, R13). -/
def State.QueuesBounded (s : State) : Prop :=
  s.li.requestQueue.length ≤ Config.requestQueueSize ∧ s.li.replyQueue.length ≤ Config.replyQueueSize ∧
    s.li.waits.length ≤ Config.waitTableSize

/-- The wait table keeps its tags distinct (R4, R13). -/
def State.TagsDistinct (s : State) : Prop := (s.li.waits.map WaitEntry.tag).Nodup

/-- A group is tripped exactly when some source mapped to it is ACTIVE or LATCHED, and EMERGENCY is mapped to every group
(R204). -/
def State.GroupsFollow (s : State) : Prop :=
  (∀ g : Group, s.tripped g = true ↔
    ∃ i : Source, s.source i ≠ .clear ∧ (s.tu.sets.get i).getLsbD g.bit = true) ∧
  s.tu.sets.get Source.emergency = 0x1F

/-- The condition of a trip source, as its owner holds it (the table of R202). -/
def State.conditionOf (s : State) (i : Source) : Bool :=
  if i = Source.inclLimit then s.fc.inclLimit
  else if i = Source.inclDisagree then s.fc.inclDisagree
  else if i = Source.twistLimit then s.fc.twistLimit
  else if i = Source.sensorStale then s.fc.sensorStale
  else if i = Source.wheelALockout then (s.wheel .a).state == .lockedOut
  else if i = Source.wheelBLockout then (s.wheel .b).state == .lockedOut
  else if i = Source.gearPressure then s.fc.gearPressLow.filtered == activeLevel .gearPressLow
  else if i = Source.oilTemp then s.fc.oilHot.filtered == activeLevel .oilHot
  else if i = Source.returnBlocked then s.sr.returnBlocked
  else if i = Source.returnHeavy then s.sr.returnHeavy
  else if i = Source.linkSilent then s.li.linkTimer.isNone
  else if i = Source.operator then s.tu.operatorOn
  else s.fc.emergencyIn.filtered == activeLevel .emergencyIn

/-- A source is ACTIVE exactly while its condition is present (R202). -/
def State.SourcesFollow (s : State) : Prop := ∀ i : Source, s.source i = .active ↔ s.conditionOf i = true

/-- SENSOR_STALE is present exactly while a channel is STALE, or ABSENT after START (R51). -/
def State.SensorStaleFollows (s : State) : Prop :=
  s.fc.sensorStale = true ↔ ∃ c, (s.chan c).state = .stale ∨ s.fc.startOver = true ∧ (s.chan c).state = .absent

/-- The facts on which the feed permit rests: mode, wheels, FEED group, backflush (R178). -/
def State.PermitFollows (s : State) : Prop := s.sr.feedPermit = s.permitNow

/-- The feed limit is the one that its inputs give (R177). -/
def State.LimitFollows (s : State) : Prop := s.sr.feedLimit = s.feedLimitNow

/-- SR holds DI's feed rate (R75), and outside START the required flow is base flow + floor(area x feed x carry /
1,000,000), clamped to 0..maximum flow, with the feed counted in AUTO alone (R173). -/
def State.RequiredFollows (s : State) : Prop :=
  s.sr.feedCopy = s.di.feedRate ∧
    (s.mp.mode ≠ .start →
      let flow := s.par .baseFlow +
        s.mp.cutArea * (if s.mp.mode = .auto then s.di.feedRate else 0) * s.par .carry / 1000000
      let most := s.par .pumpMaxRpm * s.par .displacement / 1000
      s.sr.required = if flow < 0 then 0 else if most < flow then most else flow)

/-- The pump state is the one of R172, the trim is 0 outside AUTO, the command of every state but BACKFLUSH is the one of
R174, and a backflush runs only in MANUAL, AUTO and HOLD with the PUMP group untripped (R181, R183, R185). -/
def State.PumpFollows (s : State) : Prop :=
  s.sr.pumpState = s.pumpStateNow ∧ (s.mp.mode ≠ .auto → s.sr.trim = 0) ∧ -100 ≤ s.sr.trim ∧ s.sr.trim ≤ 100 ∧
    (s.sr.pumpState = .off ∨ s.sr.pumpState = .tripped → s.sr.command = 0) ∧
    (s.sr.pumpState = .idle ∨ s.sr.pumpState = .manual → s.sr.command = s.pumpFor s.flowBasis 0) ∧
    (s.sr.pumpState = .balance → s.sr.command = s.pumpFor s.flowBasis s.sr.trim) ∧
    (s.sr.backflushTimer ≠ none →
      (s.mp.mode = .manual ∨ s.mp.mode = .auto ∨ s.mp.mode = .hold) ∧ s.tripped .pump = false)

/-- A wheel's speeds lie within the maximum (R154). -/
def State.WheelInRange (s : State) (w : WheelId) : Prop :=
  let v := s.wheel w
  let top := s.par .maxWheelSpeed
  0 ≤ v.base ∧ v.base ≤ top ∧ -top ≤ v.target ∧ v.target ≤ top ∧ -top ≤ v.commanded ∧ v.commanded ≤ top ∧
    0 ≤ v.carry ∧ v.carry ≤ 999

/-- The state of a wheel fixes its target, timers and base speed (R159, R162, R163, R164, R166, R169). -/
def Wheel.Coherent (v : Wheel) : Prop :=
  (v.state = .stopped ∨ v.state = .stopping ∨ v.state = .stalled ∨ v.state = .lockedOut → v.target = 0) ∧
    (v.state = .stopped ∨ v.state = .stalled ∨ v.state = .lockedOut → v.commanded = 0) ∧
    (v.state = .stalled ∨ v.state = .reversing ↔ v.stateTimer.isSome = true) ∧
    (v.stallTimer.isSome = true → v.state = .ramping ∨ v.state = .running ∨ v.state = .reversing) ∧
    v.history.length ≤ 3

/-- The applied differential is 0 unless both wheels are RUNNING and the mode is AUTO, lies within the limit, and is
SL's demand when it is not 0 (R158). -/
def State.DifferentialFollows (s : State) : Prop :=
  (s.wd.applied ≠ 0 → s.mp.mode = .auto ∧ (s.wheel .a).state = .running ∧ (s.wheel .b).state = .running) ∧
    -(s.par .diffMax) ≤ s.wd.applied ∧ s.wd.applied ≤ s.par .diffMax ∧
    (s.wd.applied = 0 ∨ s.wd.applied = s.sl.diffDemand)

/-- START holds the outputs off (R28): wheels STOPPED at speed 0, pump 0, permit off, feed limit 0, no plate move. -/
def State.StartHoldsOff (s : State) : Prop :=
  s.mp.mode = .start →
    (∀ w : WheelId, (s.wheel w).state = .stopped ∧ (s.wheel w).commanded = 0) ∧ s.sr.command = 0 ∧
      s.sr.feedPermit = false ∧ s.sr.feedLimit = 0 ∧ s.pm.move = none

/-- Cutting needs an OPEN panel and a CLEAR emergency source, and the HOLD causes tell AUTO from HOLD (R31 to R34, R37,
R42). -/
def State.ModeAllowed (s : State) : Prop :=
  (s.mp.mode = .manual ∨ s.mp.mode = .auto ∨ s.mp.mode = .hold →
    s.mp.panel = .opened ∧ s.source Source.emergency = .clear) ∧
  (s.mp.mode = .auto → s.mp.holdCauses.present = false) ∧ (s.mp.mode = .hold → s.mp.holdCauses.present = true)

/-- What an arrival that turns an ABSENT channel FRESH, or may end START, needs of the state to trip no group and to
change the mode in no other way (R29, R34, R48, R51). Every event keeps each part of it. -/
def State.ArrivalQuiet (s : State) : Prop := s.GroupsFollow ∧ s.SensorStaleFollows ∧ s.ModeAllowed

/-- The HOLD causes follow the link, the DEPTH channel and the slopes (R33). -/
def State.CausesFollow (s : State) : Prop :=
  s.mp.holdCauses.link = s.li.linkTimer.isNone ∧ s.mp.holdCauses.depth = !s.fresh .depth ∧
    s.mp.holdCauses.slope = (s.fc.slopes.x.case == .none || s.fc.slopes.y.case == .none) ∧
    (∀ a : Axis, (s.fc.slopes.get a).case = s.slopeCase a)

/-- PM's table, arbiter and move (R133, R134, R140). -/
def State.ManifoldCoherent (s : State) : Prop :=
  (s.pm.arbiter = .moving ↔ s.pm.move.isSome = true) ∧ (s.pm.arbiter = .halted ↔ s.tripped .plates = true) ∧
    (s.pm.move = none → ∀ p : Plate, s.pm.table.get p = none) ∧
    (∀ m, s.pm.move = some m → s.pm.table.get m.plate = none ∧ s.pm.targets.get m.plate = m.target) ∧
    (∀ p : Plate, s.pm.targets.get p ≤ 100) ∧
    (∀ p : Plate, ∀ e, s.pm.table.get p = some e → e.target ≤ 100 ∧ s.pm.faulty.get p = false) ∧
    (∀ p : Plate, s.pm.urgentSnap.get p = true → ∃ e, s.pm.table.get p = some e ∧ e.cls = .urgent) ∧
    (∀ p : Plate, s.pm.trimSnap.get p = true → ∃ e, s.pm.table.get p = some e ∧ e.cls = .trim) ∧
    (s.pm.move = none → s.pm.nextPhase = .urgent) ∧ (s.mp.mode = .start ∨ s.mp.mode = .standby → s.pm.move = none)

/-- The offset, residue and slope of an axis lie in their ranges (R65, R69, R76). -/
def AxisPath.InRange (p : AxisPath) : Prop :=
  -Config.offsetLimit ≤ p.offset ∧ p.offset ≤ Config.offsetLimit ∧ 0 ≤ p.residue ∧ p.residue ≤ 99

/-- The path lies in its ranges (R65). -/
def State.PathInRange (s : State) : Prop := s.di.path.x.InRange ∧ s.di.path.y.InRange

/-- A depth within the accepted range (R62). -/
def depthAllowed (d : Int) : Prop := Config.depthMin ≤ d ∧ d ≤ Config.depthMax

/-- The integrated depth and FC's last accepted depth lie in the accepted range (R62, R65), and a sample accepted since
power-on or restart leaves FC with a last accepted depth (R40, R62). -/
def State.DepthInRange (s : State) : Prop :=
  depthAllowed s.di.depth ∧ (∀ d, s.fc.lastAccepted = some d → depthAllowed d) ∧
    (s.fc.accepted = true → s.fc.lastAccepted ≠ none)

/-- The open station is the one that contains the integrated depth while the panel is OPEN, and there is none otherwise
(R65); the interval lies in its range (R39); SR's copy holds its station and pass and the integrated depth (R190). -/
def State.StationFollows (s : State) : Prop :=
  s.di.openRecord.map OpenRecord.station =
      (if s.mp.panel = .opened then stationAt s.di.depth s.mp.interval else none) ∧
    s.sr.cutter = (s.di.openRecord.map fun r => ⟨r.station, r.pass, s.di.depth⟩) ∧
    100 ≤ s.mp.interval ∧ s.mp.interval ≤ 2000

/-- The log keeps its form, is empty until the closure mark is set, and the open record's pass is the one that the log
gives (R72, R81, R89). -/
def State.LogKept (s : State) : Prop :=
  Log.wf s.di.log = true ∧ (s.di.closure = false → s.di.log = []) ∧
    ∀ r, s.di.openRecord = some r → r.pass = passFor s.di.log r.station

/-- A list of bands is a plan: at most 16, indices in order, each of positive extent, sorted and not overlapping (R99). -/
def planWf (plan : List Band) : Prop :=
  plan.length ≤ Config.planSize ∧ plan.map Band.index = List.range plan.length ∧ (∀ b ∈ plan, b.top < b.bottom) ∧
    plan.Pairwise fun b c => b.bottom ≤ c.top

/-- The active plan and the staging list are plans, and the staging list is no longer than declared (R99, section 6.4). -/
def State.PlansWf (s : State) : Prop :=
  planWf s.sl.plan ∧ ∀ l, s.sl.load = some l →
    planWf l.staged ∧ l.staged.length ≤ l.declared ∧ 1 ≤ l.declared ∧ l.declared ≤ Config.planSize

/-- The transit line holds at most 64 parcels, and only its head may be AT_METER (R189); the flow residue lies in
0..59,999 (R188). -/
def State.LineWf (s : State) : Prop :=
  s.sr.line.length ≤ Config.lineSize ∧ (∀ p ∈ s.sr.line.tail, p.atMeter = false) ∧
    (∀ p ∈ s.sr.line, p.vArrive = p.vIn + BitVec.ofNat 32 p.vline ∧ p.densityCount ≤ Config.densityCap) ∧
    0 ≤ s.sr.flowResidue ∧ s.sr.flowResidue ≤ 59999

/-- The parcels stand in strictly increasing V_in, and V_pump lies beyond the youngest, each taken against the head's V_in
as a difference modulo 2^32 (R188, R189). -/
def State.LineOrdered (s : State) : Prop :=
  ∀ head, s.sr.line.head? = some head →
    (s.sr.line.Pairwise fun p q => (p.vIn - head.vIn).toNat < (q.vIn - head.vIn).toNat) ∧
      ∀ p ∈ s.sr.line, (p.vIn - head.vIn).toNat < (s.sr.vPump - head.vIn).toNat

end Sys2Proof.Machine
end

