-- ==== Sys2Proof/WellFormed.lean ====
section
/-! DEFINITION. Which commands are the events their rows describe. `exec` is total and takes ill-formed commands too
(log entry 5); a sender that keeps to the table sends well-formed ones. -/

namespace Sys2Proof

/-- A command carries the operands its row speaks of: FRAME_RECEIVED at least one byte and at most the 254 bytes of
the longest frame (section 1.1), FRAME_BAD_LENGTH a length byte outside 2..250 (R2). -/
def Instr.wellFormed : Instr → Bool
  | .frameReceived bytes _ => !bytes.isEmpty && bytes.length ≤ 254
  | .frameBadLength len _ => len.toNat < 2 || 250 < len.toNat
  | _ => true

end Sys2Proof
end

