-- ==== Sys2Proof/Certificates/Slice0/Obligations.lean ====
section
/-! DEFINITION. The statements for the provers, chapter by chapter of the manual. A statement with basis "stated" in
OBLIGATIONS.json formalises the rule that it cites; the others rest on several rules, or on a choice of the model that
their docstring names. -/

open Sys2Proof Sys2Proof.Machine

/-- One step carries out the command at the front of the queue (00_scope.md, How behaviour is told). For every command
and state, a step takes the oldest waiting command and is exec of it on the state with the rest of the queue; an empty
queue idles (the model's choice, log entry 1). -/
def Obligations.StepTakesFront : Prop :=
  (∀ (c : Instr) (rest : List Instr) (s : State),
    step { s with pending := c :: rest } = exec c { s with pending := rest }) ∧
  ∀ s : State, s.pending = [] → step s = .next s

/-- The receiver assembles frames byte by byte (R1). In HUNT a byte other than 0xC3 changes nothing and 0xC3 starts a
frame; in COLLECT a byte, 0xC3 included, is added and restarts the gap timer, and the byte that brings the count to L
+ 4 ends the frame in HUNT with the gap timer stopped; power-on and restart leave HUNT with the gap timer stopped. -/
def Obligations.ReceiverAssembles : Prop :=
  ∀ (s : State) (now : RunTime) (b : Byte),
    (s.li.receiver = .hunt → b ≠ 0xC3 →
      ∃ t, exec (.frameReceived [b] now) s = .next t ∧ s.LineBecomes t now s.li) ∧
    (s.li.receiver = .hunt →
      ∃ t, exec (.frameLeadByte now) s = .next t ∧
        s.LineBecomes t now { s.li with receiver := .collect [0xC3], gapTimer := some ⟨now, 5⟩ }) ∧
    (∀ bytes, s.li.receiver = .collect bytes → ¬(bytes.length = 1 ∧ (b.toNat < 2 ∨ 250 < b.toNat)) →
      bytes.length + 1 ≠ byteAt (bytes ++ [b]) 1 + 4 →
      (∃ t, exec (.frameReceived [b] now) s = .next t ∧
        s.LineBecomes t now { s.li with receiver := .collect (bytes ++ [b]), gapTimer := some ⟨now, 5⟩ }) ∧
      (b = 0xC3 → exec (.frameLeadByte now) s = exec (.frameReceived [b] now) s)) ∧
    (∀ bytes, s.li.receiver = .collect bytes → bytes.length + 1 = byteAt (bytes ++ [b]) 1 + 4 →
      ∃ t, exec (.frameReceived [b] now) s = .next t ∧ t.li.receiver = .hunt ∧ t.li.gapTimer = none) ∧
    (∀ e g o, ∃ t, exec (.powerOn e g o) s = .next t ∧ t.li.receiver = .hunt ∧ t.li.gapTimer = none) ∧
    (∀ k, s.li.handler = .restarting k .left →
      ∃ t, exec .moduleRestart s = .next t ∧ t.li.receiver = .hunt ∧ t.li.gapTimer = none)

/-- A bad frame is discarded, counted and unanswered (R2). A gap of more than 5 ms in COLLECT, a length byte outside
2..250, a stop-bit error in COLLECT and a complete frame whose last two bytes are not the CRC-16 of R2, high byte
first, each leave LI in HUNT with the gap timer stopped and counter 1 increased, and change nothing else; a stop-bit
error in HUNT changes nothing. -/
def Obligations.BadFrameDiscarded : Prop :=
  ∀ (s : State) (now : RunTime),
    let discarded : State → Prop := fun t =>
      t.runTime = now ∧ t.pending = s.pending ∧ t.blocks = (s.count 1).blocks ∧
        t.li = { s.li with receiver := .hunt, gapTimer := none };
    (∀ bytes g, s.li.receiver = .collect bytes → s.li.gapTimer = some g → g.duration < now.since g.start →
      ∃ t, exec (.gapTimerExpiry now) s = .next t ∧ discarded t) ∧
    (∀ lead l, s.li.receiver = .collect [lead] → (Instr.frameBadLength l now).wellFormed = true →
      ∃ t, exec (.frameBadLength l now) s = .next t ∧ discarded t) ∧
    (∀ bytes, s.li.receiver = .collect bytes → ∃ t, exec (.badCharacter now) s = .next t ∧ discarded t) ∧
    (s.li.receiver = .hunt → ∃ t, exec (.badCharacter now) s = .next t ∧ s.LineBecomes t now s.li) ∧
    (∀ (kind tag : Byte) (body check : List Byte), s.li.receiver = .hunt → body.length ≤ 248 → check.length = 2 →
      let counted := BitVec.ofNat 8 (body.length + 2) :: kind :: tag :: body;
      check ≠ [(crc16 counted >>> 8).truncate 8, (crc16 counted).truncate 8] →
      ∃ t, exec (.frameReceived (0xC3 :: (counted ++ check)) now) s = .next t ∧ discarded t) ∧
    (∀ (c : BitVec 16) (b : Byte),
      crcByte c b = (List.range 8).foldl (fun d _ => if d.msb then (d <<< 1) ^^^ 0x1021 else d <<< 1)
        (c ^^^ (b.zeroExtend 16 <<< 8))) ∧
    (∀ bytes, crc16 bytes = bytes.foldl crcByte 0xFFFF)

/-- Every frame with a good check is received as the request that it carries, and admitted (R3). For every kind, tag
and body of at most 248 bytes, the frame of section 1.12 received in HUNT restarts the link-silence timer and is
appended to the request queue, or with 8 requests waiting answered BUSY in an empty refusal slot with counter 3
increased, or dropped with counter 2 increased; while the link was not silent nothing else changes. Power-on and
restart leave the queue and the slot empty. -/
def Obligations.RequestAdmitted : Prop :=
  (∀ (s : State) (now : RunTime) (kind tag : Byte) (body : List Byte), s.li.receiver = .hunt → body.length ≤ 248 →
    let busy := ReplyPart.mk (kind + 0x80) tag .busy 0 true [] .plain;
    let timer := some (Timer.mk now (s.par .linkSilenceTime).toNat);
    let u :=
      if s.li.requestQueue.length < 8 then
        s.putLi { s.li with requestQueue := s.li.requestQueue ++ [⟨kind, tag, body⟩] }
      else if s.li.refusal = none then (s.putLi { s.li with refusal := some busy }).count 3
      else s.count 2;
    ∃ t, exec (.frameReceived (frame kind tag body) now) s = .next t ∧
      t.li.receiver = .hunt ∧ t.li.gapTimer = none ∧ t.li.linkTimer = timer ∧
      t.li.requestQueue = u.li.requestQueue ∧ t.li.refusal = u.li.refusal ∧ t.counter 2 = u.counter 2 ∧
      t.counter 3 = u.counter 3 ∧
      (s.li.linkTimer ≠ none → t.runTime = now ∧ t.pending = s.pending ∧ t.blocks = u.blocks ∧
        t.li = { u.li with gapTimer := none, linkTimer := timer })) ∧
  (∀ (s : State) (e g o : Level), ∃ t, exec (.powerOn e g o) s = .next t ∧ t.li.requestQueue = [] ∧
    t.li.refusal = none) ∧
  ∀ (s : State) (k : Bool), s.li.handler = .restarting k .left → ∃ t, exec .moduleRestart s = .next t ∧
    t.li.requestQueue = [] ∧ t.li.refusal = none

/-- The link falls silent and is heard again (R14, R19, R33, R34, R203). The expiry of a running link-silence timer
leaves it EXPIRED, makes LINK_SILENT active, sets the LINK cause and turns AUTO into HOLD with counter 17 increased; a
good frame while it is EXPIRED restarts it, turns an active LINK_SILENT latched, removes the LINK cause and turns HOLD
into AUTO if no cause is left. TRIP waits are told of the source and MODE waits of the new mode. Before its deadline
the timer does not expire. -/
def Obligations.LinkSilence : Prop :=
  ∀ (s : State) (now : RunTime),
    (∀ g, s.li.linkTimer = some g → g.duration ≤ now.since g.start →
      ∃ t, exec (.linkSilenceExpiry now) s = .next t ∧ t.runTime = now ∧ t.pending = s.pending ∧
        t.li.linkTimer = none ∧ t.source Source.linkSilent = .active ∧
        t.mp.holdCauses = { s.mp.holdCauses with link := true } ∧
        t.mp.mode = (if s.mp.mode = .auto then .hold else s.mp.mode) ∧
        (s.mp.mode = .auto → t.counter 17 = min (s.counter 17 + 1) 65535) ∧
        s.Reported t ((if s.source Source.linkSilent = .active then [] else [.trip Source.linkSilent]) ++
          if s.mp.mode = .auto then [.mode .hold] else []) ∧
        (∀ i, i ≠ Source.linkSilent → t.source i = s.source i) ∧ t.fc = s.fc ∧ t.di = s.di ∧ t.params = s.params) ∧
    (∀ g, s.li.linkTimer = some g → now.since g.start < g.duration →
      ∃ t, exec (.linkSilenceExpiry now) s = .next t ∧ s.LineBecomes t now s.li) ∧
    (∀ (kind tag : Byte) (body : List Byte), s.li.receiver = .hunt → body.length ≤ 248 → s.li.linkTimer = none →
      ∃ t, exec (.frameReceived (frame kind tag body) now) s = .next t ∧ t.runTime = now ∧
        t.li.linkTimer = some ⟨now, (s.par .linkSilenceTime).toNat⟩ ∧
        t.mp.holdCauses = { s.mp.holdCauses with link := false } ∧
        t.source Source.linkSilent =
          (if s.source Source.linkSilent = .active then .latched else s.source Source.linkSilent) ∧
        (∀ i, i ≠ Source.linkSilent → t.source i = s.source i) ∧
        (s.mp.mode ≠ .auto →
          let resumes := s.mp.mode = .hold ∧ s.mp.holdCauses.depth = false ∧ s.mp.holdCauses.slope = false;
          t.mp.mode = (if resumes then .auto else s.mp.mode) ∧
            s.Reported t (if resumes then [.mode .auto] else [])) ∧
        t.fc = s.fc ∧ t.di = s.di ∧ t.params = s.params)

/-- A reply part is sent in the frame of section 1.12, its check passes, and its numbers read back (R4, R2, 01 section
1.2, 01 section 1.12, 00_scope.md, Units and encodings). The result codes are those of section 1.2. For every reply
part with at most 246 data bytes: the bytes of its frame in order, the length byte counting kind to body; the part
byte with the part number below and the final mark in bit 7; the kind 0x80 above the request's; the check bytes
accepted by the receiver's own test. A number encoded in n bytes, unsigned or in two's complement, reads back as
itself whatever stands before and after it. -/
def Obligations.FramesAndFields : Prop :=
  (∀ p ∈ [(Result.done, (0 : Byte)), (.doneClamped, 1), (.busy, 2), (.unknownKind, 3), (.badLength, 4), (.badValue, 5),
    (.wrongMode, 6), (.wrongState, 7), (.notFound, 8), (.timedOut, 9), (.cancelled, 10), (.planAborted, 11)],
    p.1.code = p.2) ∧
  (∀ p : ReplyPart, p.data.length ≤ 246 →
    ∃ c1 c2 : Byte, p.frame = [0xC3, BitVec.ofNat 8 (p.data.length + 4), p.kind, p.tag, p.result.code, p.partByte]
        ++ p.data ++ [c1, c2] ∧
      c1.toNat * 256 + c2.toNat = (crc16 ((p.frame.drop 1).take (p.data.length + 5))).toNat ∧
      frameChecks p.frame = true) ∧
  (∀ p : ReplyPart, p.number ≤ 127 → p.partByte.toNat = p.number + if p.final then 128 else 0) ∧
  (∀ (kind tag : Byte) (r : Reply), (singlePart kind tag r).kind.toNat = (kind.toNat + 128) % 256 ∧
    (singlePart kind tag r).tag = tag ∧ (singlePart kind tag r).partByte = 0x80) ∧
  ∀ (before after : List Byte) (n : Nat) (v : Int),
    (0 ≤ v → v < (256 : Int) ^ n → unsignedAt (before ++ encode n v ++ after) before.length n = v.toNat) ∧
    (-((256 : Int) ^ n) ≤ 2 * v → 2 * v < (256 : Int) ^ n →
      signedAt (before ++ encode n v ++ after) before.length n = v)

/-- A request of unknown kind, wrong length or a selector outside its list is answered so before its owner is
consulted (R5, R6). A kind outside 0x01..0x1B is answered UNKNOWN_KIND whatever its body; a known kind whose body has
not the length of the kind table is answered BAD_LENGTH whatever its content and the state of its owner; a wheel,
direction, plate, trip source, wait condition, mode, keep_log, TRIP_FORCE switch or group set outside its list is
answered BAD_VALUE in every state of the owner. Nothing outside LI changes. -/
def Obligations.TestsBeforeOwner : Prop :=
  ∀ (s : State) (now : RunTime) (r : Request) (rest : List Request), s.li.handler = .idle →
    s.li.requestQueue = r :: rest →
    (r.kind.toNat < 0x01 ∨ 0x1B < r.kind.toNat → ∃ t, exec (.requestUnknownKind now) s = .next t ∧
      s.RepliedOnly t now r rest .unknownKind [] ∧ t.blocks = s.blocks) ∧
    (∀ row ∈ requestRows, r.kind.toNat = row.2.1 → r.body.length ≠ row.2.2 →
      ∃ t, exec (row.1 now) s = .next t ∧ s.RepliedOnly t now r rest .badLength [] ∧ t.blocks = s.blocks) ∧
    let refused : (RunTime → Instr) → Prop := fun c =>
      ∃ t, exec (c now) s = .next t ∧ s.RepliedOnly t now r rest .badValue [] ∧ t.blocks = s.blocks;
    let b := fun i => byteAt r.body i;
    (s.Takes 0x08 4 r rest → 1 < b 0 ∨ 1 < b 1 → refused .wheelSet) ∧
    (s.Takes 0x09 1 r rest → 1 < b 0 → refused .wheelClear) ∧
    (s.Takes 0x0C 2 r rest → b 0 = 0 ∨ 8 < b 0 → refused .plateMove) ∧
    (s.Takes 0x0D 1 r rest → b 0 = 0 ∨ 8 < b 0 → refused .plateClear) ∧
    (s.Takes 0x18 1 r rest → b 0 = 0 ∨ 13 < b 0 → refused .tripClear) ∧
    (s.Takes 0x1A 2 r rest → b 0 = 0 ∨ 13 < b 0 ∨ 31 < b 1 → refused .tripMapSet) ∧
    (s.Takes 0x14 7 r rest → b 0 = 0 ∨ 6 < b 0 → refused .await) ∧
    (s.Takes 0x04 1 r rest → 4 < b 0 → refused .modeSet) ∧
    (s.Takes 0x1B 1 r rest → 1 < b 0 → refused .restart) ∧
    (s.Takes 0x19 1 r rest → 1 < b 0 → refused .tripForce)

/-- A request answered with a refusal code changes no state outside LI (R6). Over all 27 kinds but the plan load's
three, whose refusals chapter 6 excepts: taking the request answers a next state, and if its reply is neither DONE nor
DONE_CLAMPED then every block outside LI is as it was. -/
def Obligations.RefusalChangesNothing : Prop :=
  ∀ (s : State) (now : RunTime) (r : Request) (rest : List Request), ∀ row ∈ requestRows,
    row.2.1 ≠ 0x0E → row.2.1 ≠ 0x0F → row.2.1 ≠ 0x10 → s.Takes row.2.1 row.2.2 r rest →
    ∃ t, exec (row.1 now) s = .next t ∧ t.runTime = now ∧ t.pending = s.pending ∧ t.li.requestQueue = rest ∧
      ∀ res data, t.Answered r res data → res ≠ .done → res ≠ .doneClamped → t.blocks = s.blocks

/-- No request is taken while the handler is not IDLE, or by the command of another kind (R8, log entry 2). While the
handler is PLACING, STREAMING or RESTARTING, or the queue is empty, or its oldest request is of another kind, a
request command changes nothing but the run time (that such a command finds nothing is the model's choice, log entry
2). -/
def Obligations.HandlerOccupied : Prop :=
  ∀ (s : State) (now : RunTime), ∀ row ∈ requestRows,
    (s.li.handler ≠ .idle ∨ s.li.requestQueue = [] ∨
      ∃ r rest, s.li.requestQueue = r :: rest ∧ r.kind.toNat ≠ row.2.1) →
    ∃ t, exec (row.1 now) s = .next t ∧ s.LineBecomes t now s.li

/-- The transmitter sends the refusal slot first, then the oldest part, one frame at a time (R7, R10, R26, log entry
6). On a free line the BUSY reply of the refusal slot starts, else the oldest part, else the line stays free; a frame
on the line is left alone; when it has left, its slot is free and no other has moved; a stream whose part has left has
its phase left, a RESTART whose reply has left has its phase left, and a handler that does not wait for the part is as
it was; the reply queue never holds more than 16 parts; power-on and restart leave the reply queue empty and the line
free. (That the free slot is granted, and the next frame started, by commands of their own is the model's choice, log
entry 6.) -/
def Obligations.TransmitterSends : Prop :=
  (∀ (s : State) (now : RunTime),
    (∀ p, s.li.line = .free → s.li.refusal = some p →
      ∃ t, exec (.transmitFrameStart now) s = .next t ∧ s.LineBecomes t now { s.li with line := .busy p.frame }) ∧
    (∀ p rest, s.li.line = .free → s.li.refusal = none → s.li.replyQueue = p :: rest →
      ∃ t, exec (.transmitFrameStart now) s = .next t ∧ s.LineBecomes t now { s.li with line := .part p.frame }) ∧
    (s.li.line ≠ .free ∨ s.li.refusal = none ∧ s.li.replyQueue = [] →
      ∃ t, exec (.transmitFrameStart now) s = .next t ∧ s.LineBecomes t now s.li) ∧
    (∀ f, s.li.line = .busy f →
      ∃ t, exec (.transmitComplete now) s = .next t ∧
        s.LineBecomes t now { s.li with line := .free, refusal := none }) ∧
    (∀ f p rest, s.li.line = .part f → s.li.replyQueue = p :: rest →
      ∃ t, exec (.transmitComplete now) s = .next t ∧
        s.LineBecomes t now
          { s.li with
            line := .free, replyQueue := rest
            handler := match p.origin, s.li.handler with
              | .stream, .streaming st => .streaming { st with phase := .left }
              | .restart, .restarting k _ => .restarting k .left
              | _, h => h })) ∧
  (∀ (c : Instr) (s t : State), s.li.replyQueue.length ≤ 16 → exec c s = .next t → t.li.replyQueue.length ≤ 16) ∧
  (∀ (s : State) (e g o : Level), ∃ t, exec (.powerOn e g o) s = .next t ∧ t.li.replyQueue = [] ∧ t.li.line = .free) ∧
  ∀ (s : State) (k : Bool), s.li.handler = .restarting k .left → ∃ t, exec .moduleRestart s = .next t ∧
    t.li.replyQueue = [] ∧ t.li.line = .free

/-- A free slot goes to the oldest held wait reply, then to the handler (R9, R8, R10, R16, R26). With a slot free, the
first HELD entry in posting order leaves the table and its reply is placed under the AWAIT's kind and tag; with none
held, the handler's part is placed, after which PLACING is IDLE, a stream waits for its part to leave or is over, and
a restart waits for its reply to leave; with no slot or no claimant nothing changes. -/
def Obligations.SlotGranted : Prop :=
  ∀ (s : State) (now : RunTime),
    let granted : LineInterface → Prop := fun li =>
      ∃ t, exec (.replySlotGranted now) s = .next t ∧ s.LineBecomes t now li;
    let placed : ReplyPart → Handler → Prop := fun p h =>
      granted { s.li with replyQueue := s.li.replyQueue ++ [p], handler := h };
    (16 ≤ s.li.replyQueue.length → granted s.li) ∧
    (s.li.replyQueue.length < 16 →
      (∀ older e newer r, s.li.waits = older ++ e :: newer → (∀ d ∈ older, d.state = .waiting) → e.state = .held r →
        granted { s.li with
                  waits := older ++ newer
                  replyQueue := s.li.replyQueue ++ [⟨0x94, e.tag, r.result, 0, true, r.data, .plain⟩] }) ∧
      ((∀ e ∈ s.li.waits, e.state = .waiting) →
        (s.li.handler.claim = none → granted s.li) ∧
        (∀ p, s.li.handler = .placing p → placed p .idle) ∧
        (∀ st p, s.li.handler = .streaming st → st.phase = .claiming p →
          placed p (if p.final then .idle else .streaming { st with phase := .sending })) ∧
        ∀ k p, s.li.handler = .restarting k (.claiming p) → placed p (.restarting k .sending)))

/-- A report ends the waits that it meets with the reply of section 1.6, and the replies are placed in posting order
(R14, R16, R18, R143, 01 section 1.6, log entry 6, log entry 12). Over every ending of waits: with no claimant waiting
for a free slot and at most 8 entries, the WAITING entries that end get their replies, the held replies fill the free
slots in posting order, the rest stay held in the table, and the other entries stay as they are. A wait ends on the
first report of the event that meets it by the condition table of section 1.6, DONE with that table's data: the
station record as written, the source number, the mode code, or none. At the end of an event LI takes all its reports
at once, with PM's report of PLATES_IDLE behind them if PM is idle after the event and was not at some moment of it.
(That PLATES_IDLE is reported at the end of the event alone, and once, is the model's choice, R143 over the wording of
R14: log entry 12.) -/
def Obligations.WaitRepliesInOrder : Prop :=
  (∀ (f : WaitEntry → Option Reply) (s : State), s.Granted → s.li.waits.length ≤ 8 → s.li.replyQueue.length ≤ 16 →
    let ended := s.li.waits.map fun e =>
      match e.state, f e with
      | .waiting, some r => { e with state := .held r }
      | _, _ => e;
    let due := ended.filterMap fun e =>
      match e.state with
      | .held r => some (e.part r)
      | .waiting => none;
    let slots := 16 - s.li.replyQueue.length;
    let t := endWaits f s;
    t = s.putLi { s.li with waits := t.li.waits, replyQueue := t.li.replyQueue } ∧
      t.li.replyQueue = s.li.replyQueue ++ due.take slots ∧ t.li.waits.Sublist ended ∧
      t.li.waits.filter (fun e => e.state == .waiting) = ended.filter (fun e => e.state == .waiting) ∧
      t.li.waits.filter (fun e => e.state != .waiting) = (ended.filter fun e => e.state != .waiting).drop slots) ∧
  (∀ (e : WaitEntry) (reports : List Report),
    let meets : Report → Option (List Byte) := fun r =>
      match r with
      | .station q => if e.cond = .station ∧ (e.arg = -1 ∨ e.arg = q.index) then some q.bytes else none
      | .depth d => if e.cond = .depth ∧ e.arg ≤ d then some [] else none
      | .trip i => if e.cond = .trip then some [BitVec.ofNat 8 (i.val + 1)] else none
      | .mode m =>
        if e.cond = .mode then
          some [match m with | .start => 0 | .standby => 1 | .manual => 2 | .auto => 3 | .hold => 4]
        else none
      | .platesIdle => if e.cond = .platesIdle then some [] else none
      | .attributed k => if e.cond = .attributed ∧ e.arg = k then some [] else none;
    ((∀ r ∈ reports, meets r = none) → e.firstMet reports = none) ∧
    ∀ earlier r later data, reports = earlier ++ r :: later → (∀ q ∈ earlier, meets q = none) →
      meets r = some data → e.firstMet reports = some ⟨.done, data⟩) ∧
  ∀ s : State,
    let idle := s.pm.move = none ∧ ∀ p : Plate, s.pm.table.get p = none;
    let all := s.reports ++ if s.plateBusy = true ∧ idle then [Report.platesIdle] else [];
    takeReports s = { (if all = [] then s else endWaits (fun e => e.firstMet all) s) with
      reports := [], plateBusy := false }

/-- LOG_READ and PLAN_GET send their parts one by one (R10, R11, R12, R91, R115, 01 section 1.12). A bad range is
refused; otherwise the first part is built from the log or the plan as it stands and placed, or claimed for while the
queue is full; each later part is built only once the part before it has left the line, with the part number one
higher; up to 5 records or bands go into a part, and a part with none is the final one, with the total, or the band
count and version. Nothing outside LI changes. A station record goes out in the 44 bytes and a band in the 42 bytes of
section 1.12, field by field. -/
def Obligations.StreamParts : Prop :=
  (∀ q : StationRecord,
    let part := fun off n => field q.bytes off n;
    q.bytes.length = 44 ∧ part 0 2 = encode 2 q.index ∧ part 2 1 = encode 1 q.pass ∧
      (∀ i, i < 8 → (unsignedAt q.bytes 3 1).testBit i = [q.flags.estimated, q.flags.single, q.flags.disagree,
        q.flags.suppressed, q.flags.saturated, q.flags.auto, q.density.isSome].getD i false) ∧
      part 4 4 = encodeBits 4 q.closedAt ∧ part 8 4 = encode 4 q.offsets.x ∧ part 12 4 = encode 4 q.offsets.y ∧
      part 16 2 = encode 2 q.slopes.x ∧ part 18 2 = encode 2 q.slopes.y ∧ part 20 2 = encode 2 q.twist ∧
      part 22 2 = encode 2 q.meanSpeed.a ∧ part 24 2 = encode 2 q.meanSpeed.b ∧ part 26 2 = encode 2 q.maxPress.a ∧
      part 28 2 = encode 2 q.maxPress.b ∧ (∀ p : Plate, part (30 + p.val) 1 = encode 1 (q.plateTargets.get p)) ∧
      part 38 2 = encode 2 q.meanFlow ∧
      part 40 2 = (match q.density with
        | some density => encode 2 density
        | none => [0xFF, 0xFF]) ∧
      part 42 2 = encode 2 (if 65535 < q.volume then 65535 else q.volume)) ∧
  (∀ b : Band,
    let part := fun off n => field b.bytes off n;
    b.bytes.length = 42 ∧ part 0 1 = encode 1 b.index ∧ part 1 1 = [if b.kind = .steer then 0 else 1] ∧
      part 2 4 = encode 4 b.top ∧ part 6 4 = encode 4 b.bottom ∧ part 10 4 = encode 4 b.tX ∧
      part 14 4 = encode 4 b.tY ∧ part 18 4 = encode 4 b.dbX ∧ part 22 4 = encode 4 b.dbY ∧
      part 26 2 = encode 2 b.dbTwist ∧ part 28 2 = encode 2 b.gainY ∧ part 30 2 = encode 2 b.gainX ∧
      part 32 2 = encode 2 b.gainW ∧ part 34 4 = encode 4 b.endThr ∧ part 38 2 = encode 2 b.twistGain ∧
      part 40 2 = encode 2 b.lookahead) ∧
  ∀ (s : State) (now : RunTime), s.Granted →
    let logPart : Stream → Nat → Nat → Nat → ReplyPart × Option Stream := fun st cursor last total =>
      let found := (s.di.log.filter fun q => cursor ≤ q.index && q.index ≤ last).take 5;
      match found.getLast? with
      | some q =>
        (⟨st.kind + 0x80, st.tag, st.result, st.next, false,
            encode 1 found.length ++ found.flatMap StationRecord.bytes, .stream⟩,
          some { st with source := .log (q.index + 1) last (total + found.length), next := st.next + 1 })
      | none => (⟨st.kind + 0x80, st.tag, st.result, st.next, true, encode 1 0 ++ encode 2 total, .plain⟩, none);
    let planPart : Stream → Nat → ReplyPart × Option Stream := fun st cursor =>
      let found := (s.sl.plan.drop cursor).take 5;
      if found = [] then
        (⟨st.kind + 0x80, st.tag, st.result, st.next, true,
          encode 1 0 ++ encode 1 s.sl.plan.length ++ encodeBits 2 s.sl.version, .plain⟩, none)
      else
        (⟨st.kind + 0x80, st.tag, st.result, st.next, false,
            encode 1 found.length ++ found.flatMap Band.bytes, .stream⟩,
          some { st with source := .plan (cursor + found.length), next := st.next + 1 });
    let sends : Instr → List Request → ReplyPart × Option Stream → Prop := fun c rest a =>
      ∃ (t : State) (claiming : Stream), exec c s = .next t ∧ t.runTime = now ∧ t.pending = s.pending ∧
        t.blocks = s.blocks ∧ t.li.requestQueue = rest ∧ s.sameLine t ∧ t.li.waits = s.li.waits ∧
        claiming.phase = .claiming a.1 ∧ (∀ st, a.2 = some st → claiming = { st with phase := .claiming a.1 }) ∧
        s.Claimed t a.1
          (match a.2 with
            | some st => .streaming { st with phase := .sending }
            | none => .idle)
          (.streaming claiming);
    (∀ r rest, s.Takes 0x12 4 r rest →
      let first := unsignedAt r.body 0 2;
      let count := unsignedAt r.body 2 2;
      (511 < first ∨ count = 0 →
        ∃ t, exec (.logRead now) s = .next t ∧ s.RepliedOnly t now r rest .badValue [] ∧ t.blocks = s.blocks) ∧
      (first ≤ 511 → count ≠ 0 →
        let st : Stream := ⟨r.kind, r.tag, if 511 < first + count - 1 then .doneClamped else .done, .plan 0, 0, .left⟩;
        sends (.logRead now) rest (logPart st first (min (first + count - 1) 511) 0))) ∧
    (∀ r rest, s.Takes 0x11 0 r rest →
      sends (.planGet now) rest (planPart ⟨r.kind, r.tag, .done, .plan 0, 0, .left⟩ 0)) ∧
    (∀ st, s.li.handler = .streaming st → st.phase = .left →
      (∀ cursor last total, st.source = .log cursor last total →
        sends (.streamNextPart now) s.li.requestQueue (logPart st cursor last total)) ∧
      ∀ cursor, st.source = .plan cursor → sends (.streamNextPart now) s.li.requestQueue (planPart st cursor)) ∧
    (∀ st, s.li.handler = .streaming st → st.phase ≠ .left →
      ∃ t, exec (.streamNextPart now) s = .next t ∧ s.LineBecomes t now s.li)

/-- AWAIT makes the tests of R13 in order and posts a wait (R13). Timeout, argument and tag tests, a condition that
already holds, a full table, and otherwise a new WAITING entry as the newest of the table with the deadline of its
timeout, whose taking places no reply; nothing outside LI changes. -/
def Obligations.AwaitPosted : Prop :=
  ∀ (s : State) (now : RunTime) (r : Request) (rest : List Request) (c : WaitCond), s.Takes 0x14 7 r rest →
    (byteAt r.body 0, c) ∈ [(1, WaitCond.station), (2, .depth), (3, .trip), (4, .mode), (5, .platesIdle),
      (6, .attributed)] →
    let arg := signedAt r.body 1 4;
    let timeout := unsignedAt r.body 5 2;
    let answered : Result → Prop := fun res =>
      ∃ t, exec (.await now) s = .next t ∧ s.RepliedOnly t now r rest res [] ∧ t.blocks = s.blocks;
    let inLog := 0 ≤ arg ∧ arg ≤ 511;
    if 6000 < timeout then answered .badValue
    else if c = .station ∧ arg ≠ -1 ∧ ¬inLog ∨ c = .attributed ∧ ¬inLog then answered .badValue
    else if ∃ e ∈ s.li.waits, e.tag = r.tag then answered .badValue
    else if c = .depth ∧ arg ≤ s.di.depth ∨
        c = .platesIdle ∧ s.pm.move = none ∧ ∀ p : Plate, s.pm.table.get p = none then answered .done
    else if 8 ≤ s.li.waits.length then answered .busy
    else
      ∃ t, exec (.await now) s = .next t ∧
        s.LineBecomes t now { s.li with
          requestQueue := rest
          waits := s.li.waits ++
            [⟨r.tag, c, arg, if timeout = 0 then none else some ⟨now, timeout * 100⟩, s.li.nextSeq, .waiting⟩]
          nextSeq := s.li.nextSeq + 1 }

/-- A wait ends at its deadline or at AWAIT_CANCEL, once (R15, R16, R17). The WAITING entry of a tag ends TIMED_OUT at
its deadline and CANCELLED at AWAIT_CANCEL: its reply is placed under the AWAIT's kind and tag, or held in the entry
while the reply queue is full, and the DONE reply of AWAIT_CANCEL follows it; a HELD entry and a tag without a WAITING
entry are left alone, with NOT_FOUND to AWAIT_CANCEL. -/
def Obligations.WaitsEnd : Prop :=
  ∀ (s : State) (now : RunTime), s.Granted →
    (∀ older e newer, s.li.waits = older ++ e :: newer → e.state = .waiting → (∀ d ∈ older ++ newer, d.tag ≠ e.tag) →
      let ends : State → Result → List ReplyPart → Prop := fun t res after =>
        t.runTime = now ∧ t.pending = s.pending ∧ t.blocks = s.blocks ∧ s.sameLine t ∧
        (s.li.replyQueue.length < 16 →
          t.li.waits = older ++ newer ∧ ∃ tail, tail <+: after ∧
            t.li.replyQueue = s.li.replyQueue ++ ⟨0x94, e.tag, res, 0, true, [], .plain⟩ :: tail) ∧
        (16 ≤ s.li.replyQueue.length →
          t.li.waits = older ++ { e with state := .held ⟨res, []⟩ } :: newer ∧ t.li.replyQueue = s.li.replyQueue);
      (∀ g, e.deadline = some g → g.duration ≤ now.since g.start →
        ∃ t, exec (.waitDeadlineExpiry e.tag now) s = .next t ∧ ends t .timedOut [] ∧
          t.li.handler = s.li.handler ∧ t.li.requestQueue = s.li.requestQueue) ∧
      ∀ r rest, s.Takes 0x15 1 r rest → r.body = [e.tag] →
        ∃ t, exec (.awaitCancel now) s = .next t ∧ s.Replied t now r rest .done [] ∧
          ends t .cancelled [⟨0x95, r.tag, .done, 0, true, [], .plain⟩]) ∧
    (∀ tag, (∀ e ∈ s.li.waits, e.tag = tag → e.state ≠ .waiting) →
      (∃ t, exec (.waitDeadlineExpiry tag now) s = .next t ∧ s.LineBecomes t now s.li) ∧
      ∀ r rest, s.Takes 0x15 1 r rest → r.body = [tag] →
        ∃ t, exec (.awaitCancel now) s = .next t ∧ s.RepliedOnly t now r rest .notFound [] ∧ t.blocks = s.blocks ∧
          t.li.waits = s.li.waits)

/-- PARAM_SET stores the value in range, and the owner acts on it at that event (R21, R20, R179, R131, R157, R158,
R159, R173, R177, R187, log entry 19, log entry 35). The identifiers and ranges are those of the parameter tables of
chapters 1, 3 and 6 to 11. For every parameter and every value sent, in every mode: the clamped value is stored, tied
between the two density limits, answered DONE or DONE_CLAMPED with identifier and value stored; every other parameter
is as it was; a parameter without a rule of its own at storing changes nothing but itself. A lowered maximum wheel
speed clamps base and commanded speeds and forms the targets anew; a lowered differential limit clamps SL's demand,
which is sent to WD if it changes; SR's parameters make the recomputations of R187. (That a maximum stored anew
without a change forms no target, and that a REVERSING wheel's target is clamped, is log entry 19. That the clamped
demand is applied in AUTO also between the return from HOLD and the first evaluation after it, against the last
sentence of R124, is the model's choice, log entry 35.) The pump command is that of R174. An identifier that names no
parameter is answered NOT_FOUND. -/
def Obligations.ParameterStored : Prop :=
  (∀ p : ParamId, (p, p.number, p.lo, p.hi) ∈
    [(ParamId.linkSilenceTime, 0x0101, 500, 10000), (.emergencyFilter, 0x0301, 0, 250), (.gearFilter, 0x0302, 0, 250),
      (.oilFilter, 0x0303, 0, 250), (.disagreeTolerance, 0x0304, 20, 1000), (.disagreeTime, 0x0305, 1, 60),
      (.inclLimit, 0x0306, 500, 5000), (.twistLimit, 0x0307, 50, 3000), (.depthMaxStep, 0x0308, 100, 5000),
      (.defTX, 0x0501, -2000000, 2000000), (.defTY, 0x0502, -2000000, 2000000), (.defDbX, 0x0503, 0, 500000),
      (.defDbY, 0x0504, 0, 500000), (.defDbTwist, 0x0505, 0, 3000), (.defGainY, 0x0506, 0, 1000),
      (.defGainX, 0x0507, 0, 1000), (.defGainW, 0x0508, 0, 100), (.defEndThr, 0x0509, 0, 2000000),
      (.defTwistGain, 0x050A, 0, 500), (.defLookahead, 0x050B, 0, 5000), (.diffMax, 0x050C, 0, 50),
      (.hysteresis, 0x050D, 1, 10), (.twistUrgent, 0x050E, 20, 3000), (.plateRate, 0x0601, 1, 50),
      (.maxWheelSpeed, 0x0701, 50, 400), (.rampRate, 0x0702, 1, 100), (.runningBand, 0x0703, 5, 50),
      (.stallPressure, 0x0704, 50, 420), (.stallTime, 0x0705, 200, 10000), (.autoReverse, 0x0706, 0, 1),
      (.reverseSpeed, 0x0707, 10, 100), (.reverseTime, 0x0708, 500, 10000), (.idleFlow, 0x0801, 0, 4000),
      (.baseFlow, 0x0802, 0, 8000), (.carry, 0x0803, 100, 2000), (.pumpMaxRpm, 0x0804, 100, 1200),
      (.displacement, 0x0805, 1000, 50000), (.flowBand, 0x0806, 1, 50), (.operatorFeedLimit, 0x0807, 0, 2000),
      (.softLimit, 0x0808, 1050, 1400), (.hardLimit, 0x0809, 1100, 1500), (.blockPressure, 0x080A, 5, 60),
      (.blockTime, 0x080B, 1, 60), (.backflushSpeed, 0x080C, 50, 400), (.backflushTime, 0x080D, 2, 60),
      (.autoBackflush, 0x080E, 0, 1), (.parcelSize, 0x080F, 50, 1000), (.hoseLength, 0x0810, 0, 200000),
      (.boreArea, 0x0811, 20, 500)]) ∧
  ∀ (s : State) (now : RunTime) (r : Request) (rest : List Request), s.Takes 0x02 6 r rest →
    (∀ (p : ParamId) (sent : Int), r.body = encode 2 p.number ++ encode 4 sent → -2147483648 ≤ sent →
      sent ≤ 2147483647 →
      let inRange := if sent < p.lo then p.lo else if p.hi < sent then p.hi else sent;
      let v :=
        if p = .softLimit then min inRange (s.par .hardLimit)
        else if p = .hardLimit then max inRange (s.par .softLimit)
        else inRange;
      ∃ t, exec (.paramSet now) s = .next t ∧
        s.RepliedOnly t now r rest (if v = sent then .done else .doneClamped) (encode 2 p.number ++ encode 4 v) ∧
        t.par p = v ∧ (∀ q, q ≠ p → t.par q = s.par q) ∧
        let u := s.setPar p v;
        let limit := fun lo hi x : Int => if x < lo then lo else if hi < x then hi else x;
        let aim : WheelId → Wheel → Int → Int := fun w x applied =>
          if x.state = .ramping ∨ x.state = .running then
            if x.direction = .reverse then -x.base
            else limit 0 (u.par .maxWheelSpeed) (if w = .a then x.base - applied else x.base + applied)
          else if x.state = .reversing then x.target
          else 0;
        let rpm := u.par .pumpMaxRpm;
        let most := rpm * u.par .displacement / 1000;
        let speed := fun flow trim : Int =>
          limit 0 rpm ((2 * (-((-(flow * 1000)) / u.par .displacement) * (1000 + trim)) + 1000) / 2000);
        let required := limit 0 most
          (u.par .baseFlow + s.mp.cutArea * (if s.mp.mode = .auto then s.sr.feedCopy else 0) * u.par .carry / 1000000);
        let pumped := limit 0 2000 ((most - u.par .baseFlow) * 1000000 / (s.mp.cutArea * u.par .carry));
        let feed := min (u.par .operatorFeedLimit) pumped;
        let feedLimit := if s.mp.mode = .start then 0 else if s.sr.softMark then feed / 2 else feed;
        (p ∉ [.maxWheelSpeed, .diffMax, .idleFlow, .baseFlow, .carry, .pumpMaxRpm, .displacement,
            .operatorFeedLimit] → t.blocks = u.blocks) ∧
        (p = .maxWheelSpeed →
          (s.par p ≤ v → t.blocks = u.blocks) ∧
          (v < s.par p → t.blocks = { u.blocks with wd := t.wd.unsent } ∧ t.wd.applied = s.wd.applied ∧
            ∀ w : WheelId, let x := s.wheel w
              let y := { x with
                base := limit 0 v x.base, commanded := limit (-v) v x.commanded, target := limit (-v) v x.target };
              (t.wheel w).unsent = { y.unsent with target := aim w y s.wd.applied })) ∧
        (p = .diffMax →
          let demand := limit (-v) v s.sl.diffDemand;
          let both := s.mp.mode = .auto ∧ (s.wheel .a).state = .running ∧ (s.wheel .b).state = .running;
          let applied := if both then demand else 0;
          (demand = s.sl.diffDemand → t.blocks = u.blocks) ∧
          (demand ≠ s.sl.diffDemand →
            t.blocks = { u.blocks with sl := { s.sl with diffDemand := demand }, wd := t.wd.unsent } ∧
            t.wd.applied = applied ∧
            ∀ w : WheelId, (t.wheel w).unsent = { (s.wheel w).unsent with
              target := if applied = s.wd.applied then (s.wheel w).target else aim w (s.wheel w) applied })) ∧
        (p = .idleFlow → t.blocks = { u.blocks with
          sr := { s.sr.unsent with command := if s.sr.pumpState = .idle then speed v 0 else s.sr.command } }) ∧
        (p = .baseFlow ∨ p = .carry ∨ p = .pumpMaxRpm ∨ p = .displacement → t.blocks = { u.blocks with
          sr := { s.sr.unsent with
            required := required
            command := (match s.sr.pumpState with
              | .backflush => s.sr.command
              | .idle => speed (u.par .idleFlow) 0
              | .manual => speed s.sr.manualTarget 0
              | .balance => speed required s.sr.trim
              | .off | .tripped => 0)
            feedLimit := feedLimit } }) ∧
        (p = .operatorFeedLimit → t.blocks = { u.blocks with sr := { s.sr.unsent with feedLimit := feedLimit } })) ∧
    ((∀ p : ParamId, p.number ≠ unsignedAt r.body 0 2) →
      ∃ t, exec (.paramSet now) s = .next t ∧ s.RepliedOnly t now r rest .notFound [] ∧ t.blocks = s.blocks)

/-- PARAM_GET, COUNTERS_READ and TRANSIT_GET answer with what stands; COUNTERS_READ clears the counters (R22, R24,
R200). PARAM_GET answers the identifier and the value as it stands, or NOT_FOUND, and changes nothing; COUNTERS_READ
answers the 17 counters in order, and every counter is 0 after it, with nothing else changed; TRANSIT_GET answers the
28 bytes of section 1.12 in every mode and panel state and changes nothing. -/
def Obligations.ReadsAnswer : Prop :=
  ∀ (s : State) (now : RunTime) (r : Request) (rest : List Request),
    (s.Takes 0x03 2 r rest →
      (∀ p : ParamId, r.body = encode 2 p.number →
        ∃ t, exec (.paramGet now) s = .next t ∧ t.blocks = s.blocks ∧
          s.RepliedOnly t now r rest .done (encode 2 p.number ++ encode 4 (s.par p))) ∧
      ((∀ p : ParamId, p.number ≠ unsignedAt r.body 0 2) →
        ∃ t, exec (.paramGet now) s = .next t ∧ t.blocks = s.blocks ∧ s.RepliedOnly t now r rest .notFound [])) ∧
    (s.Takes 0x16 0 r rest →
      ∃ t data, exec (.countersRead now) s = .next t ∧ s.RepliedOnly t now r rest .done data ∧ data.length = 34 ∧
        (∀ n, 1 ≤ n → n ≤ 17 → field data (2 * (n - 1)) 2 = encode 2 (s.counter n) ∧ t.counter n = 0) ∧
        t.blocks = { s.blocks with counters := t.counters }) ∧
    (s.Takes 0x13 0 r rest →
      ∃ t data, exec (.transitGet now) s = .next t ∧ s.RepliedOnly t now r rest .done data ∧ data.length = 28 ∧
        t.blocks = s.blocks ∧ field data 0 1 = encode 1 s.sr.line.length ∧ field data 2 4 = encodeBits 4 s.sr.vPump ∧
        field data 22 2 = encode 2 (s.counter 8) ∧ field data 24 2 = encode 2 (s.counter 9) ∧
        field data 26 2 = encode 2 (s.counter 10) ∧
        (s.sr.line = [] → field data 1 1 = [0] ∧ field data 6 16 = List.replicate 16 0) ∧
        (∀ head, s.sr.line.head? = some head → field data 1 1 = [if head.atMeter then 2 else 1] ∧
          field data 6 4 = encodeBits 4 head.vIn ∧ field data 10 4 = encodeBits 4 head.vArrive) ∧
        ∀ youngest, s.sr.line.getLast? = some youngest →
          field data 14 4 = encodeBits 4 youngest.vIn ∧ field data 18 4 = encodeBits 4 youngest.vArrive)

/-- STATUS_GET answers with the fields of the status body at their places and changes nothing (R25, 01 section 1.12).
The data after result and part bytes: each field of the status body layout stands at its offset with its owner's state
(mode, panel state and wheel states by their numbers, every flag, group and source at its bit, the bits above them 0,
0xFFFF while there is no open station), the missing channels follow in ascending number, and nothing outside LI
changes. -/
def Obligations.StatusSnapshot : Prop :=
  ∀ (s : State) (now : RunTime) (r : Request) (rest : List Request), s.Takes 0x01 0 r rest →
    let missing := (List.range 21).filter fun n => ((s.fc.channels[n]?).map ChannelEntry.state) != some .fresh;
    ∃ t data, exec (.statusGet now) s = .next t ∧ s.RepliedOnly t now r rest .done data ∧ t.blocks = s.blocks ∧
      data.length = 57 + missing.length ∧
      let atOff := fun off n => field data (off - 2) n;
      let flags := fun off n l => ∀ i, i < 8 * n → (unsignedAt data (off - 2) n).testBit i = l.getD i false;
      let wheelCode := fun st : WheelState => match st with
        | .stopped => 0 | .ramping => 1 | .running => 2 | .stopping => 3 | .stalled => 4 | .reversing => 5
        | .lockedOut => 6;
      atOff 2 1 = (match s.mp.mode with
        | .start => [0] | .standby => [1] | .manual => [2] | .auto => [3] | .hold => [4]) ∧
      atOff 3 1 = (match s.mp.panel with
        | .none => [0] | .opened => [1] | .closed => [2]) ∧
      atOff 4 2 = encode 2 s.mp.panelNumber ∧
      atOff 6 4 = encodeBits 4 now ∧ atOff 10 4 = encode 4 s.di.depth ∧ atOff 14 4 = encode 4 s.di.path.x.offset ∧
      atOff 18 4 = encode 4 s.di.path.y.offset ∧ atOff 22 2 = encode 2 s.fc.slopes.x.slope ∧
      atOff 24 2 = encode 2 s.fc.slopes.y.slope ∧ atOff 26 2 = encode 2 (s.value .twist) ∧
      flags 28 1 [s.fc.slopes.x.case != .none, s.fc.slopes.y.case != .none, s.di.path.x.saturated,
        s.di.path.y.saturated, (s.chan .depth).state == .fresh] ∧
      atOff 29 2 = encode 2 (match s.di.openRecord with
        | some q => q.station
        | none => 65535) ∧
      atOff 31 2 = encode 2 s.di.feedRate ∧
      atOff 33 1 = [wheelCode (s.wheel .a).state] ∧ atOff 34 1 = [wheelCode (s.wheel .b).state] ∧
      atOff 35 2 = encode 2 (s.wheel .a).commanded ∧ atOff 37 2 = encode 2 (s.wheel .b).commanded ∧
      atOff 39 2 = encode 2 (s.value (.speed .a)) ∧ atOff 41 2 = encode 2 (s.value (.speed .b)) ∧
      atOff 43 2 = encode 2 s.wd.applied ∧ flags 45 1 [s.sr.backflushTimer.isSome, s.tripped .pump] ∧
      atOff 46 2 = encode 2 s.sr.command ∧
      atOff 48 1 = encode 1 (if s.sr.feedPermit then 1 else 0) ∧ atOff 49 2 = encode 2 s.sr.feedLimit ∧
      flags 51 1 [s.tripped (.wheel .a), s.tripped (.wheel .b), s.tripped .plates, s.tripped .pump,
        s.tripped .feed] ∧
      flags 52 2 ((List.range 13).map fun i => s.tu.sources[i]? == some .active) ∧
      flags 54 2 ((List.range 13).map fun i => s.tu.sources[i]? == some .latched) ∧
      atOff 56 2 = encodeBits 2 s.sl.version ∧
      atOff 58 1 = encode 1 missing.length ∧ data.drop 57 = missing.map fun n => BitVec.ofNat 8 (n + 1)

/-- RESTART cancels the waits, answers DONE after them and leaves the rest until that reply has left (R26, R9, R16).
With no claimant waiting for a free slot: every WAITING entry ends CANCELLED; of the cancelled replies in posting
order, and the DONE reply of the RESTART behind them, as many are placed as slots are free, the other replies are held
in their entries, and the DONE reply that finds no slot waits behind them; nothing outside LI changes; the module
restarts only when the reply has left the line. -/
def Obligations.RestartTaken : Prop :=
  ∀ (s : State) (now : RunTime) (r : Request) (rest : List Request) (k : Bool), s.Takes 0x1B 1 r rest → s.Granted →
    r.body = [if k then 1 else 0] → s.li.waits.length ≤ 8 →
    let cancelled := s.li.waits.map fun e => ReplyPart.mk 0x94 e.tag .cancelled 0 true [] .plain;
    let own := ReplyPart.mk 0x9B r.tag .done 0 true [] .restart;
    let free := 16 - s.li.replyQueue.length;
    ∃ t, exec (.restart now) s = .next t ∧ t.runTime = now ∧ t.pending = s.pending ∧ t.blocks = s.blocks ∧
      t.li.requestQueue = rest ∧ s.sameLine t ∧ (∀ e ∈ t.li.waits, e.state ≠ .waiting) ∧
      t.li.replyQueue = s.li.replyQueue ++ (cancelled ++ [own]).take free ∧
      t.li.waits = (s.li.waits.drop free).map (fun e =>
        if e.state = .waiting then { e with state := .held ⟨.cancelled, []⟩ } else e) ∧
      t.li.handler = .restarting k (if s.li.waits.length < free then .sending else .claiming own) ∧
      ∀ phase, t.li.handler = .restarting k phase → exec .moduleRestart t = .next t

/-- What power-on leaves (R20, R43, R54, R202, log entry 9, log entry 10). Power-on in any state leaves run time 0,
every parameter at the default that the parameter tables give it, the trip sources mapped as the table of R202 says,
every collection empty, the counters 0, the channels ABSENT, the path, plates, wheels and pump at rest, the panel NONE
and the mode START; with the three inputs inactive every trip source is CLEAR and no group is tripped. State.reset is
the state that power-on with inactive inputs leaves (that the inputs are inactive is the model's choice, log entries 9
and 10). -/
def Obligations.PowerOnState : Prop :=
  (∀ p : ParamId, (p, p.default) ∈
    [(ParamId.linkSilenceTime, 2000), (.emergencyFilter, 20), (.gearFilter, 20), (.oilFilter, 20),
      (.disagreeTolerance, 150), (.disagreeTime, 5), (.inclLimit, 3000), (.twistLimit, 300), (.depthMaxStep, 1000),
      (.defTX, 0), (.defTY, 0), (.defDbX, 3000), (.defDbY, 15000), (.defDbTwist, 50), (.defGainY, 60),
      (.defGainX, 40), (.defGainW, 2), (.defEndThr, 25000), (.defTwistGain, 20), (.defLookahead, 2000),
      (.diffMax, 20), (.hysteresis, 2), (.twistUrgent, 150), (.plateRate, 8), (.maxWheelSpeed, 350),
      (.rampRate, 20), (.runningBand, 15), (.stallPressure, 320), (.stallTime, 1500), (.autoReverse, 1),
      (.reverseSpeed, 50), (.reverseTime, 3000), (.idleFlow, 1500), (.baseFlow, 3000), (.carry, 700),
      (.pumpMaxRpm, 640), (.displacement, 12500), (.flowBand, 5), (.operatorFeedLimit, 400), (.softLimit, 1250),
      (.hardLimit, 1320), (.blockPressure, 25), (.blockTime, 5), (.backflushSpeed, 200), (.backflushTime, 8),
      (.autoBackflush, 0), (.parcelSize, 200), (.hoseLength, 40000), (.boreArea, 177)]) ∧
  (∀ (s : State) (e g o : Level), ∃ t, exec (.powerOn e g o) s = .next t ∧ t.pending = s.pending ∧ t.runTime = 0 ∧
    (∀ p : ParamId, t.par p = p.default) ∧
    t.li.requestQueue = [] ∧ t.li.refusal = none ∧ t.li.replyQueue = [] ∧ t.li.waits = [] ∧ t.di.log = [] ∧
    t.sl.plan = [] ∧ t.sl.load = none ∧ (∀ p : Plate, t.pm.table.get p = none ∧ t.pm.urgentSnap.get p = false ∧
      t.pm.trimSnap.get p = false ∧ t.pm.faulty.get p = false ∧ t.pm.targets.get p = 0) ∧
    t.di.ring = [] ∧ t.sr.line = [] ∧ (∀ n, t.counter n = 0) ∧ 
    t.tu.sets = #v[0x10, 0x10, 0x10, 0x10, 0x10, 0x10, 0x13, 0x17, 0x13, 0x10, 0x10, 0x1F, 0x1F] ∧
    (∀ c : Channel, (t.chan c).state = .absent) ∧ t.fc.reference = 0 ∧ t.fc.lastAccepted = none ∧
    t.di.path = ⟨⟨0, 0, false⟩, ⟨0, 0, false⟩⟩ ∧ t.di.depth = 0 ∧ t.di.openRecord = none ∧
    (∀ w : WheelId, (t.wheel w).state = .stopped ∧ (t.wheel w).base = 0 ∧ (t.wheel w).direction = .forward ∧
      (t.wheel w).commanded = 0 ∧ (t.wheel w).history = []) ∧
    t.sr.command = 0 ∧ t.sr.trim = 0 ∧ t.sr.manualTarget = 0 ∧ t.sr.vPump = 0 ∧ t.sr.flowResidue = 0 ∧
    t.sr.backflushTimer = none ∧ t.sr.feedPermit = false ∧
    t.mp.panel = .none ∧ t.mp.panelNumber = 0 ∧ t.mp.cutArea = 10000 ∧ t.mp.interval = 500 ∧ t.mp.mode = .start ∧
    (e = .energised → g = .deEnergised → o = .deEnergised →
      (∀ i, t.source i = .clear) ∧ ∀ grp, t.tripped grp = false)) ∧
  (∀ s : State, s.pending = [] → exec (.powerOn .energised .deEnergised .deEnergised) s = .next State.reset)

/-- What a restart leaves, with and without keep_log (R44, R45, R80, R81, R84, R190, log entry 29). With keep_log 0
everything is as power-on with the inputs' present levels leaves it, but for the counters, which keep their values
with the parcels of the line added to counter 9. With keep_log 1 the table of R45 is kept as well, and in an OPEN
panel a fresh record stands open for the station of the retained depth, reset with the pass that the log gives and
ESTIMATED alone (no channel has arrived), which SR copies. (That the raw levels are those present is log entry 29.) -/
def Obligations.RestartState : Prop :=
  ∀ (s p : State) (keep : Bool), s.li.handler = .restarting keep .left →
    exec (.powerOn s.fc.emergencyIn.raw s.fc.gearPressLow.raw s.fc.oilHot.raw) s = .next p →
    let counters := (s.addCounter 9 s.sr.line.length).counters;
    ∃ t, exec .moduleRestart s = .next t ∧ t.runTime = 0 ∧ t.pending = s.pending ∧ t.li = p.li ∧ t.sent = p.sent ∧
      (keep = false → t.blocks = { p.blocks with counters := counters }) ∧
      (keep = true →
        t.blocks = { p.blocks with
          counters := counters
          mp := { p.mp with
            panel := s.mp.panel, panelNumber := s.mp.panelNumber, cutArea := s.mp.cutArea, interval := s.mp.interval }
          di := { p.di with
            path := s.di.path, depth := s.di.depth, anchored := s.di.anchored, closure := s.di.closure
            log := s.di.log, openRecord := t.di.openRecord }
          fc := { p.fc with
            reference := s.fc.reference, lastAccepted := s.fc.lastAccepted, lastRaw := s.fc.lastRaw }
          sr := { p.sr.unsent with cutter := t.sr.cutter } } ∧
        t.di.openRecord =
          (if s.mp.panel = .opened ∧ 0 ≤ s.di.depth then
            let k := (s.di.depth / s.mp.interval).toNat;
            some
              { station := k, pass := match Log.at s.di.log k with | some old => min (old.pass + 1) 255 | none => 1
                speed := ⟨⟨0, 0⟩, ⟨0, 0⟩⟩, press := ⟨⟨0, 0⟩, ⟨0, 0⟩⟩, flow := ⟨0, 0⟩
                flags := ⟨true, false, false, false⟩
                recovery := false, densityVolume := 0, volume := 0, attributions := 0, lastDensity := none }
          else none) ∧
        t.sr.cutter = t.di.openRecord.map fun r => ⟨r.station, r.pass, s.di.depth⟩)

/-- MODE_SET makes the tests of R36 in order (R14, R36, R38, log entry 7). START and HOLD are BAD_VALUE; in START the
request is WRONG_MODE; the current mode, and AUTO in HOLD, are DONE without change; STANDBY is entered from MANUAL,
AUTO and HOLD; MANUAL needs a CLEAR emergency source and an OPEN panel; AUTO needs the DEPTH channel FRESH and both
slopes available too, and becomes HOLD with counter 17 increased while a HOLD cause is present. A change of mode is
exactly one entry of the new mode, which is reported once and ends the MODE waits (R14, R38). (That their replies
stand before the request's own reply is the model's choice, log entry 7.) -/
def Obligations.ModeSetTests : Prop :=
  ∀ (s : State) (now : RunTime) (r : Request) (rest : List Request) (m : Mode), s.Takes 0x04 1 r rest →
    (byteAt r.body 0, m) ∈ [(0, Mode.start), (1, .standby), (2, .manual), (3, .auto), (4, .hold)] →
    let answered : Result → Prop := fun res =>
      ∃ t, exec (.modeSet now) s = .next t ∧ s.RepliedOnly t now r rest res [] ∧ t.blocks = s.blocks;
    let entered : Mode → State → Prop := fun m u =>
      ∃ t, exec (.modeSet now) s = .next t ∧ s.Replied t now r rest .done [] ∧
        t.blocks = (changeMode m { u with runTime := now }).blocks ∧ t.mp = { s.mp with mode := m } ∧
        s.Reported t [.mode m];
    let cannotCut := s.source Source.emergency ≠ .clear ∨ s.mp.panel ≠ .opened;
    let noSlope := ∃ a, (s.fc.slopes.get a).case = SlopeCase.none;
    (m = .start ∨ m = .hold → answered .badValue) ∧
    (m ≠ .start → m ≠ .hold →
      (s.mp.mode = .start → answered .wrongMode) ∧
      (s.mp.mode ≠ .start →
        (m = s.mp.mode ∨ m = .auto ∧ s.mp.mode = .hold → answered .done) ∧
        (m ≠ s.mp.mode → (m = .auto → s.mp.mode ≠ .hold) →
          (m = .standby → entered .standby s) ∧
          (m = .manual → (cannotCut → answered .wrongState) ∧ (¬cannotCut → entered .manual s)) ∧
          (m = .auto →
            (cannotCut ∨ s.fresh .depth = false ∨ noSlope → answered .wrongState) ∧
            (¬cannotCut → s.fresh .depth = true → ¬noSlope →
              let causes := s.mp.holdCauses;
              (causes = ⟨false, false, false⟩ → entered .auto s) ∧
              (causes ≠ ⟨false, false, false⟩ → entered .hold (s.count 17)))))))

/-- What a change of mode does in WD, PM, SR and SL (R27, R38, R128, R150, R158, R168, R172, R173, R174, R177, R178,
R183). For every entry of a mode other than the current one: the table of R38 for the wheels, the differential, the
plates, the trim, the backflush and the demands; the pump state, required flow, pump command and permit of the new
mode, and the feed limit at the end of START; entry to STANDBY leaves an arbiter that is not HALTED IDLE with the next
phase URGENT; entry to MANUAL removes the pending TRIM entries from the table and from both snapshots; the mode is
reported once; everything else in the module is as it was. -/
def Obligations.ModeEntered : Prop :=
  ∀ (m : Mode) (s : State), s.mp.mode ≠ m →
    let t := changeMode m s;
    let dropped := m = .standby ∨ (m = .auto ∨ m = .hold) ∧ (s.mp.mode = .standby ∨ s.mp.mode = .manual);
    let limit := fun lo hi x : Int => if x < lo then lo else if hi < x then hi else x;
    let rpm := s.par .pumpMaxRpm;
    let most := rpm * s.par .displacement / 1000;
    let speed := fun flow : Int =>
      limit 0 rpm ((2 * (-((-(flow * 1000)) / s.par .displacement) * 1000) + 1000) / 2000);
    let required := limit 0 most
      (s.par .baseFlow + s.mp.cutArea * (if m = .auto then s.sr.feedCopy else 0) * s.par .carry / 1000000);
    let feed := min (s.par .operatorFeedLimit)
      (limit 0 2000 ((most - s.par .baseFlow) * 1000000 / (s.mp.cutArea * s.par .carry)));
    t = { s with
      mp := { s.mp with mode := m }, sl := t.sl, pm := t.pm, wd := t.wd, sr := t.sr
      reports := s.reports ++ [.mode m] } ∧
    (∀ w : WheelId, let v := s.wheel w
      let u := t.wheel w;
      let drops := dropped ∧ (m = .standby ∨ v.direction = .reverse);
      let stops := drops ∧ (v.state = .ramping ∨ v.state = .running ∨ v.state = .stalled ∨ v.state = .reversing);
      u = { v with
        base := if drops then 0 else v.base
        direction := if drops then .forward else v.direction
        state := if stops then .stopping else v.state
        stallTimer := if stops then none else v.stallTimer
        stateTimer := if stops then none else v.stateTimer
        target :=
          if u.state = .ramping ∨ u.state = .running then
            if v.direction = .forward then limit 0 (s.par .maxWheelSpeed) v.base else -v.base
          else if u.state = .reversing then v.target
          else 0 }) ∧
    t.wd.applied = 0 ∧
    t.pm = { s.pm with
      table := t.pm.table, urgentSnap := t.pm.urgentSnap, trimSnap := t.pm.trimSnap
      move := if m = .standby then none else s.pm.move
      arbiter := if m = .standby ∧ s.pm.arbiter ≠ .halted then .idle else s.pm.arbiter
      nextPhase := t.pm.nextPhase } ∧
    (m = .standby → (∀ p : Plate, t.pm.table.get p = none ∧ t.pm.urgentSnap.get p = false ∧
      t.pm.trimSnap.get p = false) ∧ (s.pm.arbiter ≠ .halted → t.pm.nextPhase = .urgent)) ∧
    (m = .manual → t.pm.nextPhase = s.pm.nextPhase ∧
      (∀ p : Plate, t.pm.table.get p =
        (match s.pm.table.get p with
          | some ⟨target, .urgent⟩ => some ⟨target, .urgent⟩
          | _ => none)) ∧
      (∀ p : Plate, let trim := (s.pm.table.get p).any fun e => e.cls == .trim
        t.pm.trimSnap.get p = (s.pm.trimSnap.get p && !trim) ∧
          t.pm.urgentSnap.get p = (s.pm.urgentSnap.get p && !trim))) ∧
    (m ≠ .manual → m ≠ .standby → t.pm = s.pm) ∧
    (m = .manual → t.sl = { s.sl with plateDemands := t.sl.plateDemands, diffDemand := 0 } ∧
      ∀ p : Plate, t.sl.plateDemands.get p = 0) ∧
    (m ≠ .manual → t.sl = s.sl) ∧
    t.sr = { s.sr with
      trim := 0
      backflushTimer := if m = .standby then none else s.sr.backflushTimer
      pumpState := t.pumpStateNow
      required := required
      command := match t.sr.pumpState with
        | .backflush => s.sr.command
        | .idle => speed (s.par .idleFlow)
        | .manual => speed s.sr.manualTarget
        | .balance => speed required
        | .off | .tripped => 0
      feedPermit := t.permitNow
      feedLimit :=
        if s.mp.mode ≠ .start then s.sr.feedLimit else if s.sr.softMark then feed / 2 else feed }

/-- PANEL_OPEN acts in the order of R40 (R14, R40, R65, R79, R80, R84, R173, R174, R177, R190, log entry 7, log entry
32). Refused outside STANDBY; in STANDBY, from every panel state: header clamped and stored, log emptied and counter 7
set to 0, the integrator started afresh at the depth accepted last since power-on or restart, or 0, and anchored
exactly if FC has a last accepted depth, the open record reset at pass 1 with the flags that R84 seeds, or none below
0, the transit line emptied into counter 9, the panel OPEN, and the stored header as reply data; the wait table's own
entries other than DEPTH waits, the plan, the trips, the fault marks, the depth reference and the other counters stay;
SR holds the open station and forms required flow, pump command and feed limit for the new area. (That a depth which a
restart has retained does not start the path, but leaves it anchored, follows R40 and R65 against two sentences of
section 4.2: log entry 32. That the replies of the DEPTH waits stand before the request's own reply is the model's
choice, log entry 7.) -/
def Obligations.PanelOpened : Prop :=
  ∀ (s : State) (now : RunTime) (r : Request) (rest : List Request), s.Takes 0x05 8 r rest →
    let area : Int := unsignedAt r.body 2 4;
    let interval : Int := unsignedAt r.body 6 2;
    let a := if area < 10000 then 10000 else if 80000 < area then 80000 else area;
    let i := if interval < 100 then 100 else if 2000 < interval then 2000 else interval;
    let d := if s.fc.accepted then s.fc.lastAccepted.getD 0 else 0;
    let x := s.di.copies.x;
    let y := s.di.copies.y;
    let seeded : OpenFlags :=
      { estimated := x.case == .none || y.case == .none || !s.fresh .depth || !s.fresh .twist
        single := x.case == .single || y.case == .single
        disagree := x.disagreeing || y.disagreeing
        saturated := x.clamped || y.clamped };
    let limit := fun lo hi x : Int => if x < lo then lo else if hi < x then hi else x;
    let rpm := s.par .pumpMaxRpm;
    let most := rpm * s.par .displacement / 1000;
    let speed := fun flow trim : Int =>
      limit 0 rpm ((2 * (-((-(flow * 1000)) / s.par .displacement) * (1000 + trim)) + 1000) / 2000);
    let required := limit 0 most (s.par .baseFlow);
    let feed := min (s.par .operatorFeedLimit)
      (limit 0 2000 ((most - s.par .baseFlow) * 1000000 / (a * s.par .carry)));
    (s.mp.mode ≠ .standby → ∃ t, exec (.panelOpen now) s = .next t ∧ s.RepliedOnly t now r rest .wrongMode [] ∧
      t.blocks = s.blocks) ∧
    (s.mp.mode = .standby → ∃ t, exec (.panelOpen now) s = .next t ∧
      s.Replied t now r rest (if a = area ∧ i = interval then .done else .doneClamped)
        (encode 2 (unsignedAt r.body 0 2) ++ encode 4 a ++ encode 2 i) ∧
      t.mp = { s.mp with panel := .opened, panelNumber := unsignedAt r.body 0 2, cutArea := a, interval := i } ∧
      t.di = { s.di with
        log := [], path := ⟨⟨0, 0, false⟩, ⟨0, 0, false⟩⟩, closure := false, depth := d, ring := []
        feedRate := 0, anchored := s.fc.lastAccepted.isSome, openRecord := t.di.openRecord } ∧
      t.di.openRecord =
        (if 0 ≤ d then some
          { station := (d / i).toNat, pass := 1
            speed := ⟨⟨0, 0⟩, ⟨0, 0⟩⟩, press := ⟨⟨0, 0⟩, ⟨0, 0⟩⟩, flow := ⟨0, 0⟩
            flags := seeded
            recovery := false, densityVolume := 0, volume := 0, attributions := 0, lastDensity := none }
        else none) ∧
      t.sr.cutter = (if 0 ≤ d then some ⟨(d / i).toNat, 1, d⟩ else none) ∧
      t.sr.feedCopy = (if s.di.feedRate = 0 then s.sr.feedCopy else 0) ∧
      t.sr.required = required ∧ t.sr.feedLimit = (if s.sr.softMark then feed / 2 else feed) ∧
      (s.sr.pumpState = .idle → t.sr.command = speed (s.par .idleFlow) 0) ∧
      t.sr.line = [] ∧ (∀ n, 1 ≤ n → n ≤ 17 → t.counter n =
        if n = 7 then 0 else if n = 9 then min (s.counter 9 + s.sr.line.length) 65535 else s.counter n) ∧
      t.sl = s.sl ∧ t.tu = s.tu ∧ t.pm.unsent = s.pm.unsent ∧ t.fc = s.fc ∧ t.params = s.params ∧
      t.wd.unsent = s.wd.unsent ∧ t.sr.vPump = s.sr.vPump ∧ t.sr.flowResidue = s.sr.flowResidue ∧
      (t.waiting = s.waiting.filter fun e => !(e.cond == .depth && e.arg ≤ d)) ∧ s.Reported t [.depth d])

/-- DEPTH_ZERO sets the reference and the start of the path (R14, R41, R65, R79, R80, R81, R84, R173, R190, log entry
7, log entry 37). A depth or offset out of range is BAD_VALUE, an unsuitable state, and so every other mode than
STANDBY, WRONG_STATE; otherwise the reference makes the latest raw value read as D, and the integrator starts at D
with the given offsets, residues 0, no saturation, an empty ring, and an open record reset with the flags that R84
seeds, or none below 0, which SR copies (its pass is 1 while the log is empty, as it is before the first closure).
(That these tests hold in START too, where R28 refuses the requests tied to STANDBY WRONG_MODE, is the model's choice,
log entry 37. That the replies of the DEPTH waits stand before the request's own reply is the model's choice, log
entry 7.) -/
def Obligations.DepthZeroed : Prop :=
  ∀ (s : State) (now : RunTime) (r : Request) (rest : List Request), s.Takes 0x07 12 r rest →
    let d := signedAt r.body 0 4;
    let oX := signedAt r.body 4 4;
    let oY := signedAt r.body 8 4;
    let answered : Result → Prop := fun res =>
      ∃ t, exec (.depthZero now) s = .next t ∧ s.RepliedOnly t now r rest res [] ∧ t.blocks = s.blocks;
    let x := s.di.copies.x;
    let y := s.di.copies.y;
    let seeded : OpenFlags :=
      { estimated := x.case == .none || y.case == .none || !s.fresh .depth || !s.fresh .twist
        single := x.case == .single || y.case == .single
        disagree := x.disagreeing || y.disagreeing
        saturated := x.clamped || y.clamped };
    let inRange := -5000 ≤ d ∧ d ≤ 300000 ∧ -2000000 ≤ oX ∧ oX ≤ 2000000 ∧ -2000000 ≤ oY ∧ oY ≤ 2000000;
    let allowed := s.mp.mode = .standby ∧ s.mp.panel = .opened ∧ s.di.closure = false ∧ s.fresh .depth = true ∧
      s.fc.lastRaw ≠ none;
    (¬inRange → answered .badValue) ∧ (inRange → ¬allowed → answered .wrongState) ∧
    ∀ raw, inRange → allowed → s.fc.lastRaw = some raw →
      ∃ t, exec (.depthZero now) s = .next t ∧ s.Replied t now r rest .done [] ∧
        t.fc = { s.fc with reference := d - raw, lastAccepted := some d } ∧
        t.di = { s.di with
          depth := d, path := ⟨⟨oX, 0, false⟩, ⟨oY, 0, false⟩⟩, anchored := true, ring := [], feedRate := 0
          openRecord := t.di.openRecord } ∧
        t.di.openRecord =
          (if 0 ≤ d then
            let k := (d / s.mp.interval).toNat;
            some
              { station := k, pass := match Log.at s.di.log k with | some old => min (old.pass + 1) 255 | none => 1
                speed := ⟨⟨0, 0⟩, ⟨0, 0⟩⟩, press := ⟨⟨0, 0⟩, ⟨0, 0⟩⟩, flow := ⟨0, 0⟩
                flags := seeded
                recovery := false, densityVolume := 0, volume := 0, attributions := 0, lastDensity := none }
          else none) ∧
        (s.di.log = [] → ∀ q, t.di.openRecord = some q → q.pass = 1) ∧
        t.sr.cutter = t.di.openRecord.map (fun q => ⟨q.station, q.pass, d⟩) ∧
        t.sr.feedCopy = (if s.di.feedRate = 0 then s.sr.feedCopy else 0) ∧
        (s.di.feedRate = 0 → t.sr.required = s.sr.required ∧ t.sr.command = s.sr.command) ∧
        t.mp = s.mp ∧ t.sl = s.sl ∧ t.tu = s.tu ∧ t.pm.unsent = s.pm.unsent ∧ t.wd.unsent = s.wd.unsent ∧
        t.params = s.params ∧ t.counters = s.counters ∧ t.sr.line = s.sr.line ∧ t.sr.vPump = s.sr.vPump ∧
        t.waiting = (s.waiting.filter fun e => !(e.cond == .depth && e.arg ≤ d)) ∧
        s.Reported t [.depth d]

/-- PANEL_CLOSE ends the panel (R42). Refused unless the panel is OPEN; then, in every mode, every WAITING entry ends
CANCELLED, the open record is discarded, the transit line is emptied into counter 9, the panel is CLOSED, and MANUAL,
AUTO and HOLD give way to STANDBY with the effects of that entry; log, offsets and header stay. -/
def Obligations.PanelClosed : Prop :=
  ∀ (s : State) (now : RunTime) (r : Request) (rest : List Request), s.Takes 0x06 0 r rest →
    let closed : Vector Nat 17 → State := fun c => { s with
      runTime := now
      counters := c
      mp := { s.mp with panel := .closed }
      di := { s.di with openRecord := none }
      sr := { s.sr with line := [], cutter := none } };
    (s.mp.panel ≠ .opened → ∃ t, exec (.panelClose now) s = .next t ∧ s.RepliedOnly t now r rest .wrongState [] ∧
      t.blocks = s.blocks) ∧
    (s.mp.panel = .opened → ∃ t, exec (.panelClose now) s = .next t ∧ s.Replied t now r rest .done [] ∧
      t.waiting = [] ∧ t.di = { s.di with openRecord := none } ∧
      (∀ n, 1 ≤ n → n ≤ 17 → t.counter n =
        if n = 9 then min (s.counter 9 + s.sr.line.length) 65535 else s.counter n) ∧
      t.blocks = (if s.mp.mode = .start ∨ s.mp.mode = .standby then closed t.counters
        else changeMode .standby (closed t.counters)).blocks ∧
      t.mp = { s.mp with panel := .closed, mode := if s.mp.mode = .start then .start else .standby } ∧
      (∀ older e newer, s.li.waits = older ++ e :: newer → e.state = .waiting → s.Granted →
        s.li.waits.length ≤ 8 → s.li.replyQueue.length + s.li.waits.length ≤ 16 →
        ⟨0x94, e.tag, .cancelled, 0, true, [], .plain⟩ ∈ t.li.replyQueue))

/-- START ends at the last arrival or at the expiry of its window (R29, R51). At the first: an arrival that leaves no
channel ABSENT, or the expiry of the running start window timer in START. The mode becomes STANDBY, the timer stops,
FC knows that START is over, and SENSOR_STALE is present if a channel is ABSENT or STALE. While a channel is ABSENT no
arrival ends START, and outside START the expiry finds nothing. -/
def Obligations.StartEnds : Prop :=
  ∀ (s : State) (now : RunTime),
    let ended : State → Prop := fun t =>
      t.runTime = now ∧ t.mp.mode = .standby ∧ t.mp.startTimer = none ∧ t.fc.startOver = true ∧
        (t.fc.sensorStale = true ↔ ∃ c : Channel, t.fresh c = false) ∧
        (t.fc.sensorStale = true → s.fc.sensorStale = false → t.source Source.sensorStale = .active);
    (∀ g, s.mp.mode = .start → s.mp.startTimer = some g → g.duration ≤ now.since g.start →
      ∃ t, exec (.startWindowExpiry now) s = .next t ∧ ended t ∧ t.fc.channels = s.fc.channels ∧ t.di = s.di ∧
        t.sl = s.sl ∧ t.params = s.params ∧ t.counters = s.counters) ∧
    (s.mp.mode ≠ .start ∨ timerDue s.mp.startTimer now = false →
      ∃ t, exec (.startWindowExpiry now) s = .next t ∧ s.LineBecomes t now s.li) ∧
    ∀ (c : Channel) (v : Int), s.mp.mode = .start → c.range.1 ≤ v → v ≤ c.range.2 →
      ((∀ d, d ≠ c → (s.chan d).state ≠ .absent) →
        ∃ t, exec (.sampleArrival (c.idx.val + 1) v now) s = .next t ∧ ended t) ∧
      ((∃ d, d ≠ c ∧ (s.chan d).state = .absent) →
        ∃ t, exec (.sampleArrival (c.idx.val + 1) v now) s = .next t ∧ t.mp.mode = .start ∧
          t.mp.startTimer = s.mp.startTimer)

/-- A sample with a channel number or value out of range is discarded and counted; any other is an arrival (R47). A
channel number outside 1..21, or a value outside the range of its channel in the table of section 3.1, increases
counter 6 and changes nothing else; every other sample stores its value and leaves counter 6 as it was. -/
def Obligations.SampleRangeTested : Prop :=
  let ranges : List (Int × Int) :=
    [(-9999, 9999), (-9999, 9999), (-9999, 9999), (-9999, 9999), (-18000, 18000), (-10000, 400000), (-600, 600),
     (-600, 600), (0, 500), (0, 500), (0, 1050), (0, 1050), (0, 1050), (0, 1050), (0, 1050), (0, 1050), (0, 1050),
     (0, 1050), (0, 100), (-10000, 10000), (900, 2000)];
  ∀ (s : State) (n : Nat) (v : Int) (now : RunTime),
    (n = 0 ∨ 21 < n ∨ (∃ rg, ranges[n - 1]? = some rg ∧ (v < rg.1 ∨ rg.2 < v)) →
      ∃ t, exec (.sampleArrival n v now) s = .next t ∧ s.BlocksBecome t now (s.count 6)) ∧
    (∀ rg, 1 ≤ n → ranges[n - 1]? = some rg → rg.1 ≤ v → v ≤ rg.2 →
      ∃ t, exec (.sampleArrival n v now) s = .next t ∧ t.counter 6 = s.counter 6 ∧
        (t.fc.channels[n - 1]?).map ChannelEntry.value = some v)

/-- An arrival updates its channel entry and no other (R48, R52). The channel numbers and ranges are those of section
3.1. For every channel: the value is stored, the window count goes up by one, ABSENT becomes FRESH with the unjudged
mark, STALE stays STALE; every other entry is as it was. For the DEPTH channel this holds unless the arrival is the
fifth rejection in a row. -/
def Obligations.ChannelArrival : Prop :=
  (([.incl .upper .x, .incl .upper .y, .incl .lower .x, .incl .lower .y, .twist, .depth, .speed .a, .speed .b,
      .press .a, .press .b, .plate 0, .plate 1, .plate 2, .plate 3, .plate 4, .plate 5, .plate 6, .plate 7, .pumpPress,
      .retFlow, .retDens] : List Channel).map fun c => (c.idx.val + 1, c.range)) =
    [(1, -9999, 9999), (2, -9999, 9999), (3, -9999, 9999), (4, -9999, 9999), (5, -18000, 18000), (6, -10000, 400000),
      (7, -600, 600), (8, -600, 600), (9, 0, 500), (10, 0, 500), (11, 0, 1050), (12, 0, 1050), (13, 0, 1050),
      (14, 0, 1050), (15, 0, 1050), (16, 0, 1050), (17, 0, 1050), (18, 0, 1050), (19, 0, 100), (20, -10000, 10000),
      (21, 900, 2000)] ∧
  ∀ (s : State) (c : Channel) (v : Int) (now : RunTime), c.range.1 ≤ v → v ≤ c.range.2 →
    ∃ t, exec (.sampleArrival (c.idx.val + 1) v now) s = .next t ∧ t.runTime = now ∧ t.pending = s.pending ∧
      t.params = s.params ∧ t.li.requestQueue = s.li.requestQueue ∧ s.sameLine t ∧
      (∀ d, d ≠ c → t.chan d = s.chan d) ∧
      (c ≠ .depth ∨ s.fc.rejections < 4 →
        t.chan c = { s.chan c with
          value := v
          windowCount := (s.chan c).windowCount + 1
          state := if (s.chan c).state = .absent then .fresh else (s.chan c).state
          unjudged := (s.chan c).unjudged || (s.chan c).state == .absent })

/-- A window end judges every channel by the table of R49 and reports each change of state to its users (R34, R49,
R50, R51, R55, R58, R84, R147, R162, R180, log entry 11, log entry 27). At the expiry every entry takes the result of
the table and window count 0, and the next window starts at once, from the last one's deadline (the model's choice,
log entry 27); before it nothing happens; power-on and restart start the timer at run time 0. All channels are judged
before any report (log entry 11). A changed inclinometer derives the slope of its axis anew; a wheel channel that
leaves FRESH stops the stall timer, a pump channel the blockage timer, a DEPTH or TWIST channel marks the open record
ESTIMATED, and the plate channel of the move in flight ends it FAILED; the DEPTH and SLOPE causes, the mode and
SENSOR_STALE follow the channels; the path, the log, the plan and the transit line stay. -/
def Obligations.WindowJudged : Prop :=
  (∀ (s : State) (now : RunTime),
    (s.fc.windowTimer.duration ≤ now.since s.fc.windowTimer.start →
      ∃ t, exec (.windowEnd now) s = .next t ∧ t.runTime = now ∧ t.pending = s.pending ∧ t.params = s.params ∧
        t.fc.windowTimer = ⟨s.fc.windowTimer.start + 1000, 1000⟩ ∧
        (∀ c : Channel, let e := s.chan c
          let enough := c.threshold ≤ e.windowCount;
          t.chan c =
            if e.state = .absent then { e with windowCount := 0 }
            else if e.unjudged = true then { e with unjudged := false, windowCount := 0 }
            else if e.state = .fresh then
              if enough then { e with windowCount := 0 } else { e with state := .stale, good := 0, windowCount := 0 }
            else if ¬enough then { e with good := 0, windowCount := 0 }
            else if e.good = 0 then { e with good := 1, windowCount := 0 }
            else { e with state := .fresh, good := 0, windowCount := 0 }) ∧
        let turned : Channel → Prop := fun c => (t.chan c).state ≠ (s.chan c).state;
        let left : Channel → Prop := fun c => s.fresh c = true ∧ t.fresh c = false;
        let tilted := ∃ (m : Mount) (a : Axis), turned (.incl m a);
        (∀ a : Axis, let old := s.fc.slopes.get a
          let new := t.fc.slopes.get a;
          let up := t.chan (.incl .upper a);
          let low := t.chan (.incl .lower a);
          let apart := s.par .disagreeTolerance < |up.value - low.value|;
          let derived := fun raw : Int => new.clamped = decide (raw < -5000 ∨ 5000 < raw) ∧
            new.slope = if raw < -5000 then -5000 else if 5000 < raw then 5000 else raw;
          (¬turned (.incl .upper a) → ¬turned (.incl .lower a) → new = old ∧ t.di.copies.get a = s.di.copies.get a) ∧
          (turned (.incl .upper a) ∨ turned (.incl .lower a) →
            t.di.copies.get a = ⟨new.slope, new.case, new.clamped, new.disagreeing⟩ ∧
            (up.state = .fresh → low.state = .fresh → new.case = .both ∧ derived (Int.tdiv (up.value + low.value) 2) ∧
              new.disagreeing = decide apart) ∧
            (up.state = .fresh → low.state ≠ .fresh → new.case = .single ∧ derived up.value) ∧
            (up.state ≠ .fresh → low.state = .fresh → new.case = .single ∧ derived low.value) ∧
            (up.state ≠ .fresh → low.state ≠ .fresh → new.case = .none ∧ new.slope = old.slope ∧
              new.clamped = old.clamped) ∧
            (new.case ≠ .both → new.disagreeing = false) ∧
            (new.disagreeing = true → new.persistent = old.persistent ∧
              new.timer = if old.disagreeing = true then old.timer
                else some ⟨now, (s.par .disagreeTime * 1000).toNat⟩) ∧
            (new.disagreeing = false → new.timer = none ∧ new.persistent = false))) ∧
        (tilted → (t.fc.inclLimit = true ↔ ∃ a, s.par .inclLimit < |(t.fc.slopes.get a).slope|)) ∧
        (¬tilted → t.fc.inclLimit = s.fc.inclLimit) ∧
        (t.fc.inclDisagree = true → s.fc.inclDisagree = true) ∧
        (tilted → (∀ a, (t.fc.slopes.get a).disagreeing = false) → t.fc.inclDisagree = false) ∧
        t.mp.holdCauses.link = s.mp.holdCauses.link ∧
        (turned .depth → t.mp.holdCauses.depth = !t.fresh .depth) ∧
        (¬turned .depth → t.mp.holdCauses.depth = s.mp.holdCauses.depth) ∧
        (tilted → (t.mp.holdCauses.slope = true ↔ ∃ a, (t.fc.slopes.get a).case = .none)) ∧
        (¬tilted → t.mp.holdCauses.slope = s.mp.holdCauses.slope) ∧
        (let free := t.mp.holdCauses = ⟨false, false, false⟩;
          (s.mp.mode = .auto → ¬free → t.mp.mode = .hold ∧ t.counter 17 = min (s.counter 17 + 1) 65535) ∧
          (s.mp.mode = .hold → free → t.mp.mode = .auto ∧ t.counter 17 = s.counter 17) ∧
          (¬(s.mp.mode = .auto ∧ ¬free) → ¬(s.mp.mode = .hold ∧ free) →
            t.mp.mode = s.mp.mode ∧ t.counter 17 = s.counter 17)) ∧
        (t.fc.sensorStale = true ↔ ∃ c, (t.chan c).state = .stale ∨
          s.fc.startOver = true ∧ (t.chan c).state = .absent) ∧
        (t.fc.sensorStale = true → s.fc.sensorStale = false → t.source Source.sensorStale = .active) ∧
        (t.fc.sensorStale = false → s.fc.sensorStale = true → s.source Source.sensorStale = .active →
          t.source Source.sensorStale = .latched) ∧
        (∀ w : WheelId, left (.speed w) ∨ left (.press w) → (t.wheel w).stallTimer = none) ∧
        (left .pumpPress ∨ left .retFlow → t.sr.blockTimer = none) ∧ t.sr.returnBlocked = s.sr.returnBlocked ∧
        (left .depth ∨ left .twist → ∀ q, t.di.openRecord = some q → q.flags.estimated = true) ∧
        (∀ m, s.pm.move = some m → left (.plate m.plate) → ¬tilted →
          t.pm.faulty.get m.plate = true ∧ min (s.counter 16 + 1) 65535 ≤ t.counter 16 ∧
          ((∀ q : Plate, s.pm.table.get q = none ∧ s.pm.urgentSnap.get q = false ∧ s.pm.trimSnap.get q = false) →
            t.pm.move = none ∧ t.counter 16 = min (s.counter 16 + 1) 65535 ∧ t.pm.targets = s.pm.targets)) ∧
        t.di.path = s.di.path ∧ t.di.depth = s.di.depth ∧ t.di.log = s.di.log ∧ t.di.ring = s.di.ring ∧
        t.di.openRecord.map OpenRecord.station = s.di.openRecord.map OpenRecord.station ∧
        t.sl = s.sl ∧ t.sr.line = s.sr.line ∧ t.sr.vPump = s.sr.vPump) ∧
    (now.since s.fc.windowTimer.start < s.fc.windowTimer.duration →
      ∃ t, exec (.windowEnd now) s = .next t ∧ s.LineBecomes t now s.li)) ∧
  (Channel.all.map Channel.threshold = [5, 5, 5, 5, 5, 5, 10, 10, 10, 10, 5, 5, 5, 5, 5, 5, 5, 5, 3, 3, 3]) ∧
  (∀ (s : State) (e g o : Level), ∃ t, exec (.powerOn e g o) s = .next t ∧ t.fc.windowTimer = ⟨0, 1000⟩) ∧
  ∀ (s : State) (k : Bool), s.li.handler = .restarting k .left →
    ∃ t, exec .moduleRestart s = .next t ∧ t.fc.windowTimer = ⟨0, 1000⟩

/-- A discrete input passes its filter (R14, R37, R53, R54, R203). A change of the raw level passes at once with a
filter time of 0 and otherwise starts the filter timer; a change back while the timer runs stops it; the expiry passes
the raw level to the filtered level. A level that does not pass changes nothing but the raw level and the timer, and a
passed level is reported to its trip source. EMERGENCY entering ACTIVE turns MANUAL, AUTO and HOLD into STANDBY; no
other passed level changes the mode, and START and STANDBY stay. TRIP waits are told of a source that enters ACTIVE,
and MODE waits of the change. -/
def Obligations.DiscreteInputFiltered : Prop :=
  ∀ (s : State) (i : InputId) (l : Level) (now : RunTime),
    let v := s.input i;
    let active : Level := match i with
      | .emergencyIn => .deEnergised
      | .gearPressLow | .oilHot => .energised;
    let source : Source := match i with
      | .emergencyIn => 12
      | .gearPressLow => 6
      | .oilHot => 7;
    let time := match i with
      | .emergencyIn => s.par .emergencyFilter
      | .gearPressLow => s.par .gearFilter
      | .oilHot => s.par .oilFilter;
    let becomes : Instr → DiscreteInput → Prop := fun c w =>
      ∃ t, exec c s = .next t ∧ s.BlocksBecome t now (s.putInput i w);
    let passes : Instr → Level → Prop := fun c l =>
      ∃ t, exec c s = .next t ∧ t.runTime = now ∧ t.pending = s.pending ∧ t.input i = ⟨l, l, none⟩ ∧
        (∀ j, j ≠ i → t.input j = s.input j) ∧ t.fc.channels = s.fc.channels ∧ t.di = s.di ∧ t.params = s.params ∧
        t.source source =
          (if l = active then .active else if s.source source = .active then .latched else s.source source) ∧
        (∀ j, j ≠ source → t.source j = s.source j) ∧
        let trips := l = active ∧ s.source source ≠ .active;
        let stops := trips ∧ i = .emergencyIn ∧ (s.mp.mode = .manual ∨ s.mp.mode = .auto ∨ s.mp.mode = .hold);
        t.mp = { s.mp with mode := if stops then .standby else s.mp.mode } ∧
          s.Reported t ((if trips then [.trip source] else []) ++ if stops then [.mode .standby] else []);
    (v.raw = l → becomes (.discreteInputChange i l now) v) ∧
    (v.raw ≠ l → v.timer ≠ none → becomes (.discreteInputChange i l now) { v with raw := l, timer := none }) ∧
    (v.raw ≠ l → v.timer = none → l ≠ v.filtered →
      (time = 0 → passes (.discreteInputChange i l now) l) ∧
      (time ≠ 0 → becomes (.discreteInputChange i l now) { v with raw := l, timer := some ⟨now, time.toNat⟩ })) ∧
    (∀ g, v.timer = some g →
      (g.duration ≤ now.since g.start → passes (.filterTimerExpiry i now) v.raw) ∧
      (now.since g.start < g.duration → becomes (.filterTimerExpiry i now) v))

/-- An inclinometer arrival derives the slope of its axis (R34, R55, R56, R57, R58, R59, R60, R66). For either channel
of an axis: case, slope, clamped mark, disagreeing mark and timer by the tables of R55 to R58 from the channels as the
arrival leaves them; the copy goes to DI; INCL_LIMIT is present exactly while a slope is beyond the limit,
INCL_DISAGREE is lost when neither axis disagrees, and the SLOPE cause follows the availability, by which MP, as R34
says, turns AUTO into HOLD, counted in counter 17, or HOLD into AUTO. The other axis, the offsets and the depth stay.
-/
def Obligations.SlopeDerived : Prop :=
  ∀ (s : State) (m : Mount) (a : Axis) (v : Int) (now : RunTime), -9999 ≤ v → v ≤ 9999 →
    ∃ t, exec (.sampleArrival ((Channel.incl m a).idx.val + 1) v now) s = .next t ∧
      let old := s.fc.slopes.get a;
      let new := t.fc.slopes.get a;
      let up := t.chan (.incl .upper a);
      let low := t.chan (.incl .lower a);
      let derived := fun raw : Int => new.clamped = decide (raw < -5000 ∨ 5000 < raw) ∧
        new.slope = if raw < -5000 then -5000 else if 5000 < raw then 5000 else raw;
      let apart := s.par .disagreeTolerance < |up.value - low.value|;
      (up.state = .fresh → low.state = .fresh → new.case = .both ∧ derived (Int.tdiv (up.value + low.value) 2) ∧
        new.disagreeing = decide apart) ∧
      (up.state = .fresh → low.state ≠ .fresh → new.case = .single ∧ derived up.value) ∧
      (up.state ≠ .fresh → low.state = .fresh → new.case = .single ∧ derived low.value) ∧
      (up.state ≠ .fresh → low.state ≠ .fresh → new.case = .none ∧ new.slope = old.slope ∧
        new.clamped = old.clamped) ∧
      (new.case ≠ .both → new.disagreeing = false) ∧
      (new.disagreeing = true → old.disagreeing = false →
        new.timer = some ⟨now, (s.par .disagreeTime * 1000).toNat⟩ ∧ new.persistent = old.persistent) ∧
      (new.disagreeing = true → old.disagreeing = true → new.timer = old.timer ∧ new.persistent = old.persistent) ∧
      (new.disagreeing = false → new.timer = none ∧ new.persistent = false) ∧
      (∀ b, b ≠ a → t.fc.slopes.get b = s.fc.slopes.get b ∧ t.di.copies.get b = s.di.copies.get b) ∧
      t.di.copies.get a = ⟨new.slope, new.case, new.clamped, new.disagreeing⟩ ∧
      (t.fc.inclLimit = true ↔ ∃ b, s.par .inclLimit < |(t.fc.slopes.get b).slope|) ∧
      (t.fc.inclDisagree = true ↔ s.fc.inclDisagree = true ∧ ∃ b, (t.fc.slopes.get b).disagreeing = true) ∧
      (t.mp.holdCauses.slope = true ↔ ∃ b, (t.fc.slopes.get b).case = .none) ∧
      t.mp.holdCauses = { s.mp.holdCauses with slope := t.mp.holdCauses.slope } ∧ s.HoldTested t ∧
      t.di.path = s.di.path ∧ t.di.depth = s.di.depth ∧ t.di.log = s.di.log ∧ t.di.ring = s.di.ring ∧
      t.sl.plan = s.sl.plan ∧ t.params = s.params

/-- The disagreement timer and the twist limit (R59, R60). The expiry of an axis's disagreement timer sets its
persistent mark and makes INCL_DISAGREE present if it was not, its source then ACTIVE; a TWIST arrival makes
TWIST_LIMIT present exactly while its magnitude is beyond the limit as it stands, and changes neither slope. -/
def Obligations.WatchesOfFieldChannels : Prop :=
  ∀ (s : State) (now : RunTime),
    (∀ a g, (s.fc.slopes.get a).timer = some g →
      (g.duration ≤ now.since g.start →
        ∃ t, exec (.disagreementTimerExpiry a now) s = .next t ∧ t.runTime = now ∧ t.pending = s.pending ∧
          t.fc = { s.fc with
            slopes := s.fc.slopes.set a { s.fc.slopes.get a with timer := none, persistent := true }
            inclDisagree := true } ∧
          (s.fc.inclDisagree = true → t.li = s.li ∧ t.tu = s.tu) ∧
          (s.fc.inclDisagree = false → t.source Source.inclDisagree = .active) ∧ t.di = s.di ∧ t.params = s.params) ∧
      (now.since g.start < g.duration →
        ∃ t, exec (.disagreementTimerExpiry a now) s = .next t ∧ s.LineBecomes t now s.li)) ∧
    ∀ v : Int, -18000 ≤ v → v ≤ 18000 →
      ∃ t, exec (.sampleArrival 5 v now) s = .next t ∧ t.fc.slopes = s.fc.slopes ∧
        (t.fc.twistLimit = true ↔ s.par .twistLimit < |v|) ∧
        (s.fc.twistLimit = false → t.fc.twistLimit = true → t.source Source.twistLimit = .active) ∧
        t.di.path = s.di.path ∧ t.di.log = s.di.log ∧ t.params = s.params

/-- A DEPTH arrival is rejected, held or accepted (R29, R33, R34, R40, R48, R61, R62, R63, R64, R67, R68, log entry
26). Out of range, or beyond the max step from the last accepted depth outside recovery: rejected, counted in counter
5, and the fifth in a row forces the channel STALE with the recovery mark and a rejection count of 0; if it was not
STALE before, the DEPTH cause is then present, and AUTO becomes HOLD, counted in counter 17. At any other arrival the
causes stay, but that the first one on an ABSENT channel ends the DEPTH cause, and AUTO and HOLD follow R34. In
recovery on a STALE channel: held. Otherwise accepted: it becomes the last accepted depth and, but in START with an
OPEN panel, DI's integrated depth; a path that is not anchored is anchored there, with offsets, residues, flags, log
and closure mark as they stand and the station that contains the depth open, or none below 0. (An OPEN panel in START
keeps DI's depth also at the DEPTH arrival that ends START, because the arrival is passed to its users before MP tests
for the end of START: DEDUCED, unsafe, log entry 26.) -/
def Obligations.DepthAccepted : Prop :=
  ∀ (s : State) (raw : Int) (now : RunTime), -10000 ≤ raw → raw ≤ 400000 →
    let candidate := raw + s.fc.reference;
    let outside := candidate < -5000 ∨ 300000 < candidate;
    let far := ∃ last, s.fc.lastAccepted = some last ∧ s.par .depthMaxStep < |candidate - last|;
    let recovering := s.fc.recovery = true ∧ s.fc.lastAccepted ≠ none;
    let was := (s.chan .depth).state;
    let causes := s.mp.holdCauses;
    let fifth := (outside ∨ ¬recovering ∧ far) ∧ 4 ≤ s.fc.rejections;
    ∃ t, exec (.sampleArrival 6 raw now) s = .next t ∧ t.fc.reference = s.fc.reference ∧
      (let modeStays := t.mp.mode = s.mp.mode ∨ s.mp.mode = .start ∧ t.mp.mode = .standby;
        (fifth → was ≠ .stale → t.mp.holdCauses = { causes with depth := true } ∧
          (s.mp.mode = .auto → t.mp.mode = .hold ∧ t.counter 17 = min (s.counter 17 + 1) 65535) ∧
          (s.mp.mode = .hold → t.mp.mode = .hold ∧ t.counter 17 =
            if was = .absent ∧ causes.link = false ∧ causes.slope = false then min (s.counter 17 + 1) 65535
            else s.counter 17) ∧
          (s.mp.mode ≠ .auto → s.mp.mode ≠ .hold → modeStays ∧ t.counter 17 = s.counter 17)) ∧
        (¬fifth → was = .absent → t.mp.holdCauses = { causes with depth := false } ∧ s.HoldTested t) ∧
        ((fifth → was = .stale) → was ≠ .absent →
          t.mp.holdCauses = causes ∧ modeStays ∧ t.counter 17 = s.counter 17)) ∧
      (outside ∨ ¬recovering ∧ far →
        t.fc.lastAccepted = s.fc.lastAccepted ∧ t.fc.lastRaw = s.fc.lastRaw ∧ t.fc.accepted = s.fc.accepted ∧
        t.counter 5 = min (s.counter 5 + 1) 65535 ∧ t.di.path = s.di.path ∧ t.di.depth = s.di.depth ∧
        t.di.log = s.di.log ∧
        (s.fc.rejections < 4 → t.fc.rejections = s.fc.rejections + 1 ∧ t.fc.recovery = s.fc.recovery) ∧
        (4 ≤ s.fc.rejections → t.fc.rejections = 0 ∧ t.fc.recovery = true ∧ (t.chan .depth).state = .stale ∧
          (t.chan .depth).good = 0 ∧ (t.chan .depth).unjudged = true ∧
          ((s.chan .depth).state ≠ .stale → t.fc.sensorStale = t.sensorStaleNow))) ∧
      (¬outside → recovering → (s.chan .depth).state = .stale →
        t.fc.lastAccepted = s.fc.lastAccepted ∧ t.fc.lastRaw = s.fc.lastRaw ∧ t.fc.rejections = s.fc.rejections ∧
        t.fc.accepted = s.fc.accepted ∧ t.fc.recovery = true ∧ t.counter 5 = s.counter 5 ∧ t.di = s.di) ∧
      (¬outside → (recovering → (s.chan .depth).state ≠ .stale) → (¬recovering → ¬far) →
        t.fc.lastAccepted = some candidate ∧ t.fc.lastRaw = some raw ∧ t.fc.rejections = 0 ∧
        t.fc.recovery = false ∧ t.fc.accepted = true ∧ t.counter 5 = s.counter 5 ∧
        (s.mp.panel = .opened → s.mp.mode = .start → t.di.depth = s.di.depth ∧ t.di.path = s.di.path) ∧
        (s.mp.panel ≠ .opened → t.di.depth = candidate ∧ t.di.path = s.di.path) ∧
        (s.mp.panel = .opened → s.mp.mode ≠ .start → t.di.depth = candidate ∧ t.di.anchored = true) ∧
        (s.mp.panel = .opened → s.mp.mode ≠ .start → s.di.anchored = false →
          t.di.path = s.di.path ∧ t.di.log = s.di.log ∧ t.di.closure = s.di.closure ∧
          t.di.openRecord.map OpenRecord.station =
            if 0 ≤ candidate then some (candidate / s.mp.interval).toNat else none))

/-- A piece moves an offset by the floor of its total and keeps the remainder, or saturates (R69, R76). For every
slope, depth change, offset and residue: the total's floor over 100 is added and the remainder kept, in 0..99, unless
the offset would leave its limits, where it is held with residue 0 and the saturation flag set for good. DI integrates
both axes so, each with its own slope copy. -/
def Obligations.PieceIntegrated : Prop :=
  (∀ (p : AxisPath) (slope delta : Int),
    let total := slope * delta + p.residue;
    let moved := p.offset + total / 100;
    let q := p.piece slope delta;
    (-2000000 ≤ moved → moved ≤ 2000000 →
      q = ⟨moved, total - 100 * (total / 100), p.saturated⟩ ∧ 0 ≤ q.residue ∧ q.residue ≤ 99) ∧
    (2000000 < moved → q = ⟨2000000, 0, true⟩) ∧ (moved < -2000000 → q = ⟨-2000000, 0, true⟩)) ∧
  ∀ (d : Int) (s : State), d ≠ s.di.depth →
    integrateTo d s = { s with di := { s.di with
      depth := d
      path := ⟨s.di.path.x.piece s.di.copies.x.slope (d - s.di.depth),
        s.di.path.y.piece s.di.copies.y.slope (d - s.di.depth)⟩ } }

/-- A depth event integrates the path exactly, writes the station records that it crosses and, in AUTO, steers (R67,
R69, R70, R71, R72, R74, R75, R76, R85, R86, R89, R117). At an accepted depth, recovery steps included, with the panel
OPEN, outside START, on an anchored path: the integrated depth is the accepted depth, and for each axis that is not
saturated after it, 100 x offset + residue has grown by slope x depth change, however many boundaries cut the step;
the residue of a path in range stays in 0..99 and the offset in its limits; a saturation flag is never cleared. DI
holds what the step leaves (path, log, closure mark, open record, with the recovery mark after a recovery step) but
for the feed-rate ring; SR holds the open station and the depth; the STATION waits that a record of the step meets
have ended, and the DEPTH waits that a changed depth meets, and no other of either. On a channel that was not ABSENT,
what SL, PM, WD and the counters hold is what the steering law leaves at the step's end, and LI has taken the reports
of both. (The ring and the feed rate, after a recovery step too, are those of FeedRateRing.) -/
def Obligations.PathExact : Prop :=
  ∀ (s : State) (raw last : Int) (now : RunTime),
    let d := raw + s.fc.reference;
    let recovery := s.fc.recovery;
    -10000 ≤ raw → raw ≤ 400000 → -5000 ≤ d → d ≤ 300000 → s.fc.lastAccepted = some last →
    (if recovery = true then (s.chan .depth).state ≠ .stale else abs (d - last) ≤ s.par .depthMaxStep) →
    s.mp.panel = .opened → s.mp.mode ≠ .start → s.di.anchored = true →
    ∃ t, exec (.sampleArrival 6 raw now) s = .next t ∧ t.di.depth = d ∧ t.di.copies = s.di.copies ∧
      (∀ a : Axis, let p := s.di.path.get a
        let q := t.di.path.get a;
        (q.saturated = false →
          100 * q.offset + q.residue = 100 * p.offset + p.residue + (s.di.copies.get a).slope * (d - s.di.depth)) ∧
        (p.saturated = true → q.saturated = true) ∧ (p.InRange → q.InRange)) ∧
      let u := { s with
        runTime := now, mp := t.mp, fc := { s.fc with channels := t.fc.channels }
        reports := [], plateBusy := s.pm.busy };
      let v := takeStep d recovery u;
      t.di = { v.di with
        ring := t.di.ring, feedRate := t.di.feedRate
        openRecord := v.di.openRecord.map fun q => { q with recovery := q.recovery || recovery } } ∧
      t.sr.cutter = v.di.openRecord.map (fun q => ⟨q.station, q.pass, d⟩) ∧
      (t.waiting.filter fun e => e.cond == .station) = (s.waiting.filter fun e => e.cond == .station &&
        !(v.reports.any fun p => match p with
          | .station q => e.arg == -1 || e.arg == (q.index : Int)
          | _ => false)) ∧
      (t.waiting.filter fun e => e.cond == .depth) =
        (s.waiting.filter fun e => e.cond == .depth && !(d != s.di.depth && e.arg ≤ d)) ∧
      ((s.chan .depth).state ≠ .absent →
        let w := steerAtDepth (if d = s.di.depth then v else { v with reports := v.reports ++ [.depth d] });
        t.li = (takeReports w).li ∧ t.mp = s.mp ∧ t.sl = w.sl ∧ t.pm.unsent = w.pm.unsent ∧
          t.wd.unsent = w.wd.unsent ∧ t.counters = w.counters)

/-- A boundary crossed going down closes the station above it and opens the one below (R72, R80, R81, R84, R85, R87,
R88, R89, log entry 16). The station record holds what R85, R87 and R88 take from the open record and from the state
at the boundary; within 0..511 it is stored in the place of its index and reported, with every other place as it was,
and above 511 it is counted in counter 7; the closure mark is set, and the next station's record stands open, reset
with the pass that the log gives and the flags that R84 seeds. (That the saturation flags are read after the piece
that reaches the boundary and before the next one is the model's choice, log entry 16.) -/
def Obligations.StationClosed : Prop :=
  ∀ (s : State) (r : OpenRecord) (b : Int) (recovery : Bool), s.di.openRecord = some r → 0 < s.mp.interval →
    s.mp.interval ≤ b →
    let k := (b / s.mp.interval - 1).toNat;
    let path := (integrateTo b s).di.path;
    let mean := fun (y : Tally) (last : Int) => if y.count = 0 then last else (2 * y.sum + y.count) / (2 * y.count);
    let top := fun (y : Peak) (last : Int) => if y.count = 0 then last else y.largest;
    let kind := ((s.sl.plan.find? fun c => c.top ≤ b && b < c.bottom).map Band.kind).getD .steer;
    let q : StationRecord :=
      { index := k
        pass := r.pass
        flags :=
          { estimated := r.flags.estimated || recovery || r.recovery
            single := r.flags.single
            disagree := r.flags.disagree
            suppressed := kind == .suppress
            saturated := r.flags.saturated || path.x.saturated || path.y.saturated
            auto := s.mp.mode == .auto }
        closedAt := s.runTime
        offsets := ⟨path.x.offset, path.y.offset⟩
        slopes := ⟨s.di.copies.x.slope, s.di.copies.y.slope⟩
        twist := s.value .twist
        meanSpeed := ⟨mean r.speed.a (s.value (.speed .a)), mean r.speed.b (s.value (.speed .b))⟩
        maxPress := ⟨top r.press.a (s.value (.press .a)), top r.press.b (s.value (.press .b))⟩
        plateTargets := s.pm.targets
        meanFlow := mean r.flow (s.value .retFlow)
        density :=
          if r.attributions = 0 then none
          else if 0 < r.volume then some ((2 * r.densityVolume + r.volume) / (2 * r.volume)) else r.lastDensity
        volume := if r.attributions = 0 then 0 else r.volume };
    let t := crossDown recovery s b;
    (k ≤ 511 → Log.at t.di.log k = some q ∧ (∀ j, j ≠ k → Log.at t.di.log j = Log.at s.di.log j) ∧
      t.reports = s.reports ++ [.station q] ∧ t.counters = s.counters) ∧
    (511 < k → t.di.log = s.di.log ∧ t.reports = s.reports ∧ t.counter 7 = min (s.counter 7 + 1) 65535) ∧
    t.di.closure = true ∧
    t.di.openRecord = some
      { station := k + 1
        pass := match Log.at t.di.log (k + 1) with | some old => min (old.pass + 1) 255 | none => 1
        speed := ⟨⟨0, 0⟩, ⟨0, 0⟩⟩, press := ⟨⟨0, 0⟩, ⟨0, 0⟩⟩, flow := ⟨0, 0⟩
        flags :=
          let x := s.di.copies.x;
          let y := s.di.copies.y;
          { estimated := x.case == .none || y.case == .none || !s.fresh .depth || !s.fresh .twist
            single := x.case == .single || y.case == .single
            disagree := x.disagreeing || y.disagreeing
            saturated := x.clamped || y.clamped }
        recovery := false, densityVolume := 0, volume := 0, attributions := 0, lastDensity := none }

/-- A step closes the stations that it crosses going down, in depth order, and none going up (R71, R72, R73, R86,
R89). From a depth whose station stands open: a step down reports the closures of exactly the stations between the two
depths, from 0 to 511, in increasing index; a step up reports none and leaves the log and the closure mark; either way
the station that contains the new depth stands open, or none below 0. -/
def Obligations.StepCrossesStations : Prop :=
  ∀ (s : State) (d : Int) (recovery : Bool), 0 < s.mp.interval →
    let i := s.mp.interval;
    let station := fun x : Int => if 0 ≤ x then some (x / i).toNat else none;
    s.di.openRecord.map OpenRecord.station = station s.di.depth →
    let t := takeStep d recovery s;
    t.di.depth = d ∧ t.di.openRecord.map OpenRecord.station = station d ∧
    (s.di.depth ≤ d → ∃ closed : List StationRecord, t.reports = s.reports ++ closed.map Report.station ∧
      closed.map (fun q => (q.index : Int)) =
        ((List.range (d / i - s.di.depth / i).toNat).map fun j => s.di.depth / i + (j : Int)).filter
          fun k => 0 ≤ k ∧ k ≤ 511) ∧
    (d < s.di.depth → t.reports = s.reports ∧ t.di.log = s.di.log ∧ t.di.closure = s.di.closure ∧
      t.counters = s.counters)

/-- The feed-rate ring takes the first accepted depth of a second, and the feed rate follows it (R74, R75, R78, R79,
R173, log entry 17). At every accepted depth, the first one and a recovery step included, in every mode and panel
state: a recovery step empties the ring and sets the feed rate to 0 first; then an entry is appended, the oldest of 10
leaving first, if the ring is empty or its newest entry lies in another whole second, and the feed rate is formed anew
from the oldest and newest entries, 0..2,000 mm/min; otherwise ring and rate stay. The feed rate is handed to SR,
which forms the required flow from it, when it has changed. (That a depth accepted out of recovery empties the ring in
every mode and panel state, where R79 speaks of a recovery step, is the model's choice, log entry 17.) -/
def Obligations.FeedRateRing : Prop :=
  ∀ (s : State) (raw : Int) (now : RunTime),
    let d := raw + s.fc.reference;
    let far := ∃ last, s.fc.lastAccepted = some last ∧ s.par .depthMaxStep < |d - last|;
    let recovering := s.fc.recovery = true ∧ s.fc.lastAccepted ≠ none;
    -10000 ≤ raw → raw ≤ 400000 → -5000 ≤ d → d ≤ 300000 → (recovering → (s.chan .depth).state ≠ .stale) →
    (¬recovering → ¬far) →
    let ring := if recovering then [] else s.di.ring;
    ∃ t, exec (.sampleArrival 6 raw now) s = .next t ∧
      ((∃ e, ring.getLast? = some e ∧ e.time.toNat / 1000 = now.toNat / 1000) →
        t.di.ring = ring ∧ t.di.feedRate = s.di.feedRate) ∧
      ((∀ e, ring.getLast? = some e → e.time.toNat / 1000 ≠ now.toNat / 1000) →
        t.di.ring = (if ring.length < 10 then ring else ring.tail) ++ [⟨now, d⟩] ∧
        (ring = [] → t.di.feedRate = 0) ∧
        ∀ oldest, ring ≠ [] → t.di.ring.head? = some oldest →
          let quotient := (d - oldest.depth) * 60000 / (now - oldest.time).toNat;
          t.di.feedRate = if quotient < 0 then 0 else if 2000 < quotient then 2000 else quotient) ∧
      t.sr.feedCopy = (if t.di.feedRate = s.di.feedRate then s.sr.feedCopy else t.di.feedRate) ∧
      (t.mp.mode = s.mp.mode → t.sr.required =
        if t.di.feedRate = s.di.feedRate then s.sr.required
        else
          let flow := s.par .baseFlow +
            s.mp.cutArea * (if s.mp.mode = .auto then t.di.feedRate else 0) * s.par .carry / 1000000;
          let most := s.par .pumpMaxRpm * s.par .displacement / 1000;
          if flow < 0 then 0 else if most < flow then most else flow)

/-- The open record gathers every wheel speed and pressure that arrives, and the return flow (R83, log entry 18). A
SPEED or PRESS arrival, whatever the channel's state, adds to its sum and count or raises its peak and count, the
count standing still at 16,777,215 for a sum, and changes nothing else of DI; a RET_FLOW arrival adds to the flow's
sum and count while the transit line is empty (with parcels it may also carry attributions). (That the cap stops a
mean's sum and count, and that a pressure peak goes on rising once its count stands at 16,777,215, is DEDUCED, log
entry 18.) -/
def Obligations.StatisticsGathered : Prop :=
  ∀ (s : State) (w : WheelId) (v : Int) (now : RunTime),
    let full := 16777215;
    let added := fun y : Tally => if y.count < full then Tally.mk (y.sum + v) (y.count + 1) else y;
    let raised := fun y : Peak =>
      Peak.mk (if y.count = 0 ∨ y.largest < v then v else y.largest) (min (y.count + 1) full);
    (-600 ≤ v → v ≤ 600 → ∃ t, exec (.sampleArrival ((Channel.speed w).idx.val + 1) v now) s = .next t ∧
      t.di = { s.di with
        openRecord := s.di.openRecord.map fun r => { r with speed := r.speed.set w (added (r.speed.get w)) } }) ∧
    (0 ≤ v → v ≤ 500 → ∃ t, exec (.sampleArrival ((Channel.press w).idx.val + 1) v now) s = .next t ∧
      t.di = { s.di with
        openRecord := s.di.openRecord.map fun r => { r with press := r.press.set w (raised (r.press.get w)) } }) ∧
    (-10000 ≤ v → v ≤ 10000 → s.sr.line = [] → ∃ t, exec (.sampleArrival 20 v now) s = .next t ∧
      t.di = { s.di with openRecord := s.di.openRecord.map fun r => { r with flow := added r.flow } })

/-- An attribution goes to the open record, to the logged record of its pass, or is discarded (R92, R93). The four
tests of R92 in order: not OPEN, discarded and counted; the open record of that station and pass, accepted there; the
logged record of that index and pass, weighted by R93 with density and volume alone changed and every other place of
the log as it was; otherwise discarded and counted. Each acceptance is reported. -/
def Obligations.AttributionTaken : Prop :=
  ∀ (s : State) (k pass : Nat) (density : Int) (volume : Nat),
    let t := attribution k pass density volume s;
    let isOpen := ∃ r, s.di.openRecord = some r ∧ r.station = k ∧ r.pass = pass;
    let logged := ∃ q, Log.at s.di.log k = some q ∧ q.pass = pass;
    (s.mp.panel ≠ .opened ∨ ¬isOpen ∧ ¬logged → t = s.count 10) ∧
    (∀ r, s.mp.panel = .opened → s.di.openRecord = some r → r.station = k → r.pass = pass →
      t = { s with
        di := { s.di with openRecord := some { r with
          densityVolume := r.densityVolume + density * volume
          volume := r.volume + volume
          attributions := r.attributions + 1
          lastDensity := some density } }
        reports := s.reports ++ [.attributed k] }) ∧
    (∀ q, s.mp.panel = .opened → ¬isOpen → Log.at s.di.log k = some q → q.pass = pass →
      let total : Nat := q.volume + volume;
      let weighed :=
        match q.density with
        | none => { q with density := some density, volume := volume }
        | some old =>
          if 0 < total then
            { q with
              density := some ((2 * (old * q.volume + density * volume) + total) / (2 * total)), volume := total }
          else { q with density := some density, volume := 0 };
      t = { s with di := { s.di with log := t.di.log }, reports := s.reports ++ [.attributed k] } ∧
        Log.at t.di.log k = some weighed ∧ ∀ j, j ≠ k → Log.at t.di.log j = Log.at s.di.log j)

/-- PLAN_OPEN begins a load, PLAN_CLOSE ends it, and the load timer discards it (R104, R105, R108, R111, R112, R113).
A count outside 1..16 is BAD_VALUE and restarts the timer of an open load; a valid count begins a load anew, a load
already open being counted in counter 4. PLAN_CLOSE is WRONG_STATE without a load; a complete load replaces the plan
whole, with the version one higher as reply data; a short one is discarded, PLAN_ABORTED, and counted. At its expiry
the load is discarded and counted without a reply. Nothing else changes. -/
def Obligations.PlanLoadOpenedAndClosed : Prop :=
  ∀ (s : State) (now : RunTime),
    let timer := Timer.mk now 30000;
    (∀ r rest, s.Takes 0x0E 1 r rest →
      let n := byteAt r.body 0;
      (n = 0 ∨ 16 < n → ∃ t, exec (.planOpen now) s = .next t ∧ s.RepliedOnly t now r rest .badValue [] ∧
        t.blocks = { s.blocks with sl := { s.sl with load := s.sl.load.map fun l => { l with timer := timer } } }) ∧
      (1 ≤ n → n ≤ 16 → ∃ t, exec (.planOpen now) s = .next t ∧ s.RepliedOnly t now r rest .done [] ∧
        t.blocks = { (if s.sl.load = none then s else s.count 4).blocks with
          sl := { s.sl with load := some ⟨n, [], timer⟩ } })) ∧
    (∀ r rest, s.Takes 0x10 0 r rest →
      (s.sl.load = none → ∃ t, exec (.planClose now) s = .next t ∧ s.RepliedOnly t now r rest .wrongState [] ∧
        t.blocks = s.blocks) ∧
      ∀ l, s.sl.load = some l →
        (l.staged.length = l.declared → ∃ t, exec (.planClose now) s = .next t ∧
          s.RepliedOnly t now r rest .done (encodeBits 2 (s.sl.version + 1)) ∧
          t.blocks = { s.blocks with
            sl := { s.sl with plan := l.staged, version := s.sl.version + 1, load := none } }) ∧
        (l.staged.length < l.declared → ∃ t, exec (.planClose now) s = .next t ∧
          s.RepliedOnly t now r rest .planAborted [] ∧
          t.blocks = { (s.count 4).blocks with sl := { s.sl with load := none } })) ∧
    (∀ l, s.sl.load = some l → l.timer.duration ≤ now.since l.timer.start →
      ∃ t, exec (.loadTimerExpiry now) s = .next t ∧ t.runTime = now ∧ t.pending = s.pending ∧ t.li = s.li ∧
        t.blocks = { (s.count 4).blocks with sl := { s.sl with load := none } }) ∧
    ((∀ l, s.sl.load = some l → now.since l.timer.start < l.timer.duration) →
      ∃ t, exec (.loadTimerExpiry now) s = .next t ∧ s.LineBecomes t now s.li)

/-- PLAN_BAND makes the tests of R106 in order and stages the clamped band (R106, R107). WRONG_STATE without a load;
with one its timer is restarted, and a full list, an index out of turn, a kind above 1, a top not less than the bottom
and a top above the last bottom, after clamping, are each BAD_VALUE; otherwise the band is appended with its fields
clamped to the ranges of R98, DONE_CLAMPED if one was, without reply data. -/
def Obligations.PlanBandStaged : Prop :=
  ∀ (s : State) (now : RunTime) (r : Request) (rest : List Request), s.Takes 0x0F 42 r rest →
    (s.sl.load = none → ∃ t, exec (.planBand now) s = .next t ∧ s.RepliedOnly t now r rest .wrongState [] ∧
      t.blocks = s.blocks) ∧
    ∀ l, s.sl.load = some l →
      let becomes : Result → List Band → Prop := fun res staged =>
        ∃ t, exec (.planBand now) s = .next t ∧ s.RepliedOnly t now r rest res [] ∧
          t.blocks = { s.blocks with sl := { s.sl with load := some ⟨l.declared, staged, ⟨now, 30000⟩⟩ } };
      let limit := fun lo hi v : Int => if v < lo then lo else if hi < v then hi else v;
      let s4 := fun off => signedAt r.body off 4;
      let u := fun off n => (unsignedAt r.body off n : Int);
      let kind := if byteAt r.body 1 = 0 then BandKind.steer else .suppress;
      let b : Band :=
        { index := byteAt r.body 0, kind := kind, top := limit (-5000) 300001 (s4 2)
          bottom := limit (-5000) 300001 (s4 6), tX := limit (-2000000) 2000000 (s4 10)
          tY := limit (-2000000) 2000000 (s4 14), dbX := limit 0 500000 (u 18 4), dbY := limit 0 500000 (u 22 4)
          dbTwist := limit 0 3000 (u 26 2), gainY := limit 0 1000 (u 28 2), gainX := limit 0 1000 (u 30 2)
          gainW := limit 0 100 (u 32 2), endThr := limit 0 2000000 (u 34 4), twistGain := limit 0 500 (u 38 2)
          lookahead := limit 0 5000 (u 40 2) };
      let asSent := b.top = s4 2 ∧ b.bottom = s4 6 ∧ b.tX = s4 10 ∧ b.tY = s4 14 ∧ b.dbX = u 18 4 ∧ b.dbY = u 22 4 ∧
        b.dbTwist = u 26 2 ∧ b.gainY = u 28 2 ∧ b.gainX = u 30 2 ∧ b.gainW = u 32 2 ∧ b.endThr = u 34 4 ∧
        b.twistGain = u 38 2 ∧ b.lookahead = u 40 2;
      if l.staged.length = l.declared ∨ byteAt r.body 0 ≠ l.staged.length ∨ 1 < byteAt r.body 1 ∨
          b.bottom ≤ b.top ∨ (∃ last ∈ l.staged.getLast?, b.top < last.bottom) then becomes .badValue l.staged
      else becomes (if asSent then .done else .doneClamped) (l.staged ++ [b])

/-- The steering law at a depth event (R77, R100, R101, R102, R103, R118, R158, R159, 07_steering_law.md, R119 to
R126). Outside AUTO nothing; in AUTO the band of the plan that covers the depth, else the default band, which the
eleven parameters of R100 form. A STEER band gives each plate the floor of its Y, twist and end components, clamped to
0..100, and the differential of the signed excess within its limit; WD applies it while both wheels run, and forms
both targets anew by R159 when the applied differential changes; PM gets, in ascending order, a request for each plate
whose demand is the hysteresis or more from its target, URGENT for the plates that serve a twist beyond the urgent
threshold. A SUPPRESS band sets and sends the differential 0 and keeps the plate demands. -/
def Obligations.SteeringLaw : Prop :=
  ∀ s : State,
    let default : Band :=
      { index := 0, kind := .steer, top := 0, bottom := 0, tX := s.par .defTX, tY := s.par .defTY
        dbX := s.par .defDbX, dbY := s.par .defDbY, dbTwist := s.par .defDbTwist, gainY := s.par .defGainY
        gainX := s.par .defGainX, gainW := s.par .defGainW, endThr := s.par .defEndThr
        twistGain := s.par .defTwistGain, lookahead := s.par .defLookahead };
    let b := (s.sl.plan.find? fun c => c.top ≤ s.di.depth && s.di.depth < c.bottom).getD default;
    let t := steerAtDepth s;
    let apply := fun d : Int =>
      if s.mp.mode = .auto ∧ (s.wheel .a).state = .running ∧ (s.wheel .b).state = .running then d else 0;
    let within := fun lo hi v : Int => if v < lo then lo else if hi < v then hi else v;
    let error := fun (o : AxisPath) (c : SlopeCopy) (target : Int) =>
      within (-2000000) 2000000 (o.offset + Int.tdiv (c.slope * b.lookahead) 100) - target;
    let eX := error s.di.path.x s.di.copies.x b.tX;
    let eY := error s.di.path.y s.di.copies.y b.tY;
    let twist := if s.fresh .twist then s.value .twist else 0;
    let part := fun (e dead gain scale : Int) => if abs e - dead ≤ 0 then 0 else (abs e - dead) * gain / scale;
    let y := part eY b.dbY b.gainY 100000;
    let w := part twist b.dbTwist b.twistGain 100;
    let e := part eX b.endThr b.gainX 100000;
    let sum : Plate → Int := fun p =>
      match p.val + 1 with
      | 1 => (if 0 < eY then y else 0) + (if twist < 0 then w else 0)
      | 2 => (if 0 < eY then y else 0) + (if 0 < twist then w else 0)
      | 3 => (if eY < 0 then y else 0) + (if 0 < twist then w else 0)
      | 4 => (if eY < 0 then y else 0) + (if twist < 0 then w else 0)
      | 5 | 6 => if eX < 0 then e else 0
      | _ => if 0 < eX then e else 0;
    let demand := fun p => within 0 100 (sum p);
    let serves : Plate → Bool := fun p =>
      (0 < twist && (p == Plate.fr || p == Plate.rl)) || (twist < 0 && (p == Plate.fl || p == Plate.rr));
    let excess := if b.dbX < eX then eX - b.dbX else if eX < -b.dbX then eX + b.dbX else 0;
    let diff := within (-s.par .diffMax) (s.par .diffMax) (Int.tdiv (excess * b.gainW) 1000);
    let aim : WheelId → Wheel → Int → Int := fun w x applied =>
      if x.state = .ramping ∨ x.state = .running then
        if x.direction = .reverse then -x.base
        else within 0 (s.par .maxWheelSpeed) (if w = .a then x.base - applied else x.base + applied)
      else if x.state = .reversing then x.target
      else 0;
    (s.mp.mode ≠ .auto → t = s) ∧
    (s.mp.mode = .auto → ∀ w : WheelId, t.wheel w = { s.wheel w with
      target := if t.wd.applied = s.wd.applied then (s.wheel w).target else aim w (s.wheel w) t.wd.applied }) ∧
    (s.mp.mode = .auto → t.wd.applied = apply (if b.kind = .steer then diff else 0)) ∧
    (s.mp.mode = .auto → b.kind = .suppress →
      t.sl = { s.sl with diffDemand := 0 } ∧ t.pm = s.pm ∧ t.counters = s.counters) ∧
    (s.mp.mode = .auto → b.kind = .steer →
      t.sl = { s.sl with plateDemands := Vector.ofFn demand, diffDemand := diff } ∧
      t.pm = (Plate.all.foldl (fun u p =>
        if s.par .hysteresis ≤ abs (demand p - (s.pm.targets.get p : Int)) then
          plateRequest p (demand p).toNat (if s.par .twistUrgent < abs twist ∧ serves p then .urgent else .trim) u
        else u) s).pm) ∧
    t.params = s.params ∧ t.li = s.li ∧ t.mp = s.mp ∧ t.fc = s.fc ∧ t.di = s.di ∧ t.sr = s.sr ∧ t.tu = s.tu

/-- A plate request, of PLATE_MOVE or of the steering law, is disposed of by the cases of R136; PLATE_CLEAR clears a
fault mark (R125, R133, R136, R137, R138, R139, R142, R144, R148, R151, log entry 7). Outside a HALTED manifold and a
FAULTY plate, a request of either class re-targets the move of its plate, which ends DONE at once within 1 mm of the
new target, is met in place within 1 mm on a FRESH channel, replaces the pending entry, URGENT if either is URGENT,
waits as a new entry of its class while another plate moves, or starts its move at once from an idle manifold, which
fails on a channel that is not FRESH. A request of the steering law to a HALTED manifold or a FAULTY plate is dropped
without a trace. PLATE_MOVE is WRONG_MODE outside MANUAL, AUTO and HOLD, WRONG_STATE on a HALTED manifold or a FAULTY
plate, and otherwise an URGENT request with the clamped target. Nothing outside PM and its counters changes. (A
PLATE_MOVE that starts and ends a move at once meets the PLATES_IDLE waits; that their replies stand before its own is
the model's choice, log entry 7.) -/
def Obligations.PlateRequestDisposed : Prop :=
  let disposed : State → RunTime → Plate → Nat → PlateClass → State → Prop := fun s now p target c t =>
    let distance := abs (10 * (target : Int) - s.value (.plate p));
    let deadline := Timer.mk now (-((-(200 * distance)) / s.par .plateRate) + 2000).toNat;
    let targets := s.pm.targets.set p.val target p.isLt;
    let nothing := ∀ q : Plate, s.pm.table.get q = none ∧ s.pm.urgentSnap.get q = false ∧ s.pm.trimSnap.get q = false;
    let sameElse := ∀ q : Plate, q ≠ p →
      t.pm.table.get q = s.pm.table.get q ∧ t.pm.targets.get q = s.pm.targets.get q ∧
        t.pm.faulty.get q = s.pm.faulty.get q ∧ t.pm.urgentSnap.get q = s.pm.urgentSnap.get q ∧
        t.pm.trimSnap.get q = s.pm.trimSnap.get q;
    (∀ m, s.pm.move = some m → m.plate = p →
      (target = m.target → t.pm.unsent = s.pm.unsent ∧ t.counters = s.counters) ∧
      (target ≠ m.target → 10 < distance → t.counters = s.counters ∧
        t.pm.unsent = { s.pm.unsent with targets := targets, move := some ⟨p, target, deadline⟩ }) ∧
      (target ≠ m.target → distance ≤ 10 → s.pm.table.get p = none →
        t.pm.targets.get p = target ∧ min (s.counter 15 + 1) 65535 ≤ t.counter 15 ∧
        (nothing → t.counters = (s.count 15).counters ∧ t.pm.unsent = { s.pm.unsent with
          targets := targets, move := none, arbiter := .idle, nextPhase := .urgent }))) ∧
    ((∀ m, s.pm.move = some m → m.plate ≠ p) →
      (s.fresh (.plate p) = true → distance ≤ 10 → sameElse ∧ t.pm.move = s.pm.move ∧
        t.pm.table.get p = none ∧ t.pm.urgentSnap.get p = false ∧ t.pm.trimSnap.get p = false ∧
        t.pm.targets.get p = target ∧ t.counters = s.counters) ∧
      (¬(s.fresh (.plate p) = true ∧ distance ≤ 10) →
        (∀ e, s.pm.table.get p = some e → sameElse ∧ t.pm.move = s.pm.move ∧
          t.pm.table.get p = some ⟨target, if e.cls = .urgent ∨ c = .urgent then .urgent else .trim⟩ ∧
          t.pm.targets = s.pm.targets ∧ t.pm.urgentSnap = s.pm.urgentSnap ∧ t.counters = s.counters ∧
          t.pm.trimSnap.get p = (s.pm.trimSnap.get p && !(e.cls == .trim && c == .urgent))) ∧
        (s.pm.table.get p = none → s.pm.arbiter = .moving → t.counters = s.counters ∧
          t.pm.unsent = { s.pm.unsent with table := s.pm.table.set p.val (some ⟨target, c⟩) p.isLt }) ∧
        (s.pm.arbiter = .idle → s.pm.nextPhase = .urgent → nothing →
          sameElse ∧ t.pm.table.get p = none ∧ t.pm.targets.get p = target ∧
            (s.fresh (.plate p) = true → t.pm.move = some ⟨p, target, deadline⟩ ∧ t.pm.arbiter = .moving ∧
              t.pm.nextPhase = (if c = .urgent then .trim else .urgent) ∧ t.counters = s.counters) ∧
            (s.fresh (.plate p) = false → t.pm.move = none ∧ t.pm.arbiter = .idle ∧
              t.pm.faulty.get p = true ∧ t.counter 16 = min (s.counter 16 + 1) 65535))));
  (∀ (s : State) (p : Plate) (target : Nat) (c : PlateClass),
    let t := plateRequest p target c s;
    (s.pm.arbiter = .halted ∨ s.pm.faulty.get p = true → t = s) ∧
    (s.pm.arbiter ≠ .halted → s.pm.faulty.get p = false →
      t = { s with pm := t.pm, counters := t.counters, plateBusy := t.plateBusy } ∧
        disposed s s.runTime p target c t)) ∧
  ∀ (s : State) (now : RunTime) (r : Request) (rest : List Request) (p : Plate), byteAt r.body 0 = p.val + 1 →
    let sent := byteAt r.body 1;
    let cutting := s.mp.mode = .manual ∨ s.mp.mode = .auto ∨ s.mp.mode = .hold;
    let refused : Result → Prop := fun res =>
      ∃ t, exec (.plateMove now) s = .next t ∧ s.RepliedOnly t now r rest res [] ∧ t.blocks = s.blocks;
    (s.Takes 0x0D 1 r rest → ∃ t, exec (.plateClear now) s = .next t ∧ s.RepliedOnly t now r rest .done [] ∧
      t.blocks = (s.putPm { s.pm with faulty := s.pm.faulty.set p.val false p.isLt }).blocks) ∧
    (s.Takes 0x0C 2 r rest →
      (¬cutting → refused .wrongMode) ∧
      (cutting → s.pm.arbiter = .halted ∨ s.pm.faulty.get p = true → refused .wrongState) ∧
      (cutting → s.pm.arbiter ≠ .halted → s.pm.faulty.get p = false →
        ∃ t, exec (.plateMove now) s = .next t ∧
          s.Replied t now r rest (if sent ≤ 100 then .done else .doneClamped) (encode 1 (min sent 100)) ∧
          t.blocks = { s.blocks with pm := t.pm.unsent, counters := t.counters } ∧
          disposed s now p (min sent 100) .urgent t))

/-- A plate move ends DONE within 1 mm or FAILED at its deadline, and the next plate is granted (R14, R48, R141, R142,
R143, R144, R145, R146, R149). For a coherent manifold: at the deadline the plate becomes FAULTY and counter 16 goes
up; at a sample of the moving plate within 1 mm of its target counter 15 goes up; any other plate sample, the first
one on an ABSENT channel among them, changes nothing of PM (a coherent manifold moves no plate in START). The grant
point that follows takes the lowest plate of the urgent or the trim snapshot by the next phase, a snapshot being
captured when it is empty; with nothing pending the arbiter is IDLE, and the PLATES_IDLE waits end; a granted plate
that is FRESH and more than 1 mm off moves, with the deadline of R144. -/
def Obligations.PlateMoveEnds : Prop :=
  ∀ (s : State) (now : RunTime) (m : PlateMove), s.ManifoldCoherent → s.pm.move = some m →
    let holding : PlateClass → Plate → Bool := fun c q => (s.pm.table.get q).any fun e => e.cls == c;
    let set : Vector Bool 8 → PlateClass → Plate → Bool := fun snap c q =>
      if ∃ x : Plate, snap.get x = true then snap.get q else holding c q;
    let urgent := set s.pm.urgentSnap .urgent;
    let trim := set s.pm.trimSnap .trim;
    let lowest : (Plate → Bool) → Option Plate := fun f => Plate.all.find? f;
    let turn :=
      if s.pm.nextPhase = .urgent then (lowest urgent).orElse fun _ => lowest trim
      else (lowest trim).orElse fun _ => lowest urgent;
    let granted : State → Prop := fun t =>
      t.runTime = now ∧ t.pending = s.pending ∧ t.pm.targets.get m.plate = m.target ∧ s.Reported t [] ∧
        (turn = none → t.pm.move = none ∧ t.pm.arbiter = .idle ∧ t.pm.nextPhase = .urgent) ∧
        ∀ q e, turn = some q → s.pm.table.get q = some e → s.fresh (.plate q) = true →
          let distance := abs (10 * (e.target : Int) - s.value (.plate q));
          10 < distance →
          t.pm.move = some ⟨q, e.target, ⟨now, (-((-(200 * distance)) / s.par .plateRate) + 2000).toNat⟩⟩ ∧
            t.pm.arbiter = .moving ∧ t.pm.targets.get q = e.target ∧ t.pm.table.get q = none ∧
            (∀ x : Plate, x ≠ q → t.pm.table.get x = s.pm.table.get x) ∧
            t.pm.nextPhase =
              if urgent q = true ∧ (s.pm.nextPhase = .urgent ∨ lowest trim = none) ∧
                (∀ x : Plate, x ≠ q → urgent x = false) then .trim
              else .urgent;
    let ended := fun n => min (s.counter n + 1) 65535;
    let plain := turn = none ∨ ∃ q e, turn = some q ∧ s.pm.table.get q = some e ∧ s.fresh (.plate q) = true ∧
      10 < abs (10 * (e.target : Int) - s.value (.plate q));
    (m.deadline.duration ≤ now.since m.deadline.start →
      ∃ t, exec (.plateMoveDeadline now) s = .next t ∧ granted t ∧ t.pm.faulty.get m.plate = true ∧
        (plain → t.counter 16 = ended 16 ∧ t.counter 15 = s.counter 15)) ∧
    (now.since m.deadline.start < m.deadline.duration →
      ∃ t, exec (.plateMoveDeadline now) s = .next t ∧ s.LineBecomes t now s.li) ∧
    ∀ (p : Plate) (v : Int), 0 ≤ v → v ≤ 1050 → ((s.chan (.plate p)).state = .absent → s.ArrivalQuiet) →
      (p = m.plate → abs (10 * (m.target : Int) - v) ≤ 10 →
        ∃ t, exec (.sampleArrival (p.val + 11) v now) s = .next t ∧ granted t ∧
          t.pm.faulty.get m.plate = s.pm.faulty.get m.plate ∧
          (plain → t.counter 15 = ended 15 ∧ t.counter 16 = s.counter 16)) ∧
      (p ≠ m.plate ∨ 10 < abs (10 * (m.target : Int) - v) →
        ∃ t, exec (.sampleArrival (p.val + 11) v now) s = .next t ∧ t.pm.unsent = s.pm.unsent ∧
          t.counters = s.counters)

/-- WHEEL_SET makes the tests of R156 in order and acts by the wheel's state; WHEEL_CLEAR ends a lockout (R156, R158,
R159, R167, R170, R178). WHEEL_SET: WRONG_MODE, BAD_VALUE and WRONG_STATE in order; otherwise the base speed, clamped
to the maximum, and the direction are stored, the state, target and timers follow the table of R156, and a wheel that
leaves RUNNING makes the applied differential 0, with the other wheel's target formed without it. WHEEL_CLEAR makes a
LOCKED_OUT wheel STOPPED with an empty history and its lockout source LATCHED, and leaves any other wheel; nothing
else changes but the permit. -/
def Obligations.WheelRequests : Prop :=
  ∀ (s : State) (now : RunTime) (r : Request) (rest : List Request) (w : WheelId),
    byteAt r.body 0 = (if w = .a then 0 else 1) →
    let v := s.wheel w;
    let aim : WheelId → Int → Direction → Int → Int := fun w base d applied =>
      let v := if w = .a then base - applied else base + applied;
      if d = .reverse then -base else if v < 0 then 0 else if s.par .maxWheelSpeed < v then s.par .maxWheelSpeed else v;
    (s.Takes 0x08 4 r rest → byteAt r.body 1 ≤ 1 →
      let d := if byteAt r.body 1 = 0 then Direction.forward else .reverse;
      let sent : Int := unsignedAt r.body 2 2;
      let base := min sent (s.par .maxWheelSpeed);
      let refused : Result → Prop := fun res =>
        ∃ t, exec (.wheelSet now) s = .next t ∧ s.RepliedOnly t now r rest res [] ∧ t.blocks = s.blocks;
      let cutting := s.mp.mode = .manual ∨ s.mp.mode = .auto ∨ s.mp.mode = .hold;
      let badDirection := d = .reverse ∧ (s.mp.mode = .auto ∨ s.mp.mode = .hold);
      let held := v.state = .lockedOut ∨ s.tripped (.wheel w) = true;
      (¬cutting → refused .wrongMode) ∧
      (cutting → badDirection → refused .badValue) ∧
      (cutting → ¬badDirection → held → refused .wrongState) ∧
      (cutting → ¬badDirection → ¬held →
        ∃ t, exec (.wheelSet now) s = .next t ∧
          s.RepliedOnly t now r rest (if base = sent then .done else .doneClamped) (encode 2 base) ∧
          t.blocks = { s.blocks with wd := t.wd.unsent, sr := { s.sr.unsent with feedPermit := t.sr.feedPermit } } ∧
          (t.sr.feedPermit = true ↔ (s.mp.mode = .manual ∨ s.mp.mode = .auto) ∧ (t.wheel .a).state = .running ∧
            (t.wheel .b).state = .running ∧ s.tripped .feed = false ∧ s.sr.backflushTimer = none) ∧
          let u := t.wheel w;
          let goal := aim w base d t.wd.applied;
          let moving := v.state = .ramping ∨ v.state = .running ∨ v.state = .stalled ∨ v.state = .reversing;
          u.base = base ∧ u.direction = d ∧ u.commanded = v.commanded ∧ u.carry = v.carry ∧
            u.prevSample = v.prevSample ∧ u.history = v.history ∧
          (base = 0 → moving → u.state = .stopping ∧ u.target = 0 ∧ u.stallTimer = none ∧ u.stateTimer = none) ∧
          (¬(base = 0 ∧ moving) → u.stallTimer = v.stallTimer ∧ u.stateTimer = v.stateTimer) ∧
          (base = 0 → ¬moving → u.state = v.state ∧ u.target = v.target) ∧
          (base ≠ 0 → v.state = .stopped ∨ v.state = .stopping ∨ v.state = .ramping →
            u.state = .ramping ∧ u.target = goal) ∧
          (base ≠ 0 → v.state = .running → u.target = goal ∧
            u.state = if s.par .runningBand < abs (aim w base d s.wd.applied - v.target) then .ramping else .running) ∧
          (base ≠ 0 → v.state = .stalled ∨ v.state = .reversing → u.state = v.state ∧ u.target = v.target) ∧
          let left := v.state = .running ∧ u.state ≠ .running;
          let o := otherWheel w;
          t.wd.applied = (if left then 0 else s.wd.applied) ∧
            (¬left → (t.wheel o).unsent = (s.wheel o).unsent) ∧
            (left → s.wd.applied ≠ 0 → (s.wheel o).state = .ramping ∨ (s.wheel o).state = .running →
              (t.wheel o).unsent = { (s.wheel o).unsent with
                target := aim o (s.wheel o).base (s.wheel o).direction 0 }))) ∧
    (s.Takes 0x09 1 r rest →
      (v.state ≠ .lockedOut → ∃ t, exec (.wheelClear now) s = .next t ∧ s.RepliedOnly t now r rest .done [] ∧
        t.blocks = s.blocks) ∧
      (v.state = .lockedOut → s.GroupsFollow →
        let source : Source := if w = .a then Source.wheelALockout else Source.wheelBLockout;
        let u := s.putWheel w { v with state := .stopped, history := [] };
        ∃ t, exec (.wheelClear now) s = .next t ∧ s.RepliedOnly t now r rest .done [] ∧
          t.blocks = { u.blocks with
            sr := { s.sr.unsent with feedPermit := u.permitNow }
            tu := { s.tu with
              sources := s.tu.sources.set source.val
                (if s.source source = .active then .latched else s.source source) source.isLt } }))

/-- A speed sample ramps its wheel, tests its state and watches for a stall (R14, R29, R48, R51, R160, R161, R162,
R170, R178). In every mode, at the first arrival on an ABSENT channel, which is FRESH for it, and at every later one:
the commanded speed moves toward the target by the step of R160 with its carry, RAMPING becomes RUNNING within the
running band, STOPPING becomes STOPPED, and the stall timer starts, runs on or stops by R162; a pressure sample makes
the stall evaluation alone. Nothing else changes but DI's statistics, the permit and, at a first arrival,
SENSOR_STALE; an arrival that ends START is followed by the one entry of STANDBY, of which MODE waits are told. -/
def Obligations.SpeedArrivalRamps : Prop :=
  ∀ (s : State) (w : WheelId) (x : Int) (now : RunTime),
    let v := s.wheel w;
    let watch : Channel → WheelState → Int → Int → Int → Option Timer := fun c state commanded measured pressure =>
      let live := fun d : Channel => s.fresh d = true ∨ d = c ∧ (s.chan d).state = .absent;
      if state = .ramping ∨ state = .running ∨ state = .reversing then
        if live (.speed w) ∧ live (.press w) then
          if s.par .stallPressure < pressure ∧ 10 * abs measured < abs commanded then
            if v.stallTimer = none then some ⟨now, (s.par .stallTime).toNat⟩ else v.stallTimer
          else none
        else v.stallTimer
      else v.stallTimer;
    let becomes : Channel → Wheel → Prop := fun c u =>
      (s.mp.mode = .start ∨ (s.chan c).state = .absent → s.ArrivalQuiet) →
      ∃ t, exec (.sampleArrival (c.idx.val + 1) x now) s = .next t ∧ t.runTime = now ∧ t.pending = s.pending ∧
        let stays := t.mp.mode = s.mp.mode;
        let ramped := { s with
          fc := t.fc, di := t.di, wd := (s.putWheel w u).wd
          sr := { s.sr with feedPermit := (s.putWheel w u).permitNow }
          tu := { s.tu with
            sources :=
              s.tu.sources.set Source.sensorStale.val (t.source Source.sensorStale) Source.sensorStale.isLt } };
        ((s.chan c).state ≠ .absent → t.tu = s.tu) ∧
        (stays → t.li = s.li ∧ t.blocks = ramped.blocks) ∧
        (¬stays → s.Reported t [.mode .standby] ∧
          t.blocks = (changeMode .standby { ramped with mp := { s.mp with startTimer := none } }).blocks);
    (-600 ≤ x → x ≤ 600 →
      let elapsed := match v.prevSample with
        | some p => min (now - p).toNat 1000
        | none => 0;
      let amount := s.par .rampRate * elapsed + v.carry;
      let step := amount / 1000;
      let ramps := v.state = .ramping ∨ v.state = .running ∨ v.state = .stopping;
      let arrives := abs (v.target - v.commanded) ≤ step;
      let commanded :=
        if ¬ramps then v.commanded
        else if arrives then v.target
        else if v.commanded < v.target then v.commanded + step else v.commanded - step;
      let carry := if ¬ramps then v.carry else if arrives then 0 else amount - 1000 * step;
      let runs := v.state = .ramping ∧ commanded = v.target ∧ abs (x - commanded) ≤ s.par .runningBand;
      let stops := v.state = .stopping ∧ commanded = 0 ∧ abs x < 5;
      let state := if runs then .running else if stops then .stopped else v.state;
      becomes (.speed w)
        { v with
          prevSample := some now, commanded := commanded, carry := carry, state := state
          stallTimer := if stops then none else watch (.speed w) state commanded x (s.value (.press w)) }) ∧
    (0 ≤ x → x ≤ 500 →
      becomes (.press w)
        { v with stallTimer := watch (.press w) v.state v.commanded (s.value (.speed w)) x })

/-- A stall, the end of its pause and the end of the reverse time (R163, R164, R165, R166, R158, R159, R202). At the
stall timer's expiry the wheel is STALLED at speed 0 for 500 ms and counted; at the end of the pause it reverses at
once at the reverse speed, opposite to its direction and counted, if auto-reverse is on and fewer than 3 attempts lie
in the last 60 s, and is LOCKED_OUT with its source ACTIVE otherwise; at each of the three the wheel's speed record is
sent, also where the speed sent last is the same; at the end of the reverse time it ramps again toward its base speed.
A timer that is not due, or belongs to another state, changes nothing. -/
def Obligations.StallAndReverse : Prop :=
  ∀ (s : State) (w : WheelId) (now : RunTime),
    let v := s.wheel w;
    let other := otherWheel w;
    let aim : WheelId → Int → Direction → Int → Int := fun w base d applied =>
      let v := if w = .a then base - applied else base + applied;
      if d = .reverse then -base else if v < 0 then 0 else if s.par .maxWheelSpeed < v then s.par .maxWheelSpeed else v;
    let idles : Instr → Prop := fun c => ∃ t, exec c s = .next t ∧ s.LineBecomes t now s.li;
    let becomes : Instr → Wheel → Nat → Prop := fun c u n =>
      ∃ t, exec c s = .next t ∧ t.runTime = now ∧ t.pending = s.pending ∧ t.li = s.li ∧
        t.blocks = { s.blocks with
          counters := (if n = 0 then s else s.count n).counters, wd := t.wd.unsent
          sr := { s.sr.unsent with feedPermit := t.sr.feedPermit } } ∧
        (t.wheel w).unsent = u.unsent ∧ t.sr.feedPermit = t.permitNow ∧
        (n ≠ 0 → FieldRecord.wheelSpeed w u.commanded ∈ t.sent) ∧
        t.wd.applied = (if v.state = .running then 0 else s.wd.applied) ∧
        (t.wheel other).unsent = { (s.wheel other).unsent with target := (t.wheel other).target } ∧
        (v.state ≠ .running ∨ s.wd.applied = 0 → (t.wheel other).target = (s.wheel other).target) ∧
        (v.state = .running → s.wd.applied ≠ 0 → (s.wheel other).state = .running →
          (t.wheel other).target = aim other (s.wheel other).base (s.wheel other).direction 0);
    (timerDue v.stallTimer now = true → becomes (.stallTimerExpiry w now)
      { v with
        state := .stalled, target := 0, commanded := 0, carry := 0, stallTimer := none
        stateTimer := some ⟨now, 500⟩ } (if w = .a then 11 else 12)) ∧
    (timerDue v.stallTimer now = false → idles (.stallTimerExpiry w now)) ∧
    (v.state = .stalled → timerDue v.stateTimer now = true →
      let recent := v.history.dropWhile fun a => 60000 ≤ now.since a;
      let speed := min (s.par .reverseSpeed) (s.par .maxWheelSpeed);
      let back := if v.direction = .forward then -speed else speed;
      (s.par .autoReverse = 1 ∧ recent.length < 3 → becomes (.stallPauseEnd w now)
        { v with
          state := .reversing, target := back, commanded := back, carry := 0, history := recent ++ [now]
          stateTimer := some ⟨now, (s.par .reverseTime).toNat⟩ } (if w = .a then 13 else 14)) ∧
      (¬(s.par .autoReverse = 1 ∧ recent.length < 3) →
        let source : Source := if w = .a then Source.wheelALockout else Source.wheelBLockout;
        ∃ t, exec (.stallPauseEnd w now) s = .next t ∧ t.runTime = now ∧ t.pending = s.pending ∧
          (t.wheel w).unsent = { v.unsent with
            state := .lockedOut, target := 0, commanded := 0, carry := 0, base := 0, history := recent
            stallTimer := none, stateTimer := none } ∧ FieldRecord.wheelSpeed w 0 ∈ t.sent ∧
          t.source source = .active ∧ (∀ i, i ≠ source → t.source i = s.source i) ∧ t.counters = s.counters ∧
          t.params = s.params ∧ t.mp = s.mp ∧ t.fc = s.fc ∧ t.di = s.di ∧ t.sl = s.sl ∧ t.sr.line = s.sr.line)) ∧
    (v.state ≠ .stalled ∨ timerDue v.stateTimer now = false → idles (.stallPauseEnd w now)) ∧
    (v.state = .reversing → timerDue v.stateTimer now = true → becomes (.reverseTimeExpiry w now)
      { v with state := .ramping, stateTimer := none, target := aim w v.base v.direction s.wd.applied } 0) ∧
    (v.state ≠ .reversing ∨ timerDue v.stateTimer now = false → idles (.reverseTimeExpiry w now))

/-- PUMP_SET, BACKFLUSH and the expiries of the backflush and blockage timers (R172, R174, R176, R180, R181, R182,
R183, R184, R197, log entry 13, log entry 34, log entry 36). PUMP_SET is tested by R176 (the mode before the trip, the
model's choice, log entry 34) and stores the clamped target, which sets the command in MANUAL and waits during a
backflush. BACKFLUSH is tested by R181, the mode first (so that it is WRONG_MODE outside MANUAL and AUTO also while
the PUMP group is tripped, and in HOLD while a backflush runs, where R185 and the table of R183 say WRONG_STATE: the
model's choice, log entry 36); its start runs the pump backward, sets the trim to 0, stops the blockage timer, empties
the transit line into counter 9 and turns the permit of R178 off; at its timer's expiry the pump takes the state and
command of its mode. The blockage timer's expiry makes RETURN_BLOCKED present and its source ACTIVE, and starts a
backflush if auto-backflush is on and one is allowed as things then stand (after RETURN_BLOCKED's own trip, the
model's choice, log entry 13). -/
def Obligations.PumpRequests : Prop :=
  ∀ (s : State) (now : RunTime) (r : Request) (rest : List Request),
    let speed : Int → Int → Int := fun flow trim =>
      let c := -((-(flow * 1000)) / s.par .displacement);
      let x := (2 * (c * (1000 + trim)) + 1000) / 2000;
      if x < 0 then 0 else if s.par .pumpMaxRpm < x then s.par .pumpMaxRpm else x;
    let timer := Timer.mk now (s.par .backflushTime * 1000).toNat;
    let back := -(min (s.par .backflushSpeed) (s.par .pumpMaxRpm));
    let answered : (RunTime → Instr) → Result → Prop := fun c res =>
      ∃ t, exec (c now) s = .next t ∧ s.RepliedOnly t now r rest res [] ∧ t.blocks = s.blocks;
    (s.Takes 0x0A 2 r rest →
      let sent : Int := unsignedAt r.body 0 2;
      let target := min sent (s.par .pumpMaxRpm * s.par .displacement / 1000);
      (s.mp.mode ≠ .manual → answered .pumpSet .wrongMode) ∧
      (s.mp.mode = .manual → s.tripped .pump = true → answered .pumpSet .wrongState) ∧
      (s.mp.mode = .manual → s.tripped .pump = false → ∃ t, exec (.pumpSet now) s = .next t ∧
        s.RepliedOnly t now r rest (if target = sent then .done else .doneClamped) (encode 2 target) ∧
        t.blocks = { s.blocks with sr := { s.sr.unsent with manualTarget := target, command := t.sr.command } } ∧
        (s.sr.pumpState = .manual → t.sr.command = speed target 0) ∧
        (s.sr.pumpState = .backflush → t.sr.command = s.sr.command))) ∧
    (s.Takes 0x0B 0 r rest →
      let allowed := s.mp.mode = .manual ∨ s.mp.mode = .auto;
      (¬allowed → answered .backflush .wrongMode) ∧
      (allowed → s.tripped .pump = true ∨ s.sr.backflushTimer ≠ none → answered .backflush .wrongState) ∧
      (allowed → s.tripped .pump = false → s.sr.backflushTimer = none → ∃ t, exec (.backflush now) s = .next t ∧
        s.RepliedOnly t now r rest .done [] ∧
        t.blocks = { (s.addCounter 9 s.sr.line.length).blocks with
          sr := { s.sr.unsent with
            backflushTimer := some timer, pumpState := .backflush, command := back, trim := 0, blockTimer := none
            line := [], feedPermit := false } })) ∧
    (timerDue s.sr.backflushTimer now = true →
      let state : PumpState :=
        if s.tripped .pump then .tripped
        else match s.mp.mode with
          | .start => .off
          | .standby => .idle
          | .manual => .manual
          | .auto | .hold => .balance;
      let command := match state with
        | .idle => speed (s.par .idleFlow) 0
        | .manual => speed s.sr.manualTarget 0
        | .balance => speed s.sr.required s.sr.trim
        | .off | .tripped | .backflush => 0;
      ∃ t, exec (.backflushEnd now) s = .next t ∧ t.runTime = now ∧ t.pending = s.pending ∧ t.li = s.li ∧
        t.blocks = { s.blocks with
          sr := { s.sr.unsent with
            backflushTimer := none, pumpState := state, command := command, feedPermit := t.sr.feedPermit } } ∧
        (t.sr.feedPermit = true ↔ (s.mp.mode = .manual ∨ s.mp.mode = .auto) ∧ (s.wheel .a).state = .running ∧
          (s.wheel .b).state = .running ∧ s.tripped .feed = false)) ∧
    (timerDue s.sr.backflushTimer now = false →
      ∃ t, exec (.backflushEnd now) s = .next t ∧ s.LineBecomes t now s.li) ∧
    (timerDue s.sr.blockTimer now = true →
      ∃ t, exec (.blockageTimerExpiry now) s = .next t ∧ t.runTime = now ∧ t.pending = s.pending ∧
        t.sr.returnBlocked = true ∧ t.sr.blockTimer = none ∧ t.source Source.returnBlocked = .active ∧
        (∀ i, i ≠ Source.returnBlocked → t.source i = s.source i) ∧ t.params = s.params ∧ t.mp = s.mp ∧
        t.fc = s.fc ∧ t.di = s.di ∧ t.sl = s.sl ∧ t.sr.vPump = s.sr.vPump ∧
        let starts := s.par .autoBackflush = 1 ∧ (s.mp.mode = .manual ∨ s.mp.mode = .auto) ∧
          t.tripped .pump = false ∧ s.sr.backflushTimer = none;
        (starts → t.sr.backflushTimer = some timer ∧ t.sr.pumpState = .backflush ∧ t.sr.command = back ∧
          t.sr.trim = 0 ∧ t.sr.line = [] ∧ t.sr.feedPermit = false ∧
          t.counters = (s.addCounter 9 s.sr.line.length).counters) ∧
        (¬starts → t.sr.line = s.sr.line ∧ t.counters = s.counters ∧
          (t.tripped .pump = false → t.sr.backflushTimer = s.sr.backflushTimer))) ∧
    (timerDue s.sr.blockTimer now = false →
      ∃ t, exec (.blockageTimerExpiry now) s = .next t ∧ s.LineBecomes t now s.li)

/-- The watches of the return line: density limits, blockage condition, trim, and the head's density (R29, R48, R172,
R174, R175, R177, R179, R180, R195). A density sample sets the soft mark and the RETURN_HEAVY condition by the limits
as they stand, with the feed limit and the source following their changes, and is taken by an AT_METER head until its
count is 65,535. A pump pressure or return flow sample, with both channels FRESH and no backflush, starts the blockage
timer while the condition of R180 holds and otherwise stops it and ends RETURN_BLOCKED; a FRESH return flow sample in
AUTO moves the trim by at most 1 per mille, and the pump command with it. All this holds in START too, in which Q is 0
and the trim stays, and at the first arrival on an ABSENT channel, which is FRESH for it; an arrival that ends START
sets the trim to 0 and the pump to its IDLE command. -/
def Obligations.ReturnLineWatches : Prop :=
  ∀ (s : State) (v : Int) (now : RunTime),
    let speed : Int → Int → Int := fun flow trim =>
      let c := -((-(flow * 1000)) / s.par .displacement);
      let x := (2 * (c * (1000 + trim)) + 1000) / 2000;
      if x < 0 then 0 else if s.par .pumpMaxRpm < x then s.par .pumpMaxRpm else x;
    (900 ≤ v → v ≤ 2000 →
      ∃ t, exec (.sampleArrival 21 v now) s = .next t ∧ t.runTime = now ∧ t.pending = s.pending ∧
        t.sr.softMark = decide (s.par .softLimit < v) ∧ t.sr.returnHeavy = decide (s.par .hardLimit < v) ∧
        (s.sr.returnHeavy = false → t.sr.returnHeavy = true → t.source Source.returnHeavy = .active) ∧
        (s.sr.returnHeavy = true → t.sr.returnHeavy = false → s.source Source.returnHeavy = .active →
          t.source Source.returnHeavy = .latched) ∧
        (t.sr.softMark ≠ s.sr.softMark →
          let most := s.par .pumpMaxRpm * s.par .displacement / 1000;
          let pumped := (most - s.par .baseFlow) * 1000000 / (s.mp.cutArea * s.par .carry);
          let limit :=
            min (s.par .operatorFeedLimit) (if pumped < 0 then 0 else if 2000 < pumped then 2000 else pumped);
          t.sr.feedLimit =
            if t.mp.mode = .start then 0 else if s.par .softLimit < v then limit / 2 else limit) ∧
        (s.sr.line = [] → t.sr.line = []) ∧
        ∀ head behind, s.sr.line = head :: behind →
          t.sr.line = (if head.atMeter = true ∧ head.densityCount < 65535 then
              { head with densitySum := head.densitySum + v, densityCount := head.densityCount + 1 }
            else head) :: behind) ∧
    (let first := fun c : Channel => s.mp.mode = .start ∨ (s.chan c).state = .absent → s.ArrivalQuiet;
      let basis := match s.sr.pumpState with
        | .idle => s.par .idleFlow
        | .manual => s.sr.manualTarget
        | .balance => s.sr.required
        | .off | .tripped | .backflush => 0;
      let watches : State → Channel → Int → Int → Prop := fun t c pressure flow =>
        let watched := t.fresh .pumpPress = true ∧ t.fresh .retFlow = true ∧ s.sr.pumpState ≠ .backflush;
        let tripsStay := t.tu = { s.tu with
          sources :=
            s.tu.sources.set Source.sensorStale.val (t.source Source.sensorStale) Source.sensorStale.isLt };
        let blocked := basis ≠ 0 ∧ s.par .blockPressure < pressure ∧ 10 * flow < 3 * basis;
        (watched → blocked → t.sr.returnBlocked = s.sr.returnBlocked ∧ tripsStay ∧
          t.sr.blockTimer = if s.sr.blockTimer ≠ none ∨ s.sr.returnBlocked = true then s.sr.blockTimer
            else some ⟨now, (s.par .blockTime * 1000).toNat⟩) ∧
        (watched → ¬blocked → t.sr.returnBlocked = false ∧ t.sr.blockTimer = none ∧
          (s.sr.returnBlocked = true → s.source Source.returnBlocked = .active →
            t.source Source.returnBlocked = .latched) ∧
          (s.sr.returnBlocked = false → tripsStay)) ∧
        (¬watched → t.sr.returnBlocked = s.sr.returnBlocked ∧ t.sr.blockTimer = s.sr.blockTimer ∧ tripsStay) ∧
        ((s.chan c).state ≠ .absent → t.source Source.sensorStale = s.source Source.sensorStale);
      (first .pumpPress → 0 ≤ v → v ≤ 100 →
        ∃ t, exec (.sampleArrival 19 v now) s = .next t ∧ t.runTime = now ∧ t.pending = s.pending ∧
          watches t .pumpPress v (s.value .retFlow) ∧ t.sr.line = s.sr.line ∧ t.counters = s.counters) ∧
      (first .retFlow → -10000 ≤ v → v ≤ 10000 → (s.sr.returnBlocked = true → s.GroupsFollow) →
        ∃ t, exec (.sampleArrival 20 v now) s = .next t ∧ t.runTime = now ∧ t.pending = s.pending ∧
          watches t .retFlow (s.value .pumpPress) v ∧
          let far := s.par .flowBand * s.sr.required < 100 * abs (v - s.sr.required);
          let trim := if v < s.sr.required then min 100 (s.sr.trim + 1) else max (-100) (s.sr.trim - 1);
          if t.mp.mode ≠ s.mp.mode then
            t.sr.trim = 0 ∧ (t.sr.pumpState = .idle → t.sr.command = speed (s.par .idleFlow) 0)
          else if s.sr.pumpState = .balance ∧ s.mp.mode = .auto ∧ t.fresh .retFlow = true then
            t.sr.trim = (if far then trim else s.sr.trim) ∧ t.sr.command = speed s.sr.required t.sr.trim
          else t.sr.trim = s.sr.trim ∧ t.sr.command = s.sr.command))

/-- A return flow sample counts its litres, places them in the transit line and brings parcels to the meter (R14, R29,
R48, R83, R92, R188, R191, R192, R193, R194, R196, log entry 22). In every mode, at the first arrival on an ABSENT
channel and at every later one: elapsed time capped at 1,000 ms, V_pump and residue by R188, and a flow of 0 or less
or a backflush adding nothing. Litres go by the first case of R191 to no parcel, to a new one with the fields of R192,
to the youngest, or merged into the youngest of a full line and counted in counter 8. The IN_LINE parcels that have
arrived come to the meter in order; each head before the last of them leaves the line, with its attribution to DI if
it holds density samples. After the arrival DI's log and open record, the flow gathered, and every counter, 8 and 10
among them, are those that placing and arrivals leave, and the ATTRIBUTED waits that an accepted attribution meets
have ended, and no other of them; an arrival that ends START also meets the MODE waits. (A parcel's volume has the 32
bits of R189; that litres beyond 2^32 - 1 wrap, which no run reaches, is the model's choice, log entry 22.) -/
def Obligations.FlowPumped : Prop :=
  (∀ (s : State) (v : Int) (now : RunTime), -10000 ≤ v → v ≤ 10000 → (s.sr.returnBlocked = true → s.GroupsFollow) →
    (s.mp.mode = .start ∨ (s.chan .retFlow).state = .absent → s.ArrivalQuiet) →
    let elapsed := match s.sr.prevFlow with
      | some p => min (now - p).toNat 1000
      | none => 0;
    let total := v * elapsed + s.sr.flowResidue;
    let litres := (total / 60000).toNat;
    ∃ t, exec (.sampleArrival 20 v now) s = .next t ∧ t.runTime = now ∧ t.pending = s.pending ∧
      t.sr.prevFlow = some now ∧ t.sr.cutter = s.sr.cutter ∧
      let pumps := 0 < v ∧ s.sr.backflushTimer = none;
      let u := { s with
        di := { s.di with openRecord := s.di.openRecord.map fun r =>
          { r with flow := if r.flow.count < 16777215 then ⟨r.flow.sum + v, r.flow.count + 1⟩ else r.flow } }
        sr := { s.sr with vPump := if pumps then s.sr.vPump + BitVec.ofNat 32 litres else s.sr.vPump }
        reports := [] };
      let w := if pumps ∧ litres ≠ 0 then testArrivals (placeLitres s.sr.vPump litres u) else u;
      t.sr.flowResidue = (if pumps then total - 60000 * (total / 60000) else s.sr.flowResidue) ∧
        t.sr.vPump = u.sr.vPump ∧ t.sr.line = w.sr.line ∧ t.di = w.di ∧ t.counters = w.counters ∧
        (t.waiting.filter fun e => e.cond == .attributed) = (s.waiting.filter fun e => e.cond == .attributed &&
          !(w.reports.any fun p => match p with
            | .attributed k => e.arg == (k : Int)
            | _ => false)) ∧
        s.Reported t (w.reports ++ if t.mp.mode = s.mp.mode then [] else [.mode .standby])) ∧
  (∀ (s : State) (vIn : Litres) (litres : Nat),
    let t := placeLitres vIn litres s;
    let lineBecomes : List Parcel → State := fun l => { s with sr := { s.sr with line := l } };
    (s.sr.cutter = none → t = s) ∧
    ∀ c, s.sr.cutter = some c →
      let vline := ((max 0 c.depth + s.par .hoseLength) * s.par .boreArea / 10000).toNat;
      let opened := lineBecomes (s.sr.line ++
        [⟨c.station, c.pass, vIn, vline, vIn + BitVec.ofNat 32 vline, BitVec.ofNat 32 litres, false, 0, 0⟩]);
      (s.sr.line = [] → t = opened) ∧
      ∀ older y, s.sr.line = older ++ [y] →
        let grown := lineBecomes (older ++ [{ y with volume := y.volume + BitVec.ofNat 32 litres }]);
        let next := y.station ≠ c.station ∨ y.pass ≠ c.pass ∨ s.par .parcelSize ≤ y.volume.toNat;
        (y.atMeter = true ∨ next ∧ older.length + 1 < 64 → t = opened) ∧
        (y.atMeter = false → next → 64 ≤ older.length + 1 → t = grown.count 8) ∧
        (y.atMeter = false → ¬next → t = grown)) ∧
  ∀ (s : State) (head inLine : List Parcel), s.sr.line = head ++ inLine → head.length ≤ 1 →
    (∀ p ∈ head, p.atMeter = true) → (∀ p ∈ inLine, p.atMeter = false) →
    let arrived := inLine.takeWhile fun p => p.vline ≤ (s.sr.vPump - p.vIn).toNat;
    let behind := inLine.drop arrived.length;
    let t := testArrivals s;
    (arrived = [] → t = s) ∧
    ∀ passed last, arrived = passed ++ [last] →
      let gone := head ++ passed;
      let sends := gone.filter fun p => p.densityCount ≠ 0;
      t = sends.foldl
        (fun u p =>
          attribution p.station p.pass ((2 * p.densitySum + p.densityCount) / (2 * p.densityCount)) p.volume.toNat u)
        { s with sr := { s.sr with line := { last with atMeter := true } :: behind } }

/-- The trip requests: TRIP_GET, TRIP_CLEAR, TRIP_FORCE and TRIP_MAP_SET, and what the group owners do (R202, R203,
R204, R206, R207, R208, R209, R152, R169, R185, R186, log entry 7). TRIP_GET answers source states, sets and groups at
their places and changes nothing. TRIP_CLEAR is WRONG_STATE on an ACTIVE source and changes nothing on a CLEAR one; a
LATCHED one becomes CLEAR, and the groups that become untripped are released without starting an output. TRIP_FORCE
switches the OPERATOR condition, a source that enters ACTIVE ends the TRIP waits, and each group that becomes tripped
stops its output. TRIP_MAP_SET is BAD_VALUE for EMERGENCY, WRONG_STATE for a source that is not CLEAR, and otherwise
changes that set alone. The mode never changes. (That the wait replies stand before TRIP_FORCE's own reply is the
model's choice, log entry 7; the release of a halted manifold is R153; that the permit after a change of the PUMP
group is the one of R178 rests on log entry 38.) (The source numbers and group bits are those of R202 and section
1.12.) (That the groups follow the sources before the request is the invariant TripsFollow.) -/
def Obligations.TripRequests : Prop :=
  ([Source.inclLimit, Source.inclDisagree, Source.twistLimit, Source.sensorStale, Source.wheelALockout,
      Source.wheelBLockout, Source.gearPressure, Source.oilTemp, Source.returnBlocked, Source.returnHeavy,
      Source.linkSilent, Source.operator, Source.emergency].map fun i => i.val + 1) =
    [1, 2, 3, 4, 5, 6, 7, 8, 9, 10, 11, 12, 13] ∧
  [Group.wheel .a, .wheel .b, .plates, .pump, .feed].map Group.bit = [0, 1, 2, 3, 4] ∧
  ∀ (s : State) (now : RunTime) (r : Request) (rest : List Request),
    let answered : (RunTime → Instr) → Result → Prop := fun c res =>
      ∃ t, exec (c now) s = .next t ∧ s.RepliedOnly t now r rest res [] ∧ t.blocks = s.blocks;
    let others : State → Source → Prop := fun t i =>
      (∀ j, j ≠ i → t.source j = s.source j) ∧ t.tu.sets = s.tu.sets ∧ t.GroupsFollow ∧ t.mp = s.mp ∧
        t.params = s.params ∧ t.counters = s.counters ∧ t.fc = s.fc ∧ t.di = s.di ∧ t.sl = s.sl;
    (s.Takes 0x17 0 r rest →
      ∃ t data, exec (.tripGet now) s = .next t ∧ s.RepliedOnly t now r rest .done data ∧ t.blocks = s.blocks ∧
        data.length = 27 ∧ field data 26 1 = encodeBits 1 s.tu.groups ∧
        ∀ i : Source, field data i.val 1 = [match s.source i with | .clear => 0 | .active => 1 | .latched => 2] ∧
          field data (13 + i.val) 1 = encodeBits 1 (s.tu.sets.get i)) ∧
    (∀ i : Source, s.Takes 0x18 1 r rest → byteAt r.body 0 = i.val + 1 →
      (s.source i = .active → answered .tripClear .wrongState) ∧ (s.source i = .clear → answered .tripClear .done) ∧
      (s.source i = .latched → s.GroupsFollow → ∃ t, exec (.tripClear now) s = .next t ∧
        s.RepliedOnly t now r rest .done [] ∧ t.source i = .clear ∧ others t i ∧ t.tu.operatorOn = s.tu.operatorOn ∧
        t.wd.unsent = s.wd.unsent ∧
        t.pm.unsent = (if s.tripped .plates = t.tripped .plates then s.pm.unsent
          else { s.pm.unsent with arbiter := .idle, nextPhase := .urgent }) ∧
        t.sr.unsent = { s.sr.unsent with
          pumpState := t.sr.pumpState, command := t.sr.command, feedPermit := t.sr.feedPermit } ∧
        (s.tripped .pump = t.tripped .pump → t.sr.pumpState = s.sr.pumpState ∧ t.sr.command = s.sr.command) ∧
        (s.tripped .pump ≠ t.tripped .pump → t.sr.pumpState = t.pumpStateNow) ∧
        (s.tripped .feed ≠ t.tripped .feed ∨ s.tripped .pump ≠ t.tripped .pump → t.sr.feedPermit = t.permitNow))) ∧
    (∀ on : Bool, s.Takes 0x19 1 r rest → byteAt r.body 0 = (if on then 1 else 0) →
      (s.tu.operatorOn = on → answered .tripForce .done) ∧
      (s.tu.operatorOn ≠ on → s.GroupsFollow → ∃ t, exec (.tripForce now) s = .next t ∧
        s.Replied t now r rest .done [] ∧ t.tu.operatorOn = on ∧ others t Source.operator ∧
        t.source Source.operator = (if on then .active
          else if s.source Source.operator = .active then .latched else s.source Source.operator) ∧
        s.Reported t (if on = true ∧ s.source Source.operator ≠ .active then [.trip Source.operator] else []) ∧
        let trips := fun g => s.tripped g = false ∧ t.tripped g = true;
        (∀ w, trips (.wheel w) →
          let v := s.wheel w;
          (v.state = .ramping ∨ v.state = .running ∨ v.state = .stalled ∨ v.state = .reversing →
            (t.wheel w).unsent = { v.unsent with
              state := .stopping, target := 0, base := 0, stallTimer := none, stateTimer := none }) ∧
          (v.state = .stopping → (t.wheel w).state = .stopping ∧ (t.wheel w).base = 0) ∧
          (v.state = .stopped ∨ v.state = .lockedOut → (t.wheel w).state = v.state ∧ (t.wheel w).base = v.base)) ∧
        (trips .plates → t.pm.arbiter = .halted ∧ t.pm.move = none ∧ ∀ p : Plate, t.pm.table.get p = none) ∧
        (trips .pump → t.sr.pumpState = .tripped ∧ t.sr.command = 0 ∧ t.sr.backflushTimer = none ∧ t.sr.trim = 0 ∧
          t.sr.manualTarget = 0) ∧
        (trips .feed → t.sr.feedPermit = false) ∧
        ((∀ g, ¬trips g) → t.wd.unsent = s.wd.unsent ∧ t.pm.unsent = s.pm.unsent ∧ t.sr.unsent = s.sr.unsent))) ∧
    ∀ i : Source, s.Takes 0x1A 2 r rest → byteAt r.body 0 = i.val + 1 → byteAt r.body 1 ≤ 31 →
      (i = Source.emergency → answered .tripMapSet .badValue) ∧
      (i ≠ Source.emergency → s.source i ≠ .clear → answered .tripMapSet .wrongState) ∧
      (i ≠ Source.emergency → s.source i = .clear → s.GroupsFollow → ∃ t, exec (.tripMapSet now) s = .next t ∧
        s.RepliedOnly t now r rest .done [] ∧
        t.blocks = { s.blocks with
          tu := { s.tu with sets := s.tu.sets.set i.val (BitVec.ofNat 5 (byteAt r.body 1)) i.isLt } })

/-- Every event keeps the parameters in range, the counters and queues bounded, the wait tags distinct, the plans and
the transit line in form (R3, R4, R7, R13, R20, R23, R99, R188, R189). For every state, reachable or not, and every
command at the front of its queue; that the parcels stand in strictly increasing V_in is kept as well while V_pump
lies less than 2^32 - 167 L beyond the head's V_in, 167 L being the most that one arrival adds (beyond it the
differences modulo 2^32 of R188 no longer order the line). -/
def Obligations.TablesKept : Prop :=
  let kept : State → Prop := fun s =>
    s.ParamsInRange ∧ s.CountersBounded ∧ s.QueuesBounded ∧ s.TagsDistinct ∧ s.PlansWf ∧ s.LineWf;
  let room : State → Prop := fun s =>
    ∀ head, s.sr.line.head? = some head → (s.sr.vPump - head.vIn).toNat + 167 < 2 ^ 32;
  ∀ s t : State, kept s → step s = .next t → kept t ∧ (s.LineOrdered → room s → t.LineOrdered)

/-- Every event keeps the path in range and the open station, SR's copy and the log with the integrated depth (R39,
R62, R65, R69, R72, R76, R81, R89, R190). For every state, reachable or not: the integrated and the last accepted
depth and the path lie in their ranges, the log keeps its form and is empty until the first closure, and the open
record and its pass are those of the station that contains the integrated depth while the panel is OPEN, SR's copy
holding that station, that pass and the integrated depth. -/
def Obligations.StationsFollow : Prop :=
  let kept : State → Prop := fun s => s.DepthInRange ∧ s.PathInRange ∧ s.LogKept ∧ s.StationFollows;
  ∀ s t : State, kept s → step s = .next t → kept t

/-- Every event keeps each trip source ACTIVE exactly while its condition is present, and each group tripped exactly
by its sources (R51, R202, R203, R204, R154, R166, R167). For every state, reachable or not, whose wheels are coherent
and whose parameters lie in range; that SENSOR_STALE follows the channels is kept as well. -/
def Obligations.TripsFollow : Prop :=
  let kept : State → Prop := fun s =>
    s.ParamsInRange ∧ (∀ w : WheelId, (s.wheel w).Coherent) ∧ s.GroupsFollow ∧ s.SourcesFollow ∧ s.SensorStaleFollows;
  ∀ s t : State, kept s → step s = .next t → kept t

/-- Every event keeps the outputs what their rules make them, and sends the records of those that change (R28, R75,
R135, R154, R155, R158, R172, R173, R174, R177, R178, log entry 8). For every state, reachable or not: the feed
permit, the feed limit, the required flow, the pump state and command follow their facts, the wheel speeds lie within
the maximum, the differential is applied only while both wheels run in AUTO, START holds everything off, and every
value last sent is the value that stands. Every command but POWER_ON and MODULE_RESTART sends on the field line, with
the value that stands after it, a wheel, manifold, pump or feed record exactly where that value differs from the one
last sent, and besides the wheel record of R163, R164 and R166 at a stall and at the end of its pause. (That these
records stand in this order is the model's choice, log entry 8; that a moving plate exactly at its target would be
NEUTRAL is log entry 31; that a PUMP trip which ends a backflush recomputes the permit by R178, and so can turn it on,
against the words of R185, is log entry 38.) -/
def Obligations.OutputsFollow : Prop :=
  let kept : State → Prop := fun s =>
    s.ParamsInRange ∧ (∀ w : WheelId, (s.wheel w).Coherent ∧ s.WheelInRange w) ∧ s.PermitFollows ∧ s.LimitFollows ∧
      s.RequiredFollows ∧ s.PumpFollows ∧ s.DifferentialFollows ∧ s.StartHoldsOff ∧ s.Settled;
  (∀ s t : State, kept s → step s = .next t → kept t) ∧
  ∀ (s : State) (c : Instr), (∀ e g o, c ≠ .powerOn e g o) → c ≠ .moduleRestart →
    let forced : WheelId → Bool := fun w =>
      match c with
      | .stallTimerExpiry x now => x == w && timerDue (s.wheel w).stallTimer now
      | .stallPauseEnd x now => x == w && (s.wheel w).state == .stalled && timerDue (s.wheel w).stateTimer now
      | _ => false;
    ∃ t, exec c s = .next t ∧
      let record := fun w => FieldRecord.wheelSpeed w (t.wheel w).commanded;
      let changed := fun w => !forced w && (t.wheel w).commanded != (s.wheel w).sentSpeed;
      let manifold : ManifoldRecord :=
        match t.pm.move with
        | none => ⟨none, .neutral⟩
        | some m =>
          let position := t.value (.plate m.plate);
          ⟨some m.plate,
            if position < 10 * m.target then .extend
            else if 10 * (m.target : Int) < position then .retract
            else .neutral⟩;
      t.sent = ([WheelId.a, .b].filter forced).map record ++ ([WheelId.a, .b].filter changed).map record ++
        (if manifold = s.pm.sentRecord then [] else [.manifold manifold]) ++
        (if t.sr.command = s.sr.sentCommand then [] else [.pump t.sr.command]) ++
        if t.sr.feedPermit = s.sr.sentPermit ∧ t.sr.feedLimit = s.sr.sentLimit then []
        else [.feed t.sr.feedPermit t.sr.feedLimit]

/-- Every event keeps cutting to an OPEN panel and a CLEAR emergency source, and AUTO and HOLD told apart by the HOLD
causes (R31, R32, R33, R34, R37, R42, R55). For every state, reachable or not, in which the HOLD causes follow the
link, the DEPTH channel and the slopes, which every event keeps too. -/
def Obligations.ModesFollow : Prop :=
  let kept : State → Prop := fun s => s.ModeAllowed ∧ s.CausesFollow;
  ∀ s t : State, kept s → step s = .next t → kept t

/-- Every event keeps PM's table, snapshots, arbiter and move coherent (R133, R134, R140, R141, R150, R152, log entry
33). For every state, reachable or not: MOVING is a move in flight, HALTED is a tripped PLATES group, nothing is
pending while no move is in flight, no pending entry is of the moving or of a FAULTY plate, and the snapshots hold
entries of their class. (That the next phase of a HALTED arbiter is URGENT is the model's choice, log entry 33.) -/
def Obligations.ManifoldFollows : Prop :=
  ∀ s t : State, s.ManifoldCoherent → step s = .next t → t.ManifoldCoherent

/-- The state after reset has every invariant (R43, R20, R28, R154, R171, R202, log entry 9, log entry 10). Each
property that the statements above say every event keeps holds of State.reset (power-on with inactive inputs, the
model's choice, log entries 9 and 10). -/
def Obligations.InvariantsHoldAtReset : Prop :=
  let s := State.reset;
  s.ParamsInRange ∧ s.CountersBounded ∧ s.QueuesBounded ∧ s.TagsDistinct ∧ s.PlansWf ∧ s.LineWf ∧ s.LineOrdered ∧
    s.DepthInRange ∧ s.PathInRange ∧ s.LogKept ∧ s.StationFollows ∧
    (∀ w : WheelId, (s.wheel w).Coherent ∧ s.WheelInRange w) ∧ s.GroupsFollow ∧ s.SourcesFollow ∧
    s.SensorStaleFollows ∧ s.PermitFollows ∧ s.LimitFollows ∧ s.RequiredFollows ∧ s.PumpFollows ∧
    s.DifferentialFollows ∧ s.StartHoldsOff ∧ s.Settled ∧ s.ModeAllowed ∧ s.CausesFollow ∧ s.ManifoldCoherent
end

