-- ==== Sys2Proof/Laws/State.lean ====
section
/-! SUPPORT. For each named update of the state: what it sets, and that every other field is as it was. Each is true by
`rfl` and is a simp lemma, so that no proof need unfold a record update. -/

namespace Sys2Proof.Machine

@[simp] theorem State.begin_keeps (now : RunTime) (s : State) :
    (s.begin now).params = s.params ∧ (s.begin now).counters = s.counters ∧ (s.begin now).li = s.li ∧
    (s.begin now).mp = s.mp ∧ (s.begin now).fc = s.fc ∧ (s.begin now).di = s.di ∧ (s.begin now).sl = s.sl ∧
    (s.begin now).pm = s.pm ∧ (s.begin now).wd = s.wd ∧ (s.begin now).sr = s.sr ∧ (s.begin now).tu = s.tu ∧
    (s.begin now).pending = s.pending ∧ (s.begin now).runTime = now ∧ (s.begin now).sent = [] ∧
    (s.begin now).reports = [] ∧ (s.begin now).plateBusy = s.pm.busy := by
  refine ⟨?_, ?_, ?_, ?_, ?_, ?_, ?_, ?_, ?_, ?_, ?_, ?_, ?_, ?_, ?_, ?_⟩ <;> rfl

@[simp] theorem State.putLi_keeps (li : LineInterface) (s : State) :
    (s.putLi li).runTime = s.runTime ∧ (s.putLi li).params = s.params ∧ (s.putLi li).counters = s.counters ∧
    (s.putLi li).mp = s.mp ∧ (s.putLi li).fc = s.fc ∧ (s.putLi li).di = s.di ∧ (s.putLi li).sl = s.sl ∧
    (s.putLi li).pm = s.pm ∧ (s.putLi li).wd = s.wd ∧ (s.putLi li).sr = s.sr ∧ (s.putLi li).tu = s.tu ∧
    (s.putLi li).sent = s.sent ∧ (s.putLi li).reports = s.reports ∧ (s.putLi li).plateBusy = s.plateBusy ∧
    (s.putLi li).pending = s.pending ∧ (s.putLi li).li = li := by
  refine ⟨?_, ?_, ?_, ?_, ?_, ?_, ?_, ?_, ?_, ?_, ?_, ?_, ?_, ?_, ?_, ?_⟩ <;> rfl

@[simp] theorem State.putPm_keeps (pm : Manifold) (s : State) :
    (s.putPm pm).runTime = s.runTime ∧ (s.putPm pm).params = s.params ∧ (s.putPm pm).counters = s.counters ∧
    (s.putPm pm).li = s.li ∧ (s.putPm pm).mp = s.mp ∧ (s.putPm pm).fc = s.fc ∧ (s.putPm pm).di = s.di ∧
    (s.putPm pm).sl = s.sl ∧ (s.putPm pm).wd = s.wd ∧ (s.putPm pm).sr = s.sr ∧ (s.putPm pm).tu = s.tu ∧
    (s.putPm pm).sent = s.sent ∧ (s.putPm pm).reports = s.reports ∧ (s.putPm pm).plateBusy = s.plateBusy ∧
    (s.putPm pm).pending = s.pending ∧ (s.putPm pm).pm = pm := by
  refine ⟨?_, ?_, ?_, ?_, ?_, ?_, ?_, ?_, ?_, ?_, ?_, ?_, ?_, ?_, ?_, ?_⟩ <;> rfl

@[simp] theorem State.setPar_keeps (p : ParamId) (v : Int) (s : State) :
    (s.setPar p v).runTime = s.runTime ∧ (s.setPar p v).counters = s.counters ∧ (s.setPar p v).li = s.li ∧
    (s.setPar p v).mp = s.mp ∧ (s.setPar p v).fc = s.fc ∧ (s.setPar p v).di = s.di ∧ (s.setPar p v).sl = s.sl ∧
    (s.setPar p v).pm = s.pm ∧ (s.setPar p v).wd = s.wd ∧ (s.setPar p v).sr = s.sr ∧ (s.setPar p v).tu = s.tu ∧
    (s.setPar p v).sent = s.sent ∧ (s.setPar p v).reports = s.reports ∧ (s.setPar p v).plateBusy = s.plateBusy ∧
    (s.setPar p v).pending = s.pending ∧ (s.setPar p v).params = s.params.set p.idx.val v p.idx.isLt := by
  refine ⟨?_, ?_, ?_, ?_, ?_, ?_, ?_, ?_, ?_, ?_, ?_, ?_, ?_, ?_, ?_, ?_⟩ <;> rfl

@[simp] theorem State.setChan_keeps (c : Channel) (e : ChannelEntry) (s : State) :
    (s.setChan c e).runTime = s.runTime ∧ (s.setChan c e).params = s.params ∧ (s.setChan c e).counters = s.counters ∧
    (s.setChan c e).li = s.li ∧ (s.setChan c e).mp = s.mp ∧ (s.setChan c e).di = s.di ∧ (s.setChan c e).sl = s.sl ∧
    (s.setChan c e).pm = s.pm ∧ (s.setChan c e).wd = s.wd ∧ (s.setChan c e).sr = s.sr ∧ (s.setChan c e).tu = s.tu ∧
    (s.setChan c e).sent = s.sent ∧ (s.setChan c e).reports = s.reports ∧ (s.setChan c e).plateBusy = s.plateBusy ∧
    (s.setChan c e).pending = s.pending ∧
    (s.setChan c e).fc = { s.fc with channels := s.fc.channels.set c.idx.val e c.idx.isLt } := by
  refine ⟨?_, ?_, ?_, ?_, ?_, ?_, ?_, ?_, ?_, ?_, ?_, ?_, ?_, ?_, ?_, ?_⟩ <;> rfl

@[simp] theorem State.putWheel_keeps (w : WheelId) (v : Wheel) (s : State) :
    (s.putWheel w v).runTime = s.runTime ∧ (s.putWheel w v).params = s.params ∧
    (s.putWheel w v).counters = s.counters ∧ (s.putWheel w v).li = s.li ∧ (s.putWheel w v).mp = s.mp ∧
    (s.putWheel w v).fc = s.fc ∧ (s.putWheel w v).di = s.di ∧ (s.putWheel w v).sl = s.sl ∧
    (s.putWheel w v).pm = s.pm ∧ (s.putWheel w v).sr = s.sr ∧ (s.putWheel w v).tu = s.tu ∧
    (s.putWheel w v).sent = s.sent ∧ (s.putWheel w v).reports = s.reports ∧
    (s.putWheel w v).plateBusy = s.plateBusy ∧ (s.putWheel w v).pending = s.pending ∧
    (s.putWheel w v).wd = { s.wd with wheels := s.wd.wheels.set w v } := by
  refine ⟨?_, ?_, ?_, ?_, ?_, ?_, ?_, ?_, ?_, ?_, ?_, ?_, ?_, ?_, ?_, ?_⟩ <;> rfl

@[simp] theorem State.putSlope_keeps (a : Axis) (v : AxisSlope) (s : State) :
    (s.putSlope a v).runTime = s.runTime ∧ (s.putSlope a v).params = s.params ∧
    (s.putSlope a v).counters = s.counters ∧ (s.putSlope a v).li = s.li ∧ (s.putSlope a v).mp = s.mp ∧
    (s.putSlope a v).di = s.di ∧ (s.putSlope a v).sl = s.sl ∧ (s.putSlope a v).pm = s.pm ∧
    (s.putSlope a v).wd = s.wd ∧ (s.putSlope a v).sr = s.sr ∧ (s.putSlope a v).tu = s.tu ∧
    (s.putSlope a v).sent = s.sent ∧ (s.putSlope a v).reports = s.reports ∧
    (s.putSlope a v).plateBusy = s.plateBusy ∧ (s.putSlope a v).pending = s.pending ∧
    (s.putSlope a v).fc = { s.fc with slopes := s.fc.slopes.set a v } := by
  refine ⟨?_, ?_, ?_, ?_, ?_, ?_, ?_, ?_, ?_, ?_, ?_, ?_, ?_, ?_, ?_, ?_⟩ <;> rfl

@[simp] theorem State.addCounter_keeps (n k : Nat) (s : State) :
    (s.addCounter n k).runTime = s.runTime ∧ (s.addCounter n k).params = s.params ∧ (s.addCounter n k).li = s.li ∧
    (s.addCounter n k).mp = s.mp ∧ (s.addCounter n k).fc = s.fc ∧ (s.addCounter n k).di = s.di ∧
    (s.addCounter n k).sl = s.sl ∧ (s.addCounter n k).pm = s.pm ∧ (s.addCounter n k).wd = s.wd ∧
    (s.addCounter n k).sr = s.sr ∧ (s.addCounter n k).tu = s.tu ∧ (s.addCounter n k).sent = s.sent ∧
    (s.addCounter n k).reports = s.reports ∧ (s.addCounter n k).plateBusy = s.plateBusy ∧
    (s.addCounter n k).pending = s.pending := by
  simp [State.addCounter]

@[simp] theorem State.count_keeps (n : Nat) (s : State) :
    (s.count n).runTime = s.runTime ∧ (s.count n).params = s.params ∧ (s.count n).li = s.li ∧ (s.count n).mp = s.mp ∧
    (s.count n).fc = s.fc ∧ (s.count n).di = s.di ∧ (s.count n).sl = s.sl ∧ (s.count n).pm = s.pm ∧
    (s.count n).wd = s.wd ∧ (s.count n).sr = s.sr ∧ (s.count n).tu = s.tu ∧ (s.count n).sent = s.sent ∧
    (s.count n).reports = s.reports ∧ (s.count n).plateBusy = s.plateBusy ∧ (s.count n).pending = s.pending := by
  simp [State.count, State.addCounter]

@[simp] theorem State.zeroCounter_keeps (n : Nat) (s : State) :
    (s.zeroCounter n).runTime = s.runTime ∧ (s.zeroCounter n).params = s.params ∧ (s.zeroCounter n).li = s.li ∧
    (s.zeroCounter n).mp = s.mp ∧ (s.zeroCounter n).fc = s.fc ∧ (s.zeroCounter n).di = s.di ∧
    (s.zeroCounter n).sl = s.sl ∧ (s.zeroCounter n).pm = s.pm ∧ (s.zeroCounter n).wd = s.wd ∧
    (s.zeroCounter n).sr = s.sr ∧ (s.zeroCounter n).tu = s.tu ∧ (s.zeroCounter n).sent = s.sent ∧
    (s.zeroCounter n).reports = s.reports ∧ (s.zeroCounter n).plateBusy = s.plateBusy ∧
    (s.zeroCounter n).pending = s.pending := by
  simp [State.zeroCounter]

@[simp] theorem State.report_keeps (r : Report) (s : State) :
    (s.report r).runTime = s.runTime ∧ (s.report r).params = s.params ∧ (s.report r).counters = s.counters ∧
    (s.report r).li = s.li ∧ (s.report r).mp = s.mp ∧ (s.report r).fc = s.fc ∧ (s.report r).di = s.di ∧
    (s.report r).sl = s.sl ∧ (s.report r).pm = s.pm ∧ (s.report r).wd = s.wd ∧ (s.report r).sr = s.sr ∧
    (s.report r).tu = s.tu ∧ (s.report r).sent = s.sent ∧ (s.report r).plateBusy = s.plateBusy ∧
    (s.report r).pending = s.pending ∧ (s.report r).reports = s.reports ++ [r] := by
  refine ⟨?_, ?_, ?_, ?_, ?_, ?_, ?_, ?_, ?_, ?_, ?_, ?_, ?_, ?_, ?_, ?_⟩ <;> rfl

@[simp] theorem State.emit_keeps (r : FieldRecord) (s : State) :
    (s.emit r).runTime = s.runTime ∧ (s.emit r).params = s.params ∧ (s.emit r).counters = s.counters ∧
    (s.emit r).li = s.li ∧ (s.emit r).mp = s.mp ∧ (s.emit r).fc = s.fc ∧ (s.emit r).di = s.di ∧
    (s.emit r).sl = s.sl ∧ (s.emit r).pm = s.pm ∧ (s.emit r).wd = s.wd ∧ (s.emit r).sr = s.sr ∧
    (s.emit r).tu = s.tu ∧ (s.emit r).reports = s.reports ∧ (s.emit r).plateBusy = s.plateBusy ∧
    (s.emit r).pending = s.pending ∧ (s.emit r).sent = s.sent ++ [r] := by
  refine ⟨?_, ?_, ?_, ?_, ?_, ?_, ?_, ?_, ?_, ?_, ?_, ?_, ?_, ?_, ?_, ?_⟩ <;> rfl

@[simp] theorem setLinkCause_keeps (b : Bool) (s : State) :
    (setLinkCause b s).runTime = s.runTime ∧ (setLinkCause b s).params = s.params ∧
    (setLinkCause b s).counters = s.counters ∧ (setLinkCause b s).li = s.li ∧ (setLinkCause b s).fc = s.fc ∧
    (setLinkCause b s).di = s.di ∧ (setLinkCause b s).sl = s.sl ∧ (setLinkCause b s).pm = s.pm ∧
    (setLinkCause b s).wd = s.wd ∧ (setLinkCause b s).sr = s.sr ∧ (setLinkCause b s).tu = s.tu ∧
    (setLinkCause b s).sent = s.sent ∧ (setLinkCause b s).reports = s.reports ∧
    (setLinkCause b s).plateBusy = s.plateBusy ∧ (setLinkCause b s).pending = s.pending ∧
    (setLinkCause b s).mp = { s.mp with holdCauses := { s.mp.holdCauses with link := b } } := by
  refine ⟨?_, ?_, ?_, ?_, ?_, ?_, ?_, ?_, ?_, ?_, ?_, ?_, ?_, ?_, ?_, ?_⟩ <;> rfl

@[simp] theorem setDepthCause_keeps (b : Bool) (s : State) :
    (setDepthCause b s).runTime = s.runTime ∧ (setDepthCause b s).params = s.params ∧
    (setDepthCause b s).counters = s.counters ∧ (setDepthCause b s).li = s.li ∧ (setDepthCause b s).fc = s.fc ∧
    (setDepthCause b s).di = s.di ∧ (setDepthCause b s).sl = s.sl ∧ (setDepthCause b s).pm = s.pm ∧
    (setDepthCause b s).wd = s.wd ∧ (setDepthCause b s).sr = s.sr ∧ (setDepthCause b s).tu = s.tu ∧
    (setDepthCause b s).sent = s.sent ∧ (setDepthCause b s).reports = s.reports ∧
    (setDepthCause b s).plateBusy = s.plateBusy ∧ (setDepthCause b s).pending = s.pending ∧
    (setDepthCause b s).mp = { s.mp with holdCauses := { s.mp.holdCauses with depth := b } } := by
  refine ⟨?_, ?_, ?_, ?_, ?_, ?_, ?_, ?_, ?_, ?_, ?_, ?_, ?_, ?_, ?_, ?_⟩ <;> rfl

@[simp] theorem setSlopeCause_keeps (b : Bool) (s : State) :
    (setSlopeCause b s).runTime = s.runTime ∧ (setSlopeCause b s).params = s.params ∧
    (setSlopeCause b s).counters = s.counters ∧ (setSlopeCause b s).li = s.li ∧ (setSlopeCause b s).fc = s.fc ∧
    (setSlopeCause b s).di = s.di ∧ (setSlopeCause b s).sl = s.sl ∧ (setSlopeCause b s).pm = s.pm ∧
    (setSlopeCause b s).wd = s.wd ∧ (setSlopeCause b s).sr = s.sr ∧ (setSlopeCause b s).tu = s.tu ∧
    (setSlopeCause b s).sent = s.sent ∧ (setSlopeCause b s).reports = s.reports ∧
    (setSlopeCause b s).plateBusy = s.plateBusy ∧ (setSlopeCause b s).pending = s.pending ∧
    (setSlopeCause b s).mp = { s.mp with holdCauses := { s.mp.holdCauses with slope := b } } := by
  refine ⟨?_, ?_, ?_, ?_, ?_, ?_, ?_, ?_, ?_, ?_, ?_, ?_, ?_, ?_, ?_, ?_⟩ <;> rfl

@[simp] theorem setLoad_keeps (l : Option PlanLoad) (s : State) :
    (setLoad l s).runTime = s.runTime ∧ (setLoad l s).params = s.params ∧ (setLoad l s).counters = s.counters ∧
    (setLoad l s).li = s.li ∧ (setLoad l s).mp = s.mp ∧ (setLoad l s).fc = s.fc ∧ (setLoad l s).di = s.di ∧
    (setLoad l s).pm = s.pm ∧ (setLoad l s).wd = s.wd ∧ (setLoad l s).sr = s.sr ∧ (setLoad l s).tu = s.tu ∧
    (setLoad l s).sent = s.sent ∧ (setLoad l s).reports = s.reports ∧ (setLoad l s).plateBusy = s.plateBusy ∧
    (setLoad l s).pending = s.pending ∧ (setLoad l s).sl = { s.sl with load := l } := by
  refine ⟨?_, ?_, ?_, ?_, ?_, ?_, ?_, ?_, ?_, ?_, ?_, ?_, ?_, ?_, ?_, ?_⟩ <;> rfl

@[simp] theorem setOpen_keeps (r : Option OpenRecord) (s : State) :
    (setOpen r s).runTime = s.runTime ∧ (setOpen r s).params = s.params ∧ (setOpen r s).counters = s.counters ∧
    (setOpen r s).li = s.li ∧ (setOpen r s).mp = s.mp ∧ (setOpen r s).fc = s.fc ∧ (setOpen r s).sl = s.sl ∧
    (setOpen r s).pm = s.pm ∧ (setOpen r s).wd = s.wd ∧ (setOpen r s).sr = s.sr ∧ (setOpen r s).tu = s.tu ∧
    (setOpen r s).sent = s.sent ∧ (setOpen r s).reports = s.reports ∧ (setOpen r s).plateBusy = s.plateBusy ∧
    (setOpen r s).pending = s.pending ∧ (setOpen r s).di = { s.di with openRecord := r } := by
  refine ⟨?_, ?_, ?_, ?_, ?_, ?_, ?_, ?_, ?_, ?_, ?_, ?_, ?_, ?_, ?_, ?_⟩ <;> rfl

@[simp] theorem changeOpen_keeps (f : OpenRecord → OpenRecord) (s : State) :
    (changeOpen f s).runTime = s.runTime ∧ (changeOpen f s).params = s.params ∧
    (changeOpen f s).counters = s.counters ∧ (changeOpen f s).li = s.li ∧ (changeOpen f s).mp = s.mp ∧
    (changeOpen f s).fc = s.fc ∧ (changeOpen f s).sl = s.sl ∧ (changeOpen f s).pm = s.pm ∧
    (changeOpen f s).wd = s.wd ∧ (changeOpen f s).sr = s.sr ∧ (changeOpen f s).tu = s.tu ∧
    (changeOpen f s).sent = s.sent ∧ (changeOpen f s).reports = s.reports ∧
    (changeOpen f s).plateBusy = s.plateBusy ∧ (changeOpen f s).pending = s.pending ∧
    (changeOpen f s).di = { s.di with openRecord := s.di.openRecord.map f } := by
  refine ⟨?_, ?_, ?_, ?_, ?_, ?_, ?_, ?_, ?_, ?_, ?_, ?_, ?_, ?_, ?_, ?_⟩ <;> rfl

/-! ### Reads after writes -/

/-- The channel that was written reads as written (R48). -/
@[simp] theorem State.chan_setChan_same (s : State) (c : Channel) (e : ChannelEntry) : (s.setChan c e).chan c = e := by
  simp [State.chan, State.setChan, Vector.get_eq_getElem]

/-- A channel's own number names it (section 3.1, R47). -/
theorem Channel.ofNumber_idx (c : Channel) : Channel.ofNumber (c.idx.val + 1) = some c := by
  cases c with
  | incl m a => cases m <;> cases a <;> decide
  | speed w => cases w <;> decide
  | press w => cases w <;> decide
  | plate p => revert p; decide
  | twist => decide
  | depth => decide
  | pumpPress => decide
  | retFlow => decide
  | retDens => decide

/-- Channels with the same place in the table are the same channel (section 3.1). -/
theorem Channel.idx_injective (c d : Channel) (h : c.idx = d.idx) : c = d := by
  have := Channel.ofNumber_idx c
  rw [h, Channel.ofNumber_idx d] at this
  exact (Option.some.inj this).symm

/-- Every other channel reads as before (R48). -/
theorem State.chan_setChan_other (s : State) (c d : Channel) (e : ChannelEntry) (h : c ≠ d) :
    (s.setChan c e).chan d = s.chan d := by
  have hi : c.idx.val ≠ d.idx.val := fun hv => h (Channel.idx_injective c d (Fin.ext hv))
  simp [State.chan, State.setChan, Vector.get_eq_getElem, hi]

/-- A parameter's own identifier names it (section 1.8). -/
theorem ParamId.ofNumber_number (p : ParamId) : ParamId.ofNumber p.number = some p := by
  cases p <;> decide

/-- Parameters with the same place in the table are the same parameter (section 1.8). -/
theorem ParamId.idx_injective (p q : ParamId) (h : p.idx = q.idx) : p = q := by
  have hp : ∀ r : ParamId, ParamId.all[r.idx.val]? = some r := by intro r; cases r <;> rfl
  have := hp p
  rw [h, hp q] at this
  exact (Option.some.inj this).symm

/-- The parameter that was stored reads as stored (R21). -/
@[simp] theorem State.par_setPar_same (s : State) (p : ParamId) (v : Int) : (s.setPar p v).par p = v := by
  simp [State.par, State.setPar, Vector.get_eq_getElem]

/-- Every other parameter reads as before (R21). -/
theorem State.par_setPar_other (s : State) (p q : ParamId) (v : Int) (h : p ≠ q) : (s.setPar p v).par q = s.par q := by
  have hi : p.idx.val ≠ q.idx.val := fun hv => h (ParamId.idx_injective p q (Fin.ext hv))
  simp [State.par, State.setPar, Vector.get_eq_getElem, hi]

/-- What was put for a wheel reads as put. -/
@[simp] theorem State.wheel_putWheel_same (s : State) (w : WheelId) (v : Wheel) : (s.putWheel w v).wheel w = v := by
  cases w <;> rfl

/-- The other wheel reads as before. -/
@[simp] theorem State.wheel_putWheel_other (s : State) (w : WheelId) (v : Wheel) :
    (s.putWheel w v).wheel (otherWheel w) = s.wheel (otherWheel w) := by
  cases w <;> rfl

end Sys2Proof.Machine
end

