-- ==== Sys2Proof/Laws/Frames.lean ====
section
/-! SUPPORT. The frame of every shared operation, once: which fields of the state it leaves as they were. Each is a simp
lemma, so that a proof about a field that an operation does not touch need not unfold the operation. -/

namespace Sys2Proof.Machine

/-- R173. -/
@[simp] theorem recomputeRequired_keeps (s : State) :
    (recomputeRequired s).runTime = s.runTime ∧ (recomputeRequired s).params = s.params ∧
    (recomputeRequired s).counters = s.counters ∧ (recomputeRequired s).li = s.li ∧ (recomputeRequired s).mp = s.mp ∧
    (recomputeRequired s).fc = s.fc ∧ (recomputeRequired s).di = s.di ∧ (recomputeRequired s).sl = s.sl ∧
    (recomputeRequired s).pm = s.pm ∧ (recomputeRequired s).wd = s.wd ∧ (recomputeRequired s).tu = s.tu ∧
    (recomputeRequired s).sent = s.sent ∧ (recomputeRequired s).reports = s.reports ∧
    (recomputeRequired s).plateBusy = s.plateBusy ∧ (recomputeRequired s).pending = s.pending := by
  simp [recomputeRequired]

/-- R174. -/
@[simp] theorem recomputePump_keeps (s : State) :
    (recomputePump s).runTime = s.runTime ∧ (recomputePump s).params = s.params ∧
    (recomputePump s).counters = s.counters ∧ (recomputePump s).li = s.li ∧ (recomputePump s).mp = s.mp ∧
    (recomputePump s).fc = s.fc ∧ (recomputePump s).di = s.di ∧ (recomputePump s).sl = s.sl ∧
    (recomputePump s).pm = s.pm ∧ (recomputePump s).wd = s.wd ∧ (recomputePump s).tu = s.tu ∧
    (recomputePump s).sent = s.sent ∧ (recomputePump s).reports = s.reports ∧
    (recomputePump s).plateBusy = s.plateBusy ∧ (recomputePump s).pending = s.pending := by
  unfold recomputePump
  split <;> simp

/-- R172. -/
@[simp] theorem refreshPump_keeps (s : State) :
    (refreshPump s).runTime = s.runTime ∧ (refreshPump s).params = s.params ∧ (refreshPump s).counters = s.counters ∧
    (refreshPump s).li = s.li ∧ (refreshPump s).mp = s.mp ∧ (refreshPump s).fc = s.fc ∧ (refreshPump s).di = s.di ∧
    (refreshPump s).sl = s.sl ∧ (refreshPump s).pm = s.pm ∧ (refreshPump s).wd = s.wd ∧ (refreshPump s).tu = s.tu ∧
    (refreshPump s).sent = s.sent ∧ (refreshPump s).reports = s.reports ∧ (refreshPump s).plateBusy = s.plateBusy ∧
    (refreshPump s).pending = s.pending := by
  simp [refreshPump]

/-- R177. -/
@[simp] theorem recomputeFeedLimit_keeps (s : State) :
    (recomputeFeedLimit s).runTime = s.runTime ∧ (recomputeFeedLimit s).params = s.params ∧
    (recomputeFeedLimit s).counters = s.counters ∧ (recomputeFeedLimit s).li = s.li ∧
    (recomputeFeedLimit s).mp = s.mp ∧ (recomputeFeedLimit s).fc = s.fc ∧ (recomputeFeedLimit s).di = s.di ∧
    (recomputeFeedLimit s).sl = s.sl ∧ (recomputeFeedLimit s).pm = s.pm ∧ (recomputeFeedLimit s).wd = s.wd ∧
    (recomputeFeedLimit s).tu = s.tu ∧ (recomputeFeedLimit s).sent = s.sent ∧
    (recomputeFeedLimit s).reports = s.reports ∧ (recomputeFeedLimit s).plateBusy = s.plateBusy ∧
    (recomputeFeedLimit s).pending = s.pending := by
  simp [recomputeFeedLimit]

/-- R178. -/
@[simp] theorem recomputePermit_keeps (s : State) :
    (recomputePermit s).runTime = s.runTime ∧ (recomputePermit s).params = s.params ∧
    (recomputePermit s).counters = s.counters ∧ (recomputePermit s).li = s.li ∧ (recomputePermit s).mp = s.mp ∧
    (recomputePermit s).fc = s.fc ∧ (recomputePermit s).di = s.di ∧ (recomputePermit s).sl = s.sl ∧
    (recomputePermit s).pm = s.pm ∧ (recomputePermit s).wd = s.wd ∧ (recomputePermit s).tu = s.tu ∧
    (recomputePermit s).sent = s.sent ∧ (recomputePermit s).reports = s.reports ∧
    (recomputePermit s).plateBusy = s.plateBusy ∧ (recomputePermit s).pending = s.pending := by
  simp [recomputePermit]

/-- R173. -/
@[simp] theorem feedHandOff_keeps (rate : Int) (s : State) :
    (feedHandOff rate s).runTime = s.runTime ∧ (feedHandOff rate s).params = s.params ∧
    (feedHandOff rate s).counters = s.counters ∧ (feedHandOff rate s).li = s.li ∧ (feedHandOff rate s).mp = s.mp ∧
    (feedHandOff rate s).fc = s.fc ∧ (feedHandOff rate s).di = s.di ∧ (feedHandOff rate s).sl = s.sl ∧
    (feedHandOff rate s).pm = s.pm ∧ (feedHandOff rate s).wd = s.wd ∧ (feedHandOff rate s).tu = s.tu ∧
    (feedHandOff rate s).sent = s.sent ∧ (feedHandOff rate s).reports = s.reports ∧
    (feedHandOff rate s).plateBusy = s.plateBusy ∧ (feedHandOff rate s).pending = s.pending := by
  simp [feedHandOff]

/-- R38, R173, R177, R178. -/
@[simp] theorem slurryEnter_keeps (old : Mode) (s : State) :
    (slurryEnter old s).runTime = s.runTime ∧ (slurryEnter old s).params = s.params ∧
    (slurryEnter old s).counters = s.counters ∧ (slurryEnter old s).li = s.li ∧ (slurryEnter old s).mp = s.mp ∧
    (slurryEnter old s).fc = s.fc ∧ (slurryEnter old s).di = s.di ∧ (slurryEnter old s).sl = s.sl ∧
    (slurryEnter old s).pm = s.pm ∧ (slurryEnter old s).wd = s.wd ∧ (slurryEnter old s).tu = s.tu ∧
    (slurryEnter old s).sent = s.sent ∧ (slurryEnter old s).reports = s.reports ∧
    (slurryEnter old s).plateBusy = s.plateBusy ∧ (slurryEnter old s).pending = s.pending := by
  simp only [slurryEnter]
  split <;> simp

/-- R185. -/
@[simp] theorem pumpTripped_keeps (s : State) :
    (pumpTripped s).runTime = s.runTime ∧ (pumpTripped s).params = s.params ∧ (pumpTripped s).counters = s.counters ∧
    (pumpTripped s).li = s.li ∧ (pumpTripped s).mp = s.mp ∧ (pumpTripped s).fc = s.fc ∧ (pumpTripped s).di = s.di ∧
    (pumpTripped s).sl = s.sl ∧ (pumpTripped s).pm = s.pm ∧ (pumpTripped s).wd = s.wd ∧ (pumpTripped s).tu = s.tu ∧
    (pumpTripped s).sent = s.sent ∧ (pumpTripped s).reports = s.reports ∧ (pumpTripped s).plateBusy = s.plateBusy ∧
    (pumpTripped s).pending = s.pending := by
  simp [pumpTripped]

/-- R185. -/
@[simp] theorem pumpUntripped_keeps (s : State) :
    (pumpUntripped s).runTime = s.runTime ∧ (pumpUntripped s).params = s.params ∧
    (pumpUntripped s).counters = s.counters ∧ (pumpUntripped s).li = s.li ∧ (pumpUntripped s).mp = s.mp ∧
    (pumpUntripped s).fc = s.fc ∧ (pumpUntripped s).di = s.di ∧ (pumpUntripped s).sl = s.sl ∧
    (pumpUntripped s).pm = s.pm ∧ (pumpUntripped s).wd = s.wd ∧ (pumpUntripped s).tu = s.tu ∧
    (pumpUntripped s).sent = s.sent ∧ (pumpUntripped s).reports = s.reports ∧
    (pumpUntripped s).plateBusy = s.plateBusy ∧ (pumpUntripped s).pending = s.pending := by
  simp [pumpUntripped]

/-- R159. -/
@[simp] theorem formTargets_keeps (s : State) :
    (formTargets s).runTime = s.runTime ∧ (formTargets s).params = s.params ∧ (formTargets s).counters = s.counters ∧
    (formTargets s).li = s.li ∧ (formTargets s).mp = s.mp ∧ (formTargets s).fc = s.fc ∧ (formTargets s).di = s.di ∧
    (formTargets s).sl = s.sl ∧ (formTargets s).pm = s.pm ∧ (formTargets s).sr = s.sr ∧ (formTargets s).tu = s.tu ∧
    (formTargets s).sent = s.sent ∧ (formTargets s).reports = s.reports ∧ (formTargets s).plateBusy = s.plateBusy ∧
    (formTargets s).pending = s.pending := by
  simp [formTargets]

/-- R158. -/
@[simp] theorem setApplied_keeps (d : Int) (s : State) :
    (setApplied d s).runTime = s.runTime ∧ (setApplied d s).params = s.params ∧
    (setApplied d s).counters = s.counters ∧ (setApplied d s).li = s.li ∧ (setApplied d s).mp = s.mp ∧
    (setApplied d s).fc = s.fc ∧ (setApplied d s).di = s.di ∧ (setApplied d s).sl = s.sl ∧
    (setApplied d s).pm = s.pm ∧ (setApplied d s).sr = s.sr ∧ (setApplied d s).tu = s.tu ∧
    (setApplied d s).sent = s.sent ∧ (setApplied d s).reports = s.reports ∧
    (setApplied d s).plateBusy = s.plateBusy ∧ (setApplied d s).pending = s.pending := by
  unfold setApplied
  split <;> simp

/-- R158. -/
@[simp] theorem differentialSent_keeps (d : Int) (s : State) :
    (differentialSent d s).runTime = s.runTime ∧ (differentialSent d s).params = s.params ∧
    (differentialSent d s).counters = s.counters ∧ (differentialSent d s).li = s.li ∧
    (differentialSent d s).mp = s.mp ∧ (differentialSent d s).fc = s.fc ∧ (differentialSent d s).di = s.di ∧
    (differentialSent d s).sl = s.sl ∧ (differentialSent d s).pm = s.pm ∧ (differentialSent d s).sr = s.sr ∧
    (differentialSent d s).tu = s.tu ∧ (differentialSent d s).sent = s.sent ∧
    (differentialSent d s).reports = s.reports ∧ (differentialSent d s).plateBusy = s.plateBusy ∧
    (differentialSent d s).pending = s.pending := by
  simp [differentialSent]

/-- R157. -/
@[simp] theorem maximumStored_keeps (old : Int) (s : State) :
    (maximumStored old s).runTime = s.runTime ∧ (maximumStored old s).params = s.params ∧
    (maximumStored old s).counters = s.counters ∧ (maximumStored old s).li = s.li ∧ (maximumStored old s).mp = s.mp ∧
    (maximumStored old s).fc = s.fc ∧ (maximumStored old s).di = s.di ∧ (maximumStored old s).sl = s.sl ∧
    (maximumStored old s).pm = s.pm ∧ (maximumStored old s).sr = s.sr ∧ (maximumStored old s).tu = s.tu ∧
    (maximumStored old s).sent = s.sent ∧ (maximumStored old s).reports = s.reports ∧
    (maximumStored old s).plateBusy = s.plateBusy ∧ (maximumStored old s).pending = s.pending := by
  simp only [maximumStored]
  split <;> simp

/-- R155, R158, R170. -/
@[simp] theorem changeWheel_keeps (w : WheelId) (v : Wheel) (s : State) :
    (changeWheel w v s).runTime = s.runTime ∧ (changeWheel w v s).params = s.params ∧
    (changeWheel w v s).counters = s.counters ∧ (changeWheel w v s).li = s.li ∧ (changeWheel w v s).mp = s.mp ∧
    (changeWheel w v s).fc = s.fc ∧ (changeWheel w v s).di = s.di ∧ (changeWheel w v s).sl = s.sl ∧
    (changeWheel w v s).pm = s.pm ∧ (changeWheel w v s).tu = s.tu ∧ (changeWheel w v s).sent = s.sent ∧
    (changeWheel w v s).reports = s.reports ∧ (changeWheel w v s).plateBusy = s.plateBusy ∧
    (changeWheel w v s).pending = s.pending := by
  simp only [changeWheel]
  split <;> simp

/-- R156. -/
@[simp] theorem wheelSet_keeps (w : WheelId) (d : Direction) (base : Int) (s : State) :
    (wheelSet w d base s).runTime = s.runTime ∧ (wheelSet w d base s).params = s.params ∧
    (wheelSet w d base s).counters = s.counters ∧ (wheelSet w d base s).li = s.li ∧ (wheelSet w d base s).mp = s.mp ∧
    (wheelSet w d base s).fc = s.fc ∧ (wheelSet w d base s).di = s.di ∧ (wheelSet w d base s).sl = s.sl ∧
    (wheelSet w d base s).pm = s.pm ∧ (wheelSet w d base s).tu = s.tu ∧ (wheelSet w d base s).sent = s.sent ∧
    (wheelSet w d base s).reports = s.reports ∧ (wheelSet w d base s).plateBusy = s.plateBusy ∧
    (wheelSet w d base s).pending = s.pending := by
  simp [wheelSet]

/-- R160 to R162. -/
@[simp] theorem speedArrival_keeps (w : WheelId) (m : Int) (s : State) :
    (speedArrival w m s).runTime = s.runTime ∧ (speedArrival w m s).params = s.params ∧
    (speedArrival w m s).counters = s.counters ∧ (speedArrival w m s).li = s.li ∧ (speedArrival w m s).mp = s.mp ∧
    (speedArrival w m s).fc = s.fc ∧ (speedArrival w m s).di = s.di ∧ (speedArrival w m s).sl = s.sl ∧
    (speedArrival w m s).pm = s.pm ∧ (speedArrival w m s).tu = s.tu ∧ (speedArrival w m s).sent = s.sent ∧
    (speedArrival w m s).reports = s.reports ∧ (speedArrival w m s).plateBusy = s.plateBusy ∧
    (speedArrival w m s).pending = s.pending := by
  simp [speedArrival]

/-- R162. -/
@[simp] theorem pressArrival_keeps (w : WheelId) (s : State) :
    (pressArrival w s).runTime = s.runTime ∧ (pressArrival w s).params = s.params ∧
    (pressArrival w s).counters = s.counters ∧ (pressArrival w s).li = s.li ∧ (pressArrival w s).mp = s.mp ∧
    (pressArrival w s).fc = s.fc ∧ (pressArrival w s).di = s.di ∧ (pressArrival w s).sl = s.sl ∧
    (pressArrival w s).pm = s.pm ∧ (pressArrival w s).tu = s.tu ∧ (pressArrival w s).sent = s.sent ∧
    (pressArrival w s).reports = s.reports ∧ (pressArrival w s).plateBusy = s.plateBusy ∧
    (pressArrival w s).pending = s.pending := by
  simp [pressArrival]

/-- R162. -/
@[simp] theorem wheelChannelLeft_keeps (w : WheelId) (s : State) :
    (wheelChannelLeft w s).runTime = s.runTime ∧ (wheelChannelLeft w s).params = s.params ∧
    (wheelChannelLeft w s).counters = s.counters ∧ (wheelChannelLeft w s).li = s.li ∧
    (wheelChannelLeft w s).mp = s.mp ∧ (wheelChannelLeft w s).fc = s.fc ∧ (wheelChannelLeft w s).di = s.di ∧
    (wheelChannelLeft w s).sl = s.sl ∧ (wheelChannelLeft w s).pm = s.pm ∧ (wheelChannelLeft w s).tu = s.tu ∧
    (wheelChannelLeft w s).sent = s.sent ∧ (wheelChannelLeft w s).reports = s.reports ∧
    (wheelChannelLeft w s).plateBusy = s.plateBusy ∧ (wheelChannelLeft w s).pending = s.pending := by
  simp [wheelChannelLeft]

/-- R163. -/
@[simp] theorem stall_keeps (w : WheelId) (s : State) :
    (stall w s).runTime = s.runTime ∧ (stall w s).params = s.params ∧ (stall w s).li = s.li ∧ (stall w s).mp = s.mp ∧
    (stall w s).fc = s.fc ∧ (stall w s).di = s.di ∧ (stall w s).sl = s.sl ∧ (stall w s).pm = s.pm ∧
    (stall w s).tu = s.tu ∧ (stall w s).sent = s.sent ∧ (stall w s).reports = s.reports ∧
    (stall w s).plateBusy = s.plateBusy ∧ (stall w s).pending = s.pending := by
  simp [stall]

/-- R164. -/
@[simp] theorem reverseEntry_keeps (w : WheelId) (s : State) :
    (reverseEntry w s).runTime = s.runTime ∧ (reverseEntry w s).params = s.params ∧ (reverseEntry w s).li = s.li ∧
    (reverseEntry w s).mp = s.mp ∧ (reverseEntry w s).fc = s.fc ∧ (reverseEntry w s).di = s.di ∧
    (reverseEntry w s).sl = s.sl ∧ (reverseEntry w s).pm = s.pm ∧ (reverseEntry w s).tu = s.tu ∧
    (reverseEntry w s).sent = s.sent ∧ (reverseEntry w s).reports = s.reports ∧
    (reverseEntry w s).plateBusy = s.plateBusy ∧ (reverseEntry w s).pending = s.pending := by
  simp [reverseEntry]

/-- R166. -/
@[simp] theorem lockOut_keeps (w : WheelId) (s : State) :
    (lockOut w s).runTime = s.runTime ∧ (lockOut w s).params = s.params ∧ (lockOut w s).counters = s.counters ∧
    (lockOut w s).li = s.li ∧ (lockOut w s).mp = s.mp ∧ (lockOut w s).fc = s.fc ∧ (lockOut w s).di = s.di ∧
    (lockOut w s).sl = s.sl ∧ (lockOut w s).pm = s.pm ∧ (lockOut w s).tu = s.tu ∧ (lockOut w s).sent = s.sent ∧
    (lockOut w s).reports = s.reports ∧ (lockOut w s).plateBusy = s.plateBusy ∧ (lockOut w s).pending = s.pending := by
  simp [lockOut]

/-- R165. -/
@[simp] theorem reverseEnd_keeps (w : WheelId) (s : State) :
    (reverseEnd w s).runTime = s.runTime ∧ (reverseEnd w s).params = s.params ∧
    (reverseEnd w s).counters = s.counters ∧ (reverseEnd w s).li = s.li ∧ (reverseEnd w s).mp = s.mp ∧
    (reverseEnd w s).fc = s.fc ∧ (reverseEnd w s).di = s.di ∧ (reverseEnd w s).sl = s.sl ∧
    (reverseEnd w s).pm = s.pm ∧ (reverseEnd w s).tu = s.tu ∧ (reverseEnd w s).sent = s.sent ∧
    (reverseEnd w s).reports = s.reports ∧ (reverseEnd w s).plateBusy = s.plateBusy ∧
    (reverseEnd w s).pending = s.pending := by
  simp [reverseEnd]

/-- R167. -/
@[simp] theorem wheelClear_keeps (w : WheelId) (s : State) :
    (wheelClear w s).runTime = s.runTime ∧ (wheelClear w s).params = s.params ∧
    (wheelClear w s).counters = s.counters ∧ (wheelClear w s).li = s.li ∧ (wheelClear w s).mp = s.mp ∧
    (wheelClear w s).fc = s.fc ∧ (wheelClear w s).di = s.di ∧ (wheelClear w s).sl = s.sl ∧
    (wheelClear w s).pm = s.pm ∧ (wheelClear w s).tu = s.tu ∧ (wheelClear w s).sent = s.sent ∧
    (wheelClear w s).reports = s.reports ∧ (wheelClear w s).plateBusy = s.plateBusy ∧
    (wheelClear w s).pending = s.pending := by
  simp [wheelClear]

/-- R168. -/
@[simp] theorem wheelsEnter_keeps (old : Mode) (s : State) :
    (wheelsEnter old s).runTime = s.runTime ∧ (wheelsEnter old s).params = s.params ∧
    (wheelsEnter old s).counters = s.counters ∧ (wheelsEnter old s).li = s.li ∧ (wheelsEnter old s).mp = s.mp ∧
    (wheelsEnter old s).fc = s.fc ∧ (wheelsEnter old s).di = s.di ∧ (wheelsEnter old s).sl = s.sl ∧
    (wheelsEnter old s).pm = s.pm ∧ (wheelsEnter old s).tu = s.tu ∧ (wheelsEnter old s).sent = s.sent ∧
    (wheelsEnter old s).reports = s.reports ∧ (wheelsEnter old s).plateBusy = s.plateBusy ∧
    (wheelsEnter old s).pending = s.pending := by
  simp [wheelsEnter]

/-- R169. -/
@[simp] theorem wheelTripped_keeps (w : WheelId) (s : State) :
    (wheelTripped w s).runTime = s.runTime ∧ (wheelTripped w s).params = s.params ∧
    (wheelTripped w s).counters = s.counters ∧ (wheelTripped w s).li = s.li ∧ (wheelTripped w s).mp = s.mp ∧
    (wheelTripped w s).fc = s.fc ∧ (wheelTripped w s).di = s.di ∧ (wheelTripped w s).sl = s.sl ∧
    (wheelTripped w s).pm = s.pm ∧ (wheelTripped w s).tu = s.tu ∧ (wheelTripped w s).sent = s.sent ∧
    (wheelTripped w s).reports = s.reports ∧ (wheelTripped w s).plateBusy = s.plateBusy ∧
    (wheelTripped w s).pending = s.pending := by
  simp only [wheelTripped]
  split <;> simp

/-- R149. -/
@[simp] theorem endDone_keeps (s : State) :
    (endDone s).runTime = s.runTime ∧ (endDone s).params = s.params ∧ (endDone s).li = s.li ∧ (endDone s).mp = s.mp ∧
    (endDone s).fc = s.fc ∧ (endDone s).di = s.di ∧ (endDone s).sl = s.sl ∧ (endDone s).wd = s.wd ∧
    (endDone s).sr = s.sr ∧ (endDone s).tu = s.tu ∧ (endDone s).sent = s.sent ∧ (endDone s).reports = s.reports ∧
    (endDone s).plateBusy = s.plateBusy ∧ (endDone s).pending = s.pending := by
  simp [endDone]

/-- R149. -/
@[simp] theorem endFailed_keeps (p : Plate) (s : State) :
    (endFailed p s).runTime = s.runTime ∧ (endFailed p s).params = s.params ∧ (endFailed p s).li = s.li ∧
    (endFailed p s).mp = s.mp ∧ (endFailed p s).fc = s.fc ∧ (endFailed p s).di = s.di ∧ (endFailed p s).sl = s.sl ∧
    (endFailed p s).wd = s.wd ∧ (endFailed p s).sr = s.sr ∧ (endFailed p s).tu = s.tu ∧
    (endFailed p s).sent = s.sent ∧ (endFailed p s).reports = s.reports ∧ (endFailed p s).plateBusy = s.plateBusy ∧
    (endFailed p s).pending = s.pending := by
  simp [endFailed]

/-- R142. -/
@[simp] theorem startMove_keeps (p : Plate) (t : Nat) (pm : Manifold) (s : State) :
    (startMove p t pm s).runTime = s.runTime ∧ (startMove p t pm s).params = s.params ∧
    (startMove p t pm s).counters = s.counters ∧ (startMove p t pm s).li = s.li ∧ (startMove p t pm s).mp = s.mp ∧
    (startMove p t pm s).fc = s.fc ∧ (startMove p t pm s).di = s.di ∧ (startMove p t pm s).sl = s.sl ∧
    (startMove p t pm s).wd = s.wd ∧ (startMove p t pm s).sr = s.sr ∧ (startMove p t pm s).tu = s.tu ∧
    (startMove p t pm s).sent = s.sent ∧ (startMove p t pm s).reports = s.reports ∧
    (startMove p t pm s).pending = s.pending := by
  simp [startMove]

/-- R141, R142. -/
@[simp] theorem grantRounds_keeps (n : Nat) (s : State) :
    (grantRounds n s).runTime = s.runTime ∧ (grantRounds n s).params = s.params ∧ (grantRounds n s).li = s.li ∧
    (grantRounds n s).mp = s.mp ∧ (grantRounds n s).fc = s.fc ∧ (grantRounds n s).di = s.di ∧
    (grantRounds n s).sl = s.sl ∧ (grantRounds n s).wd = s.wd ∧ (grantRounds n s).sr = s.sr ∧
    (grantRounds n s).tu = s.tu ∧ (grantRounds n s).sent = s.sent ∧ (grantRounds n s).reports = s.reports ∧
    (grantRounds n s).pending = s.pending := by
  induction n generalizing s with
  | zero => simp [grantRounds]
  | succ n ih =>
    unfold grantRounds
    split
    · simp
    · split
      · simp [ih]
      · dsimp only
        split
        · simp [ih]
        · split <;> simp [ih]

/-- R140. -/
@[simp] theorem grantPoint_keeps (s : State) :
    (grantPoint s).runTime = s.runTime ∧ (grantPoint s).params = s.params ∧ (grantPoint s).li = s.li ∧
    (grantPoint s).mp = s.mp ∧ (grantPoint s).fc = s.fc ∧ (grantPoint s).di = s.di ∧ (grantPoint s).sl = s.sl ∧
    (grantPoint s).wd = s.wd ∧ (grantPoint s).sr = s.sr ∧ (grantPoint s).tu = s.tu ∧ (grantPoint s).sent = s.sent ∧
    (grantPoint s).reports = s.reports ∧ (grantPoint s).pending = s.pending := by
  simp [grantPoint]

/-- R148. -/
@[simp] theorem retarget_keeps (m : PlateMove) (t : Nat) (s : State) :
    (retarget m t s).runTime = s.runTime ∧ (retarget m t s).params = s.params ∧ (retarget m t s).li = s.li ∧
    (retarget m t s).mp = s.mp ∧ (retarget m t s).fc = s.fc ∧ (retarget m t s).di = s.di ∧
    (retarget m t s).sl = s.sl ∧ (retarget m t s).wd = s.wd ∧ (retarget m t s).sr = s.sr ∧
    (retarget m t s).tu = s.tu ∧ (retarget m t s).sent = s.sent ∧ (retarget m t s).reports = s.reports ∧
    (retarget m t s).pending = s.pending := by
  unfold retarget
  split
  · simp
  · dsimp only
    split <;> simp

/-- R137. -/
@[simp] theorem metInPlace_keeps (p : Plate) (t : Nat) (s : State) :
    (metInPlace p t s).runTime = s.runTime ∧ (metInPlace p t s).params = s.params ∧
    (metInPlace p t s).counters = s.counters ∧ (metInPlace p t s).li = s.li ∧ (metInPlace p t s).mp = s.mp ∧
    (metInPlace p t s).fc = s.fc ∧ (metInPlace p t s).di = s.di ∧ (metInPlace p t s).sl = s.sl ∧
    (metInPlace p t s).wd = s.wd ∧ (metInPlace p t s).sr = s.sr ∧ (metInPlace p t s).tu = s.tu ∧
    (metInPlace p t s).sent = s.sent ∧ (metInPlace p t s).reports = s.reports ∧
    (metInPlace p t s).plateBusy = s.plateBusy ∧ (metInPlace p t s).pending = s.pending := by
  simp [metInPlace]

/-- R138. -/
@[simp] theorem replaceEntry_keeps (p : Plate) (e : PlateEntry) (t : Nat) (c : PlateClass) (s : State) :
    (replaceEntry p e t c s).runTime = s.runTime ∧ (replaceEntry p e t c s).params = s.params ∧
    (replaceEntry p e t c s).counters = s.counters ∧ (replaceEntry p e t c s).li = s.li ∧
    (replaceEntry p e t c s).mp = s.mp ∧ (replaceEntry p e t c s).fc = s.fc ∧ (replaceEntry p e t c s).di = s.di ∧
    (replaceEntry p e t c s).sl = s.sl ∧ (replaceEntry p e t c s).wd = s.wd ∧ (replaceEntry p e t c s).sr = s.sr ∧
    (replaceEntry p e t c s).tu = s.tu ∧ (replaceEntry p e t c s).sent = s.sent ∧
    (replaceEntry p e t c s).reports = s.reports ∧ (replaceEntry p e t c s).plateBusy = s.plateBusy ∧
    (replaceEntry p e t c s).pending = s.pending := by
  simp [replaceEntry]

/-- R136. -/
@[simp] theorem makeEntry_keeps (p : Plate) (t : Nat) (c : PlateClass) (s : State) :
    (makeEntry p t c s).runTime = s.runTime ∧ (makeEntry p t c s).params = s.params ∧ (makeEntry p t c s).li = s.li ∧
    (makeEntry p t c s).mp = s.mp ∧ (makeEntry p t c s).fc = s.fc ∧ (makeEntry p t c s).di = s.di ∧
    (makeEntry p t c s).sl = s.sl ∧ (makeEntry p t c s).wd = s.wd ∧ (makeEntry p t c s).sr = s.sr ∧
    (makeEntry p t c s).tu = s.tu ∧ (makeEntry p t c s).sent = s.sent ∧ (makeEntry p t c s).reports = s.reports ∧
    (makeEntry p t c s).pending = s.pending := by
  simp only [makeEntry]
  split <;> simp

/-- R136. -/
@[simp] theorem requestEntry_keeps (p : Plate) (t : Nat) (c : PlateClass) (s : State) :
    (requestEntry p t c s).runTime = s.runTime ∧ (requestEntry p t c s).params = s.params ∧
    (requestEntry p t c s).li = s.li ∧ (requestEntry p t c s).mp = s.mp ∧ (requestEntry p t c s).fc = s.fc ∧
    (requestEntry p t c s).di = s.di ∧ (requestEntry p t c s).sl = s.sl ∧ (requestEntry p t c s).wd = s.wd ∧
    (requestEntry p t c s).sr = s.sr ∧ (requestEntry p t c s).tu = s.tu ∧ (requestEntry p t c s).sent = s.sent ∧
    (requestEntry p t c s).reports = s.reports ∧ (requestEntry p t c s).pending = s.pending := by
  unfold requestEntry
  split
  · simp
  · split <;> simp

/-- R136. -/
@[simp] theorem plateRequest_keeps (p : Plate) (t : Nat) (c : PlateClass) (s : State) :
    (plateRequest p t c s).runTime = s.runTime ∧ (plateRequest p t c s).params = s.params ∧
    (plateRequest p t c s).li = s.li ∧ (plateRequest p t c s).mp = s.mp ∧ (plateRequest p t c s).fc = s.fc ∧
    (plateRequest p t c s).di = s.di ∧ (plateRequest p t c s).sl = s.sl ∧ (plateRequest p t c s).wd = s.wd ∧
    (plateRequest p t c s).sr = s.sr ∧ (plateRequest p t c s).tu = s.tu ∧ (plateRequest p t c s).sent = s.sent ∧
    (plateRequest p t c s).reports = s.reports ∧ (plateRequest p t c s).pending = s.pending := by
  unfold plateRequest
  split
  · simp
  · split
    · simp
    · split
      · split <;> simp
      · simp

/-- R145. -/
@[simp] theorem plateArrival_keeps (p : Plate) (s : State) :
    (plateArrival p s).runTime = s.runTime ∧ (plateArrival p s).params = s.params ∧ (plateArrival p s).li = s.li ∧
    (plateArrival p s).mp = s.mp ∧ (plateArrival p s).fc = s.fc ∧ (plateArrival p s).di = s.di ∧
    (plateArrival p s).sl = s.sl ∧ (plateArrival p s).wd = s.wd ∧ (plateArrival p s).sr = s.sr ∧
    (plateArrival p s).tu = s.tu ∧ (plateArrival p s).sent = s.sent ∧ (plateArrival p s).reports = s.reports ∧
    (plateArrival p s).pending = s.pending := by
  unfold plateArrival
  split
  · split <;> simp
  · simp

/-- R146, R147. -/
@[simp] theorem failMove_keeps (p : Plate) (s : State) :
    (failMove p s).runTime = s.runTime ∧ (failMove p s).params = s.params ∧ (failMove p s).li = s.li ∧
    (failMove p s).mp = s.mp ∧ (failMove p s).fc = s.fc ∧ (failMove p s).di = s.di ∧ (failMove p s).sl = s.sl ∧
    (failMove p s).wd = s.wd ∧ (failMove p s).sr = s.sr ∧ (failMove p s).tu = s.tu ∧ (failMove p s).sent = s.sent ∧
    (failMove p s).reports = s.reports ∧ (failMove p s).pending = s.pending := by
  simp [failMove]

/-- R147. -/
@[simp] theorem plateChannelLeft_keeps (p : Plate) (s : State) :
    (plateChannelLeft p s).runTime = s.runTime ∧ (plateChannelLeft p s).params = s.params ∧
    (plateChannelLeft p s).li = s.li ∧ (plateChannelLeft p s).mp = s.mp ∧ (plateChannelLeft p s).fc = s.fc ∧
    (plateChannelLeft p s).di = s.di ∧ (plateChannelLeft p s).sl = s.sl ∧ (plateChannelLeft p s).wd = s.wd ∧
    (plateChannelLeft p s).sr = s.sr ∧ (plateChannelLeft p s).tu = s.tu ∧ (plateChannelLeft p s).sent = s.sent ∧
    (plateChannelLeft p s).reports = s.reports ∧ (plateChannelLeft p s).pending = s.pending := by
  unfold plateChannelLeft
  split
  · split <;> simp
  · simp

/-- R150. -/
@[simp] theorem platesEnter_keeps (s : State) :
    (platesEnter s).runTime = s.runTime ∧ (platesEnter s).params = s.params ∧ (platesEnter s).counters = s.counters ∧
    (platesEnter s).li = s.li ∧ (platesEnter s).mp = s.mp ∧ (platesEnter s).fc = s.fc ∧ (platesEnter s).di = s.di ∧
    (platesEnter s).sl = s.sl ∧ (platesEnter s).wd = s.wd ∧ (platesEnter s).sr = s.sr ∧ (platesEnter s).tu = s.tu ∧
    (platesEnter s).sent = s.sent ∧ (platesEnter s).reports = s.reports ∧ (platesEnter s).plateBusy = s.plateBusy ∧
    (platesEnter s).pending = s.pending := by
  unfold platesEnter
  split <;> simp [platesStandby, platesManual]

/-- R152. -/
@[simp] theorem platesHalt_keeps (s : State) :
    (platesHalt s).runTime = s.runTime ∧ (platesHalt s).params = s.params ∧ (platesHalt s).counters = s.counters ∧
    (platesHalt s).li = s.li ∧ (platesHalt s).mp = s.mp ∧ (platesHalt s).fc = s.fc ∧ (platesHalt s).di = s.di ∧
    (platesHalt s).sl = s.sl ∧ (platesHalt s).wd = s.wd ∧ (platesHalt s).sr = s.sr ∧ (platesHalt s).tu = s.tu ∧
    (platesHalt s).sent = s.sent ∧ (platesHalt s).reports = s.reports ∧ (platesHalt s).plateBusy = s.plateBusy ∧
    (platesHalt s).pending = s.pending := by
  simp [platesHalt]

/-- R153. -/
@[simp] theorem platesRelease_keeps (s : State) :
    (platesRelease s).runTime = s.runTime ∧ (platesRelease s).params = s.params ∧
    (platesRelease s).counters = s.counters ∧ (platesRelease s).li = s.li ∧ (platesRelease s).mp = s.mp ∧
    (platesRelease s).fc = s.fc ∧ (platesRelease s).di = s.di ∧ (platesRelease s).sl = s.sl ∧
    (platesRelease s).wd = s.wd ∧ (platesRelease s).sr = s.sr ∧ (platesRelease s).tu = s.tu ∧
    (platesRelease s).sent = s.sent ∧ (platesRelease s).reports = s.reports ∧
    (platesRelease s).plateBusy = s.plateBusy ∧ (platesRelease s).pending = s.pending := by
  simp [platesRelease]

/-- R38, R128. -/
@[simp] theorem steeringEnter_keeps (s : State) :
    (steeringEnter s).runTime = s.runTime ∧ (steeringEnter s).params = s.params ∧
    (steeringEnter s).counters = s.counters ∧ (steeringEnter s).li = s.li ∧ (steeringEnter s).mp = s.mp ∧
    (steeringEnter s).fc = s.fc ∧ (steeringEnter s).di = s.di ∧ (steeringEnter s).pm = s.pm ∧
    (steeringEnter s).wd = s.wd ∧ (steeringEnter s).sr = s.sr ∧ (steeringEnter s).tu = s.tu ∧
    (steeringEnter s).sent = s.sent ∧ (steeringEnter s).reports = s.reports ∧
    (steeringEnter s).plateBusy = s.plateBusy ∧ (steeringEnter s).pending = s.pending := by
  unfold steeringEnter
  split <;> simp

/-- R27, R38: the panel and its header are kept. -/
@[simp] theorem changeMode_keeps (m : Mode) (s : State) :
    (changeMode m s).runTime = s.runTime ∧ (changeMode m s).params = s.params ∧
    (changeMode m s).counters = s.counters ∧ (changeMode m s).li = s.li ∧ (changeMode m s).fc = s.fc ∧
    (changeMode m s).di = s.di ∧ (changeMode m s).tu = s.tu ∧ (changeMode m s).sent = s.sent ∧
    (changeMode m s).plateBusy = s.plateBusy ∧ (changeMode m s).pending = s.pending := by
  unfold changeMode
  split <;> simp

/-- R34. -/
@[simp] theorem holdTest_keeps (s : State) :
    (holdTest s).runTime = s.runTime ∧ (holdTest s).params = s.params ∧ (holdTest s).li = s.li ∧
    (holdTest s).fc = s.fc ∧ (holdTest s).di = s.di ∧ (holdTest s).tu = s.tu ∧ (holdTest s).sent = s.sent ∧
    (holdTest s).plateBusy = s.plateBusy ∧ (holdTest s).pending = s.pending := by
  unfold holdTest
  split
  · split <;> simp
  · split <;> simp
  all_goals simp

/-- R37. -/
@[simp] theorem emergencyStandby_keeps (s : State) :
    (emergencyStandby s).runTime = s.runTime ∧ (emergencyStandby s).params = s.params ∧
    (emergencyStandby s).counters = s.counters ∧ (emergencyStandby s).li = s.li ∧ (emergencyStandby s).fc = s.fc ∧
    (emergencyStandby s).di = s.di ∧ (emergencyStandby s).tu = s.tu ∧ (emergencyStandby s).sent = s.sent ∧
    (emergencyStandby s).plateBusy = s.plateBusy ∧ (emergencyStandby s).pending = s.pending := by
  unfold emergencyStandby
  split <;> simp

/-- R204. -/
@[simp] theorem groupReport_keeps (g : Group) (b : Bool) (s : State) :
    (groupReport g b s).runTime = s.runTime ∧ (groupReport g b s).params = s.params ∧
    (groupReport g b s).counters = s.counters ∧ (groupReport g b s).li = s.li ∧ (groupReport g b s).mp = s.mp ∧
    (groupReport g b s).fc = s.fc ∧ (groupReport g b s).di = s.di ∧ (groupReport g b s).sl = s.sl ∧
    (groupReport g b s).tu = s.tu ∧ (groupReport g b s).sent = s.sent ∧ (groupReport g b s).reports = s.reports ∧
    (groupReport g b s).plateBusy = s.plateBusy ∧ (groupReport g b s).pending = s.pending := by
  unfold groupReport
  split <;> simp

/-- A fold over reports keeps what each report keeps. -/
theorem foldl_keeps {α β γ : Type} (f : β → α → β) (g : β → γ) (h : ∀ b a, g (f b a) = g b) (l : List α) (b : β) :
    g (l.foldl f b) = g b := by
  induction l generalizing b with
  | nil => rfl
  | cons a l ih => simp [ih, h]

/-- R204: the source states and the map are kept. -/
@[simp] theorem recomputeGroups_keeps (s : State) :
    (recomputeGroups s).runTime = s.runTime ∧ (recomputeGroups s).params = s.params ∧
    (recomputeGroups s).counters = s.counters ∧ (recomputeGroups s).li = s.li ∧ (recomputeGroups s).mp = s.mp ∧
    (recomputeGroups s).fc = s.fc ∧ (recomputeGroups s).di = s.di ∧ (recomputeGroups s).sl = s.sl ∧
    (recomputeGroups s).sent = s.sent ∧ (recomputeGroups s).reports = s.reports ∧
    (recomputeGroups s).plateBusy = s.plateBusy ∧ (recomputeGroups s).pending = s.pending ∧
    (recomputeGroups s).tu = { s.tu with groups := s.tu.groupsNow } := by
  simp only [recomputeGroups]
  refine ⟨?_, ?_, ?_, ?_, ?_, ?_, ?_, ?_, ?_, ?_, ?_, ?_, ?_⟩ <;>
    · refine (foldl_keeps _ _ ?_ _ _).trans rfl
      intro b a
      split <;> simp

/-- R203. -/
@[simp] theorem setSource_keeps (i : Source) (st : SourceState) (s : State) :
    (setSource i st s).runTime = s.runTime ∧ (setSource i st s).params = s.params ∧
    (setSource i st s).counters = s.counters ∧ (setSource i st s).li = s.li ∧ (setSource i st s).mp = s.mp ∧
    (setSource i st s).fc = s.fc ∧ (setSource i st s).di = s.di ∧ (setSource i st s).sl = s.sl ∧
    (setSource i st s).sent = s.sent ∧ (setSource i st s).reports = s.reports ∧
    (setSource i st s).plateBusy = s.plateBusy ∧ (setSource i st s).pending = s.pending := by
  simp [setSource]

/-- R203. -/
@[simp] theorem condition_keeps (i : Source) (b : Bool) (s : State) :
    (condition i b s).runTime = s.runTime ∧ (condition i b s).params = s.params ∧
    (condition i b s).counters = s.counters ∧ (condition i b s).li = s.li ∧ (condition i b s).fc = s.fc ∧
    (condition i b s).di = s.di ∧ (condition i b s).sent = s.sent ∧ (condition i b s).plateBusy = s.plateBusy ∧
    (condition i b s).pending = s.pending := by
  unfold condition
  split
  · dsimp only
    split <;> simp
  · dsimp only
    split <;> simp
  · simp
  all_goals simp

/-- R197. -/
@[simp] theorem emptyLine_keeps (s : State) :
    (emptyLine s).runTime = s.runTime ∧ (emptyLine s).params = s.params ∧ (emptyLine s).li = s.li ∧
    (emptyLine s).mp = s.mp ∧ (emptyLine s).fc = s.fc ∧ (emptyLine s).di = s.di ∧ (emptyLine s).sl = s.sl ∧
    (emptyLine s).pm = s.pm ∧ (emptyLine s).wd = s.wd ∧ (emptyLine s).tu = s.tu ∧ (emptyLine s).sent = s.sent ∧
    (emptyLine s).reports = s.reports ∧ (emptyLine s).plateBusy = s.plateBusy ∧ (emptyLine s).pending = s.pending := by
  simp [emptyLine]

/-- R190. -/
@[simp] theorem cutterHandOff_keeps (s : State) :
    (cutterHandOff s).runTime = s.runTime ∧ (cutterHandOff s).params = s.params ∧
    (cutterHandOff s).counters = s.counters ∧ (cutterHandOff s).li = s.li ∧ (cutterHandOff s).mp = s.mp ∧
    (cutterHandOff s).fc = s.fc ∧ (cutterHandOff s).di = s.di ∧ (cutterHandOff s).sl = s.sl ∧
    (cutterHandOff s).pm = s.pm ∧ (cutterHandOff s).wd = s.wd ∧ (cutterHandOff s).tu = s.tu ∧
    (cutterHandOff s).sent = s.sent ∧ (cutterHandOff s).reports = s.reports ∧
    (cutterHandOff s).plateBusy = s.plateBusy ∧ (cutterHandOff s).pending = s.pending := by
  simp [cutterHandOff]

/-- R191. -/
@[simp] theorem placeLitres_keeps (v : Litres) (n : Nat) (s : State) :
    (placeLitres v n s).runTime = s.runTime ∧ (placeLitres v n s).params = s.params ∧ (placeLitres v n s).li = s.li ∧
    (placeLitres v n s).mp = s.mp ∧ (placeLitres v n s).fc = s.fc ∧ (placeLitres v n s).di = s.di ∧
    (placeLitres v n s).sl = s.sl ∧ (placeLitres v n s).pm = s.pm ∧ (placeLitres v n s).wd = s.wd ∧
    (placeLitres v n s).tu = s.tu ∧ (placeLitres v n s).sent = s.sent ∧ (placeLitres v n s).reports = s.reports ∧
    (placeLitres v n s).plateBusy = s.plateBusy ∧ (placeLitres v n s).pending = s.pending := by
  unfold placeLitres
  split <;> simp

/-- R92. -/
@[simp] theorem attribution_keeps (k pass : Nat) (d : Int) (v : Nat) (s : State) :
    (attribution k pass d v s).runTime = s.runTime ∧ (attribution k pass d v s).params = s.params ∧
    (attribution k pass d v s).li = s.li ∧ (attribution k pass d v s).mp = s.mp ∧
    (attribution k pass d v s).fc = s.fc ∧ (attribution k pass d v s).sl = s.sl ∧
    (attribution k pass d v s).pm = s.pm ∧ (attribution k pass d v s).wd = s.wd ∧
    (attribution k pass d v s).sr = s.sr ∧ (attribution k pass d v s).tu = s.tu ∧
    (attribution k pass d v s).sent = s.sent ∧ (attribution k pass d v s).plateBusy = s.plateBusy ∧
    (attribution k pass d v s).pending = s.pending := by
  unfold attribution
  split
  · simp
  · split
    · simp
    · split
      · split <;> simp
      · simp

/-- R196. -/
@[simp] theorem attributeParcel_keeps (p : Parcel) (s : State) :
    (attributeParcel s p).runTime = s.runTime ∧ (attributeParcel s p).params = s.params ∧
    (attributeParcel s p).li = s.li ∧ (attributeParcel s p).mp = s.mp ∧ (attributeParcel s p).fc = s.fc ∧
    (attributeParcel s p).sl = s.sl ∧ (attributeParcel s p).pm = s.pm ∧ (attributeParcel s p).wd = s.wd ∧
    (attributeParcel s p).sr = s.sr ∧ (attributeParcel s p).tu = s.tu ∧ (attributeParcel s p).sent = s.sent ∧
    (attributeParcel s p).plateBusy = s.plateBusy ∧ (attributeParcel s p).pending = s.pending := by
  unfold attributeParcel
  split <;> simp

/-- R194. -/
@[simp] theorem testArrivals_keeps (s : State) :
    (testArrivals s).runTime = s.runTime ∧ (testArrivals s).params = s.params ∧ (testArrivals s).li = s.li ∧
    (testArrivals s).mp = s.mp ∧ (testArrivals s).fc = s.fc ∧ (testArrivals s).sl = s.sl ∧
    (testArrivals s).pm = s.pm ∧ (testArrivals s).wd = s.wd ∧ (testArrivals s).tu = s.tu ∧
    (testArrivals s).sent = s.sent ∧ (testArrivals s).plateBusy = s.plateBusy ∧
    (testArrivals s).pending = s.pending := by
  simp only [testArrivals]
  refine ⟨?_, ?_, ?_, ?_, ?_, ?_, ?_, ?_, ?_, ?_, ?_, ?_⟩ <;>
    · refine (foldl_keeps _ _ ?_ _ _).trans rfl
      intro b a
      simp

/-- R188. -/
@[simp] theorem pumpedVolume_keeps (f : Int) (s : State) :
    (pumpedVolume f s).runTime = s.runTime ∧ (pumpedVolume f s).params = s.params ∧ (pumpedVolume f s).li = s.li ∧
    (pumpedVolume f s).mp = s.mp ∧ (pumpedVolume f s).fc = s.fc ∧ (pumpedVolume f s).sl = s.sl ∧
    (pumpedVolume f s).pm = s.pm ∧ (pumpedVolume f s).wd = s.wd ∧ (pumpedVolume f s).tu = s.tu ∧
    (pumpedVolume f s).sent = s.sent ∧ (pumpedVolume f s).plateBusy = s.plateBusy ∧
    (pumpedVolume f s).pending = s.pending := by
  simp only [pumpedVolume]
  split
  · split <;> simp
  · simp

/-- R195. -/
@[simp] theorem densitySample_keeps (v : Int) (s : State) :
    (densitySample v s).runTime = s.runTime ∧ (densitySample v s).params = s.params ∧
    (densitySample v s).counters = s.counters ∧ (densitySample v s).li = s.li ∧ (densitySample v s).mp = s.mp ∧
    (densitySample v s).fc = s.fc ∧ (densitySample v s).di = s.di ∧ (densitySample v s).sl = s.sl ∧
    (densitySample v s).pm = s.pm ∧ (densitySample v s).wd = s.wd ∧ (densitySample v s).tu = s.tu ∧
    (densitySample v s).sent = s.sent ∧ (densitySample v s).reports = s.reports ∧
    (densitySample v s).plateBusy = s.plateBusy ∧ (densitySample v s).pending = s.pending := by
  unfold densitySample
  split
  · split <;> simp
  · simp

/-- R175. -/
@[simp] theorem adjustTrim_keeps (v : Int) (s : State) :
    (adjustTrim v s).runTime = s.runTime ∧ (adjustTrim v s).params = s.params ∧
    (adjustTrim v s).counters = s.counters ∧ (adjustTrim v s).li = s.li ∧ (adjustTrim v s).mp = s.mp ∧
    (adjustTrim v s).fc = s.fc ∧ (adjustTrim v s).di = s.di ∧ (adjustTrim v s).sl = s.sl ∧
    (adjustTrim v s).pm = s.pm ∧ (adjustTrim v s).wd = s.wd ∧ (adjustTrim v s).tu = s.tu ∧
    (adjustTrim v s).sent = s.sent ∧ (adjustTrim v s).reports = s.reports ∧
    (adjustTrim v s).plateBusy = s.plateBusy ∧ (adjustTrim v s).pending = s.pending := by
  unfold adjustTrim
  split <;> simp

/-- R179. -/
@[simp] theorem densityWatch_keeps (v : Int) (s : State) :
    (densityWatch v s).runTime = s.runTime ∧ (densityWatch v s).params = s.params ∧
    (densityWatch v s).counters = s.counters ∧ (densityWatch v s).li = s.li ∧ (densityWatch v s).fc = s.fc ∧
    (densityWatch v s).di = s.di ∧ (densityWatch v s).sent = s.sent ∧ (densityWatch v s).plateBusy = s.plateBusy ∧
    (densityWatch v s).pending = s.pending := by
  simp only [densityWatch]
  split <;> split <;> simp

/-- R182. -/
@[simp] theorem startBackflush_keeps (s : State) :
    (startBackflush s).runTime = s.runTime ∧ (startBackflush s).params = s.params ∧ (startBackflush s).li = s.li ∧
    (startBackflush s).mp = s.mp ∧ (startBackflush s).fc = s.fc ∧ (startBackflush s).di = s.di ∧
    (startBackflush s).sl = s.sl ∧ (startBackflush s).pm = s.pm ∧ (startBackflush s).wd = s.wd ∧
    (startBackflush s).tu = s.tu ∧ (startBackflush s).sent = s.sent ∧ (startBackflush s).reports = s.reports ∧
    (startBackflush s).plateBusy = s.plateBusy ∧ (startBackflush s).pending = s.pending := by
  simp [startBackflush]

/-- R183. -/
@[simp] theorem endBackflush_keeps (s : State) :
    (endBackflush s).runTime = s.runTime ∧ (endBackflush s).params = s.params ∧
    (endBackflush s).counters = s.counters ∧ (endBackflush s).li = s.li ∧ (endBackflush s).mp = s.mp ∧
    (endBackflush s).fc = s.fc ∧ (endBackflush s).di = s.di ∧ (endBackflush s).sl = s.sl ∧
    (endBackflush s).pm = s.pm ∧ (endBackflush s).wd = s.wd ∧ (endBackflush s).tu = s.tu ∧
    (endBackflush s).sent = s.sent ∧ (endBackflush s).reports = s.reports ∧
    (endBackflush s).plateBusy = s.plateBusy ∧ (endBackflush s).pending = s.pending := by
  simp [endBackflush]

/-- R180. -/
@[simp] theorem blockageWatch_keeps (s : State) :
    (blockageWatch s).runTime = s.runTime ∧ (blockageWatch s).params = s.params ∧
    (blockageWatch s).counters = s.counters ∧ (blockageWatch s).li = s.li ∧ (blockageWatch s).fc = s.fc ∧
    (blockageWatch s).di = s.di ∧ (blockageWatch s).sent = s.sent ∧ (blockageWatch s).plateBusy = s.plateBusy ∧
    (blockageWatch s).pending = s.pending := by
  unfold blockageWatch
  split
  · split
    · split <;> simp
    · dsimp only
      split <;> simp
  · simp

/-- R180. -/
@[simp] theorem blockageSuspend_keeps (s : State) :
    (blockageSuspend s).runTime = s.runTime ∧ (blockageSuspend s).params = s.params ∧
    (blockageSuspend s).counters = s.counters ∧ (blockageSuspend s).li = s.li ∧ (blockageSuspend s).mp = s.mp ∧
    (blockageSuspend s).fc = s.fc ∧ (blockageSuspend s).di = s.di ∧ (blockageSuspend s).sl = s.sl ∧
    (blockageSuspend s).pm = s.pm ∧ (blockageSuspend s).wd = s.wd ∧ (blockageSuspend s).tu = s.tu ∧
    (blockageSuspend s).sent = s.sent ∧ (blockageSuspend s).reports = s.reports ∧
    (blockageSuspend s).plateBusy = s.plateBusy ∧ (blockageSuspend s).pending = s.pending := by
  simp [blockageSuspend]

/-- R180, R184. -/
@[simp] theorem blockagePresent_keeps (s : State) :
    (blockagePresent s).runTime = s.runTime ∧ (blockagePresent s).params = s.params ∧ (blockagePresent s).li = s.li ∧
    (blockagePresent s).fc = s.fc ∧ (blockagePresent s).di = s.di ∧ (blockagePresent s).sent = s.sent ∧
    (blockagePresent s).plateBusy = s.plateBusy ∧ (blockagePresent s).pending = s.pending := by
  simp only [blockagePresent]
  split <;> simp

/-- R69. -/
@[simp] theorem integrateTo_keeps (d : Int) (s : State) :
    (integrateTo d s).runTime = s.runTime ∧ (integrateTo d s).params = s.params ∧
    (integrateTo d s).counters = s.counters ∧ (integrateTo d s).li = s.li ∧ (integrateTo d s).mp = s.mp ∧
    (integrateTo d s).fc = s.fc ∧ (integrateTo d s).sl = s.sl ∧ (integrateTo d s).pm = s.pm ∧
    (integrateTo d s).wd = s.wd ∧ (integrateTo d s).sr = s.sr ∧ (integrateTo d s).tu = s.tu ∧
    (integrateTo d s).sent = s.sent ∧ (integrateTo d s).reports = s.reports ∧
    (integrateTo d s).plateBusy = s.plateBusy ∧ (integrateTo d s).pending = s.pending := by
  unfold integrateTo
  split <;> simp

/-- R72, R73. -/
@[simp] theorem enterStation_keeps (k : Int) (s : State) :
    (enterStation k s).runTime = s.runTime ∧ (enterStation k s).params = s.params ∧
    (enterStation k s).counters = s.counters ∧ (enterStation k s).li = s.li ∧ (enterStation k s).mp = s.mp ∧
    (enterStation k s).fc = s.fc ∧ (enterStation k s).sl = s.sl ∧ (enterStation k s).pm = s.pm ∧
    (enterStation k s).wd = s.wd ∧ (enterStation k s).sr = s.sr ∧ (enterStation k s).tu = s.tu ∧
    (enterStation k s).sent = s.sent ∧ (enterStation k s).reports = s.reports ∧
    (enterStation k s).plateBusy = s.plateBusy ∧ (enterStation k s).pending = s.pending := by
  simp [enterStation]

/-- R89. -/
@[simp] theorem writeRecord_keeps (r : StationRecord) (s : State) :
    (writeRecord r s).runTime = s.runTime ∧ (writeRecord r s).params = s.params ∧ (writeRecord r s).li = s.li ∧
    (writeRecord r s).mp = s.mp ∧ (writeRecord r s).fc = s.fc ∧ (writeRecord r s).sl = s.sl ∧
    (writeRecord r s).pm = s.pm ∧ (writeRecord r s).wd = s.wd ∧ (writeRecord r s).sr = s.sr ∧
    (writeRecord r s).tu = s.tu ∧ (writeRecord r s).sent = s.sent ∧ (writeRecord r s).plateBusy = s.plateBusy ∧
    (writeRecord r s).pending = s.pending := by
  simp only [writeRecord]
  split <;> simp

/-- R72, R85. -/
@[simp] theorem closeStation_keeps (k b : Int) (r : Bool) (s : State) :
    (closeStation k b r s).runTime = s.runTime ∧ (closeStation k b r s).params = s.params ∧
    (closeStation k b r s).li = s.li ∧ (closeStation k b r s).mp = s.mp ∧ (closeStation k b r s).fc = s.fc ∧
    (closeStation k b r s).sl = s.sl ∧ (closeStation k b r s).pm = s.pm ∧ (closeStation k b r s).wd = s.wd ∧
    (closeStation k b r s).sr = s.sr ∧ (closeStation k b r s).tu = s.tu ∧ (closeStation k b r s).sent = s.sent ∧
    (closeStation k b r s).plateBusy = s.plateBusy ∧ (closeStation k b r s).pending = s.pending := by
  unfold closeStation
  split
  · split <;> simp
  · simp

/-- R72. -/
@[simp] theorem crossDown_keeps (r : Bool) (b : Int) (s : State) :
    (crossDown r s b).runTime = s.runTime ∧ (crossDown r s b).params = s.params ∧ (crossDown r s b).li = s.li ∧
    (crossDown r s b).mp = s.mp ∧ (crossDown r s b).fc = s.fc ∧ (crossDown r s b).sl = s.sl ∧
    (crossDown r s b).pm = s.pm ∧ (crossDown r s b).wd = s.wd ∧ (crossDown r s b).sr = s.sr ∧
    (crossDown r s b).tu = s.tu ∧ (crossDown r s b).sent = s.sent ∧ (crossDown r s b).plateBusy = s.plateBusy ∧
    (crossDown r s b).pending = s.pending := by
  simp [crossDown]

/-- R73. -/
@[simp] theorem crossUp_keeps (b : Int) (s : State) :
    (crossUp s b).runTime = s.runTime ∧ (crossUp s b).params = s.params ∧ (crossUp s b).counters = s.counters ∧
    (crossUp s b).li = s.li ∧ (crossUp s b).mp = s.mp ∧ (crossUp s b).fc = s.fc ∧ (crossUp s b).sl = s.sl ∧
    (crossUp s b).pm = s.pm ∧ (crossUp s b).wd = s.wd ∧ (crossUp s b).sr = s.sr ∧ (crossUp s b).tu = s.tu ∧
    (crossUp s b).sent = s.sent ∧ (crossUp s b).reports = s.reports ∧ (crossUp s b).plateBusy = s.plateBusy ∧
    (crossUp s b).pending = s.pending := by
  simp [crossUp]

/-- R69 to R73. -/
@[simp] theorem takeStep_keeps (d : Int) (r : Bool) (s : State) :
    (takeStep d r s).runTime = s.runTime ∧ (takeStep d r s).params = s.params ∧ (takeStep d r s).li = s.li ∧
    (takeStep d r s).mp = s.mp ∧ (takeStep d r s).fc = s.fc ∧ (takeStep d r s).sl = s.sl ∧
    (takeStep d r s).pm = s.pm ∧ (takeStep d r s).wd = s.wd ∧ (takeStep d r s).sr = s.sr ∧
    (takeStep d r s).tu = s.tu ∧ (takeStep d r s).sent = s.sent ∧ (takeStep d r s).plateBusy = s.plateBusy ∧
    (takeStep d r s).pending = s.pending := by
  simp only [takeStep]
  split
  · refine ⟨?_, ?_, ?_, ?_, ?_, ?_, ?_, ?_, ?_, ?_, ?_, ?_, ?_⟩ <;>
    · simp only [integrateTo_keeps]
      refine foldl_keeps _ _ ?_ _ _
      intro b a
      simp
  · refine ⟨?_, ?_, ?_, ?_, ?_, ?_, ?_, ?_, ?_, ?_, ?_, ?_, ?_⟩ <;>
    · simp only [integrateTo_keeps]
      refine foldl_keeps _ _ ?_ _ _
      intro b a
      simp

/-- R74. -/
@[simp] theorem markRecovery_keeps (r : Bool) (s : State) :
    (markRecovery r s).runTime = s.runTime ∧ (markRecovery r s).params = s.params ∧
    (markRecovery r s).counters = s.counters ∧ (markRecovery r s).li = s.li ∧ (markRecovery r s).mp = s.mp ∧
    (markRecovery r s).fc = s.fc ∧ (markRecovery r s).sl = s.sl ∧ (markRecovery r s).pm = s.pm ∧
    (markRecovery r s).wd = s.wd ∧ (markRecovery r s).sr = s.sr ∧ (markRecovery r s).tu = s.tu ∧
    (markRecovery r s).sent = s.sent ∧ (markRecovery r s).reports = s.reports ∧
    (markRecovery r s).plateBusy = s.plateBusy ∧ (markRecovery r s).pending = s.pending := by
  unfold markRecovery
  split <;> simp

/-- R79. -/
@[simp] theorem setRing_keeps (l : List RingEntry) (s : State) :
    (setRing l s).runTime = s.runTime ∧ (setRing l s).params = s.params ∧ (setRing l s).counters = s.counters ∧
    (setRing l s).li = s.li ∧ (setRing l s).mp = s.mp ∧ (setRing l s).fc = s.fc ∧ (setRing l s).sl = s.sl ∧
    (setRing l s).pm = s.pm ∧ (setRing l s).wd = s.wd ∧ (setRing l s).tu = s.tu ∧ (setRing l s).sent = s.sent ∧
    (setRing l s).reports = s.reports ∧ (setRing l s).plateBusy = s.plateBusy ∧ (setRing l s).pending = s.pending := by
  simp only [setRing]
  split <;> simp

/-- R79. -/
@[simp] theorem emptyRing_keeps (s : State) :
    (emptyRing s).runTime = s.runTime ∧ (emptyRing s).params = s.params ∧ (emptyRing s).counters = s.counters ∧
    (emptyRing s).li = s.li ∧ (emptyRing s).mp = s.mp ∧ (emptyRing s).fc = s.fc ∧ (emptyRing s).sl = s.sl ∧
    (emptyRing s).pm = s.pm ∧ (emptyRing s).wd = s.wd ∧ (emptyRing s).tu = s.tu ∧ (emptyRing s).sent = s.sent ∧
    (emptyRing s).reports = s.reports ∧ (emptyRing s).plateBusy = s.plateBusy ∧ (emptyRing s).pending = s.pending := by
  simp [emptyRing]

/-- R78. -/
@[simp] theorem updateRing_keeps (d : Int) (s : State) :
    (updateRing d s).runTime = s.runTime ∧ (updateRing d s).params = s.params ∧
    (updateRing d s).counters = s.counters ∧ (updateRing d s).li = s.li ∧ (updateRing d s).mp = s.mp ∧
    (updateRing d s).fc = s.fc ∧ (updateRing d s).sl = s.sl ∧ (updateRing d s).pm = s.pm ∧
    (updateRing d s).wd = s.wd ∧ (updateRing d s).tu = s.tu ∧ (updateRing d s).sent = s.sent ∧
    (updateRing d s).reports = s.reports ∧ (updateRing d s).plateBusy = s.plateBusy ∧
    (updateRing d s).pending = s.pending := by
  simp only [updateRing]
  split <;> simp

/-- R75. -/
@[simp] theorem reportDepth_keeps (d : Int) (s : State) :
    (reportDepth d s).runTime = s.runTime ∧ (reportDepth d s).params = s.params ∧
    (reportDepth d s).counters = s.counters ∧ (reportDepth d s).li = s.li ∧ (reportDepth d s).mp = s.mp ∧
    (reportDepth d s).fc = s.fc ∧ (reportDepth d s).di = s.di ∧ (reportDepth d s).sl = s.sl ∧
    (reportDepth d s).pm = s.pm ∧ (reportDepth d s).wd = s.wd ∧ (reportDepth d s).sr = s.sr ∧
    (reportDepth d s).tu = s.tu ∧ (reportDepth d s).sent = s.sent ∧ (reportDepth d s).plateBusy = s.plateBusy ∧
    (reportDepth d s).pending = s.pending := by
  unfold reportDepth
  split <;> simp

/-- R125. -/
@[simp] theorem handPlate_keeps (b : State) (d : Vector Int 8) (p : Plate) (s : State) :
    (handPlate b d s p).runTime = s.runTime ∧ (handPlate b d s p).params = s.params ∧ (handPlate b d s p).li = s.li ∧
    (handPlate b d s p).mp = s.mp ∧ (handPlate b d s p).fc = s.fc ∧ (handPlate b d s p).di = s.di ∧
    (handPlate b d s p).sl = s.sl ∧ (handPlate b d s p).wd = s.wd ∧ (handPlate b d s p).sr = s.sr ∧
    (handPlate b d s p).tu = s.tu ∧ (handPlate b d s p).sent = s.sent ∧ (handPlate b d s p).reports = s.reports ∧
    (handPlate b d s p).pending = s.pending := by
  simp only [handPlate]
  split <;> simp

/-- R117. -/
@[simp] theorem evaluate_keeps (b : Band) (s : State) :
    (evaluate b s).runTime = s.runTime ∧ (evaluate b s).params = s.params ∧ (evaluate b s).li = s.li ∧
    (evaluate b s).mp = s.mp ∧ (evaluate b s).fc = s.fc ∧ (evaluate b s).di = s.di ∧ (evaluate b s).sr = s.sr ∧
    (evaluate b s).tu = s.tu ∧ (evaluate b s).sent = s.sent ∧ (evaluate b s).reports = s.reports ∧
    (evaluate b s).pending = s.pending := by
  simp only [evaluate]
  refine ⟨?_, ?_, ?_, ?_, ?_, ?_, ?_, ?_, ?_, ?_, ?_⟩ <;>
    · refine (foldl_keeps _ _ ?_ _ _).trans (by simp)
      intro b a
      simp

/-- R103. -/
@[simp] theorem suppress_keeps (s : State) :
    (suppress s).runTime = s.runTime ∧ (suppress s).params = s.params ∧ (suppress s).counters = s.counters ∧
    (suppress s).li = s.li ∧ (suppress s).mp = s.mp ∧ (suppress s).fc = s.fc ∧ (suppress s).di = s.di ∧
    (suppress s).pm = s.pm ∧ (suppress s).sr = s.sr ∧ (suppress s).tu = s.tu ∧ (suppress s).sent = s.sent ∧
    (suppress s).reports = s.reports ∧ (suppress s).plateBusy = s.plateBusy ∧ (suppress s).pending = s.pending := by
  simp [suppress]

/-- R102. -/
@[simp] theorem steerAtDepth_keeps (s : State) :
    (steerAtDepth s).runTime = s.runTime ∧ (steerAtDepth s).params = s.params ∧ (steerAtDepth s).li = s.li ∧
    (steerAtDepth s).mp = s.mp ∧ (steerAtDepth s).fc = s.fc ∧ (steerAtDepth s).di = s.di ∧
    (steerAtDepth s).sr = s.sr ∧ (steerAtDepth s).tu = s.tu ∧ (steerAtDepth s).sent = s.sent ∧
    (steerAtDepth s).reports = s.reports ∧ (steerAtDepth s).pending = s.pending := by
  unfold steerAtDepth
  split
  · dsimp only
    split <;> simp
  · simp

/-- R131. -/
@[simp] theorem diffMaxStored_keeps (s : State) :
    (diffMaxStored s).runTime = s.runTime ∧ (diffMaxStored s).params = s.params ∧
    (diffMaxStored s).counters = s.counters ∧ (diffMaxStored s).li = s.li ∧ (diffMaxStored s).mp = s.mp ∧
    (diffMaxStored s).fc = s.fc ∧ (diffMaxStored s).di = s.di ∧ (diffMaxStored s).pm = s.pm ∧
    (diffMaxStored s).sr = s.sr ∧ (diffMaxStored s).tu = s.tu ∧ (diffMaxStored s).sent = s.sent ∧
    (diffMaxStored s).reports = s.reports ∧ (diffMaxStored s).plateBusy = s.plateBusy ∧
    (diffMaxStored s).pending = s.pending := by
  simp only [diffMaxStored]
  split <;> simp

/-- R75. -/
@[simp] theorem depthHandOff_keeps (d : Int) (s : State) :
    (depthHandOff d s).runTime = s.runTime ∧ (depthHandOff d s).params = s.params ∧ (depthHandOff d s).li = s.li ∧
    (depthHandOff d s).mp = s.mp ∧ (depthHandOff d s).fc = s.fc ∧ (depthHandOff d s).di = s.di ∧
    (depthHandOff d s).tu = s.tu ∧ (depthHandOff d s).sent = s.sent ∧ (depthHandOff d s).pending = s.pending := by
  simp [depthHandOff]

/-- R68. -/
@[simp] theorem anchor_keeps (d : Int) (s : State) :
    (anchor d s).runTime = s.runTime ∧ (anchor d s).params = s.params ∧ (anchor d s).counters = s.counters ∧
    (anchor d s).li = s.li ∧ (anchor d s).mp = s.mp ∧ (anchor d s).fc = s.fc ∧ (anchor d s).sl = s.sl ∧
    (anchor d s).pm = s.pm ∧ (anchor d s).wd = s.wd ∧ (anchor d s).sr = s.sr ∧ (anchor d s).tu = s.tu ∧
    (anchor d s).sent = s.sent ∧ (anchor d s).reports = s.reports ∧ (anchor d s).plateBusy = s.plateBusy ∧
    (anchor d s).pending = s.pending := by
  simp [anchor, resetOpenAtDepth]

/-- R67. -/
@[simp] theorem depthEvent_keeps (d : Int) (r : Bool) (s : State) :
    (depthEvent d r s).runTime = s.runTime ∧ (depthEvent d r s).params = s.params ∧ (depthEvent d r s).li = s.li ∧
    (depthEvent d r s).mp = s.mp ∧ (depthEvent d r s).fc = s.fc ∧ (depthEvent d r s).tu = s.tu ∧
    (depthEvent d r s).sent = s.sent ∧ (depthEvent d r s).pending = s.pending := by
  cases r <;> simp only [depthEvent, if_true, Bool.false_eq_true, if_false]
  all_goals
    split
    · simp
    · split
      · simp
      · split <;> simp

/-- R51. -/
@[simp] theorem sensorStaleWatch_keeps (s : State) :
    (sensorStaleWatch s).runTime = s.runTime ∧ (sensorStaleWatch s).params = s.params ∧
    (sensorStaleWatch s).counters = s.counters ∧ (sensorStaleWatch s).li = s.li ∧ (sensorStaleWatch s).di = s.di ∧
    (sensorStaleWatch s).sent = s.sent ∧ (sensorStaleWatch s).plateBusy = s.plateBusy ∧
    (sensorStaleWatch s).pending = s.pending := by
  simp only [sensorStaleWatch]
  split <;> simp

/-- R66, R84. -/
@[simp] theorem slopeHandOff_keeps (a : Axis) (c : SlopeCopy) (s : State) :
    (slopeHandOff a c s).runTime = s.runTime ∧ (slopeHandOff a c s).params = s.params ∧
    (slopeHandOff a c s).counters = s.counters ∧ (slopeHandOff a c s).li = s.li ∧ (slopeHandOff a c s).mp = s.mp ∧
    (slopeHandOff a c s).fc = s.fc ∧ (slopeHandOff a c s).sl = s.sl ∧ (slopeHandOff a c s).pm = s.pm ∧
    (slopeHandOff a c s).wd = s.wd ∧ (slopeHandOff a c s).sr = s.sr ∧ (slopeHandOff a c s).tu = s.tu ∧
    (slopeHandOff a c s).sent = s.sent ∧ (slopeHandOff a c s).reports = s.reports ∧
    (slopeHandOff a c s).plateBusy = s.plateBusy ∧ (slopeHandOff a c s).pending = s.pending := by
  simp [slopeHandOff]

/-- R59. -/
@[simp] theorem disagreeWatch_keeps (s : State) :
    (disagreeWatch s).runTime = s.runTime ∧ (disagreeWatch s).params = s.params ∧
    (disagreeWatch s).counters = s.counters ∧ (disagreeWatch s).li = s.li ∧ (disagreeWatch s).di = s.di ∧
    (disagreeWatch s).sent = s.sent ∧ (disagreeWatch s).plateBusy = s.plateBusy ∧
    (disagreeWatch s).pending = s.pending := by
  unfold disagreeWatch
  split <;> simp

/-- R60. -/
@[simp] theorem inclLimitWatch_keeps (s : State) :
    (inclLimitWatch s).runTime = s.runTime ∧ (inclLimitWatch s).params = s.params ∧
    (inclLimitWatch s).counters = s.counters ∧ (inclLimitWatch s).li = s.li ∧ (inclLimitWatch s).di = s.di ∧
    (inclLimitWatch s).sent = s.sent ∧ (inclLimitWatch s).plateBusy = s.plateBusy ∧
    (inclLimitWatch s).pending = s.pending := by
  simp only [inclLimitWatch]
  split <;> simp

/-- R33. -/
@[simp] theorem slopeCause_keeps (s : State) :
    (slopeCause s).runTime = s.runTime ∧ (slopeCause s).params = s.params ∧ (slopeCause s).counters = s.counters ∧
    (slopeCause s).li = s.li ∧ (slopeCause s).fc = s.fc ∧ (slopeCause s).di = s.di ∧ (slopeCause s).sl = s.sl ∧
    (slopeCause s).pm = s.pm ∧ (slopeCause s).wd = s.wd ∧ (slopeCause s).sr = s.sr ∧ (slopeCause s).tu = s.tu ∧
    (slopeCause s).sent = s.sent ∧ (slopeCause s).reports = s.reports ∧ (slopeCause s).plateBusy = s.plateBusy ∧
    (slopeCause s).pending = s.pending := by
  simp [slopeCause]

/-- R55 to R60. -/
@[simp] theorem derive_keeps (a : Axis) (s : State) :
    (derive a s).runTime = s.runTime ∧ (derive a s).params = s.params ∧ (derive a s).counters = s.counters ∧
    (derive a s).li = s.li ∧ (derive a s).sent = s.sent ∧ (derive a s).plateBusy = s.plateBusy ∧
    (derive a s).pending = s.pending := by
  simp [derive]

/-- R84. -/
@[simp] theorem markEstimated_keeps (s : State) :
    (markEstimated s).runTime = s.runTime ∧ (markEstimated s).params = s.params ∧
    (markEstimated s).counters = s.counters ∧ (markEstimated s).li = s.li ∧ (markEstimated s).mp = s.mp ∧
    (markEstimated s).fc = s.fc ∧ (markEstimated s).sl = s.sl ∧ (markEstimated s).pm = s.pm ∧
    (markEstimated s).wd = s.wd ∧ (markEstimated s).sr = s.sr ∧ (markEstimated s).tu = s.tu ∧
    (markEstimated s).sent = s.sent ∧ (markEstimated s).reports = s.reports ∧
    (markEstimated s).plateBusy = s.plateBusy ∧ (markEstimated s).pending = s.pending := by
  simp [markEstimated]

/-- R50. -/
@[simp] theorem channelReport_keeps (c : Channel) (s : State) :
    (channelReport c s).runTime = s.runTime ∧ (channelReport c s).params = s.params ∧ (channelReport c s).li = s.li ∧
    (channelReport c s).sent = s.sent ∧ (channelReport c s).pending = s.pending := by
  simp only [channelReport]
  split <;> first | simp; done | (split <;> simp)

/-- R64. -/
@[simp] theorem forceStale_keeps (s : State) :
    (forceStale s).runTime = s.runTime ∧ (forceStale s).params = s.params ∧ (forceStale s).li = s.li ∧
    (forceStale s).sent = s.sent ∧ (forceStale s).pending = s.pending := by
  simp only [forceStale]
  split <;> simp

/-- R63. -/
@[simp] theorem rejectDepth_keeps (s : State) :
    (rejectDepth s).runTime = s.runTime ∧ (rejectDepth s).params = s.params ∧ (rejectDepth s).li = s.li ∧
    (rejectDepth s).sent = s.sent ∧ (rejectDepth s).pending = s.pending := by
  simp only [rejectDepth]
  split <;> simp

/-- R62. -/
@[simp] theorem acceptDepth_keeps (c raw : Int) (r : Bool) (s : State) :
    (acceptDepth c raw r s).runTime = s.runTime ∧ (acceptDepth c raw r s).params = s.params ∧
    (acceptDepth c raw r s).li = s.li ∧ (acceptDepth c raw r s).mp = s.mp ∧ (acceptDepth c raw r s).tu = s.tu ∧
    (acceptDepth c raw r s).sent = s.sent ∧ (acceptDepth c raw r s).pending = s.pending := by
  simp [acceptDepth]

/-- R61, R62. -/
@[simp] theorem depthArrival_keeps (v : Int) (s : State) :
    (depthArrival v s).runTime = s.runTime ∧ (depthArrival v s).params = s.params ∧ (depthArrival v s).li = s.li ∧
    (depthArrival v s).sent = s.sent ∧ (depthArrival v s).pending = s.pending := by
  simp only [depthArrival]
  split
  · simp
  · split
    · simp
    · split
      · split <;> simp
      · split <;> simp

/-- R60. -/
@[simp] theorem twistLimitWatch_keeps (s : State) :
    (twistLimitWatch s).runTime = s.runTime ∧ (twistLimitWatch s).params = s.params ∧
    (twistLimitWatch s).counters = s.counters ∧ (twistLimitWatch s).li = s.li ∧ (twistLimitWatch s).di = s.di ∧
    (twistLimitWatch s).sent = s.sent ∧ (twistLimitWatch s).plateBusy = s.plateBusy ∧
    (twistLimitWatch s).pending = s.pending := by
  simp only [twistLimitWatch]
  split <;> simp

/-- R83. -/
@[simp] theorem gatherSpeed_keeps (w : WheelId) (v : Int) (s : State) :
    (gatherSpeed w v s).runTime = s.runTime ∧ (gatherSpeed w v s).params = s.params ∧
    (gatherSpeed w v s).counters = s.counters ∧ (gatherSpeed w v s).li = s.li ∧ (gatherSpeed w v s).mp = s.mp ∧
    (gatherSpeed w v s).fc = s.fc ∧ (gatherSpeed w v s).sl = s.sl ∧ (gatherSpeed w v s).pm = s.pm ∧
    (gatherSpeed w v s).wd = s.wd ∧ (gatherSpeed w v s).sr = s.sr ∧ (gatherSpeed w v s).tu = s.tu ∧
    (gatherSpeed w v s).sent = s.sent ∧ (gatherSpeed w v s).reports = s.reports ∧
    (gatherSpeed w v s).plateBusy = s.plateBusy ∧ (gatherSpeed w v s).pending = s.pending := by
  simp [gatherSpeed]

/-- R83. -/
@[simp] theorem gatherPress_keeps (w : WheelId) (v : Int) (s : State) :
    (gatherPress w v s).runTime = s.runTime ∧ (gatherPress w v s).params = s.params ∧
    (gatherPress w v s).counters = s.counters ∧ (gatherPress w v s).li = s.li ∧ (gatherPress w v s).mp = s.mp ∧
    (gatherPress w v s).fc = s.fc ∧ (gatherPress w v s).sl = s.sl ∧ (gatherPress w v s).pm = s.pm ∧
    (gatherPress w v s).wd = s.wd ∧ (gatherPress w v s).sr = s.sr ∧ (gatherPress w v s).tu = s.tu ∧
    (gatherPress w v s).sent = s.sent ∧ (gatherPress w v s).reports = s.reports ∧
    (gatherPress w v s).plateBusy = s.plateBusy ∧ (gatherPress w v s).pending = s.pending := by
  simp [gatherPress]

/-- R83. -/
@[simp] theorem gatherFlow_keeps (v : Int) (s : State) :
    (gatherFlow v s).runTime = s.runTime ∧ (gatherFlow v s).params = s.params ∧
    (gatherFlow v s).counters = s.counters ∧ (gatherFlow v s).li = s.li ∧ (gatherFlow v s).mp = s.mp ∧
    (gatherFlow v s).fc = s.fc ∧ (gatherFlow v s).sl = s.sl ∧ (gatherFlow v s).pm = s.pm ∧
    (gatherFlow v s).wd = s.wd ∧ (gatherFlow v s).sr = s.sr ∧ (gatherFlow v s).tu = s.tu ∧
    (gatherFlow v s).sent = s.sent ∧ (gatherFlow v s).reports = s.reports ∧
    (gatherFlow v s).plateBusy = s.plateBusy ∧ (gatherFlow v s).pending = s.pending := by
  simp [gatherFlow]

/-- R48. -/
@[simp] theorem passValue_keeps (c : Channel) (v : Int) (s : State) :
    (passValue c v s).runTime = s.runTime ∧ (passValue c v s).params = s.params ∧ (passValue c v s).li = s.li ∧
    (passValue c v s).sent = s.sent ∧ (passValue c v s).pending = s.pending := by
  unfold passValue
  split <;> simp

/-- R48. -/
@[simp] theorem arrival_keeps (c : Channel) (v : Int) (s : State) :
    (arrival c v s).runTime = s.runTime ∧ (arrival c v s).params = s.params ∧ (arrival c v s).li = s.li ∧
    (arrival c v s).sent = s.sent ∧ (arrival c v s).pending = s.pending := by
  simp only [arrival]
  split <;> simp

/-- R29. -/
@[simp] theorem endStart_keeps (s : State) :
    (endStart s).runTime = s.runTime ∧ (endStart s).params = s.params ∧ (endStart s).counters = s.counters ∧
    (endStart s).li = s.li ∧ (endStart s).di = s.di ∧ (endStart s).sent = s.sent ∧
    (endStart s).plateBusy = s.plateBusy ∧ (endStart s).pending = s.pending := by
  simp [endStart]

/-- R29. -/
@[simp] theorem startTest_keeps (s : State) :
    (startTest s).runTime = s.runTime ∧ (startTest s).params = s.params ∧ (startTest s).counters = s.counters ∧
    (startTest s).li = s.li ∧ (startTest s).di = s.di ∧ (startTest s).sent = s.sent ∧
    (startTest s).plateBusy = s.plateBusy ∧ (startTest s).pending = s.pending := by
  unfold startTest
  split <;> simp

/-- R49. -/
@[simp] theorem judgeAll_keeps (s : State) :
    (judgeAll s).runTime = s.runTime ∧ (judgeAll s).params = s.params ∧ (judgeAll s).counters = s.counters ∧
    (judgeAll s).li = s.li ∧ (judgeAll s).mp = s.mp ∧ (judgeAll s).di = s.di ∧ (judgeAll s).sl = s.sl ∧
    (judgeAll s).pm = s.pm ∧ (judgeAll s).wd = s.wd ∧ (judgeAll s).sr = s.sr ∧ (judgeAll s).tu = s.tu ∧
    (judgeAll s).sent = s.sent ∧ (judgeAll s).reports = s.reports ∧ (judgeAll s).plateBusy = s.plateBusy ∧
    (judgeAll s).pending = s.pending := by
  simp only [judgeAll]
  refine ⟨?_, ?_, ?_, ?_, ?_, ?_, ?_, ?_, ?_, ?_, ?_, ?_, ?_, ?_, ?_⟩ <;>
    · refine foldl_keeps _ _ ?_ _ _
      intro b a
      simp

/-- R49. -/
@[simp] theorem windowEnd_keeps (s : State) :
    (windowEnd s).runTime = s.runTime ∧ (windowEnd s).params = s.params ∧ (windowEnd s).li = s.li ∧
    (windowEnd s).sent = s.sent ∧ (windowEnd s).pending = s.pending := by
  simp only [windowEnd, sensorStaleWatch_keeps, holdTest_keeps]
  refine ⟨?_, ?_, ?_, ?_, ?_⟩ <;>
    · refine (foldl_keeps _ _ ?_ _ _).trans (by simp)
      intro b a
      simp

/-- R53. -/
@[simp] theorem putInput_keeps (i : InputId) (v : DiscreteInput) (s : State) :
    (s.putInput i v).runTime = s.runTime ∧ (s.putInput i v).params = s.params ∧
    (s.putInput i v).counters = s.counters ∧ (s.putInput i v).li = s.li ∧ (s.putInput i v).mp = s.mp ∧
    (s.putInput i v).di = s.di ∧ (s.putInput i v).sl = s.sl ∧ (s.putInput i v).pm = s.pm ∧
    (s.putInput i v).wd = s.wd ∧ (s.putInput i v).sr = s.sr ∧ (s.putInput i v).tu = s.tu ∧
    (s.putInput i v).sent = s.sent ∧ (s.putInput i v).reports = s.reports ∧
    (s.putInput i v).plateBusy = s.plateBusy ∧ (s.putInput i v).pending = s.pending := by
  unfold State.putInput
  split <;> simp

/-- R54. -/
@[simp] theorem reportInput_keeps (i : InputId) (s : State) :
    (reportInput i s).runTime = s.runTime ∧ (reportInput i s).params = s.params ∧
    (reportInput i s).counters = s.counters ∧ (reportInput i s).li = s.li ∧ (reportInput i s).fc = s.fc ∧
    (reportInput i s).di = s.di ∧ (reportInput i s).sent = s.sent ∧ (reportInput i s).plateBusy = s.plateBusy ∧
    (reportInput i s).pending = s.pending := by
  simp [reportInput]

/-- R53, R54. -/
@[simp] theorem passInput_keeps (i : InputId) (s : State) :
    (passInput i s).runTime = s.runTime ∧ (passInput i s).params = s.params ∧ (passInput i s).counters = s.counters ∧
    (passInput i s).li = s.li ∧ (passInput i s).di = s.di ∧ (passInput i s).sent = s.sent ∧
    (passInput i s).plateBusy = s.plateBusy ∧ (passInput i s).pending = s.pending := by
  simp [passInput]

/-- R53. -/
@[simp] theorem inputChange_keeps (i : InputId) (l : Level) (s : State) :
    (inputChange i l s).runTime = s.runTime ∧ (inputChange i l s).params = s.params ∧
    (inputChange i l s).counters = s.counters ∧ (inputChange i l s).li = s.li ∧ (inputChange i l s).di = s.di ∧
    (inputChange i l s).sent = s.sent ∧ (inputChange i l s).plateBusy = s.plateBusy ∧
    (inputChange i l s).pending = s.pending := by
  simp only [inputChange]
  split
  · simp
  · split
    · simp
    · split
      · simp
      · split <;> simp

/-- R59. -/
@[simp] theorem disagreementPersists_keeps (a : Axis) (s : State) :
    (disagreementPersists a s).runTime = s.runTime ∧ (disagreementPersists a s).params = s.params ∧
    (disagreementPersists a s).counters = s.counters ∧ (disagreementPersists a s).li = s.li ∧
    (disagreementPersists a s).di = s.di ∧ (disagreementPersists a s).sent = s.sent ∧
    (disagreementPersists a s).plateBusy = s.plateBusy ∧ (disagreementPersists a s).pending = s.pending := by
  simp only [disagreementPersists]
  split <;> simp

/-- R47. -/
@[simp] theorem sample_keeps (n : Nat) (v : Int) (s : State) :
    (sample n v s).runTime = s.runTime ∧ (sample n v s).params = s.params ∧ (sample n v s).li = s.li ∧
    (sample n v s).sent = s.sent ∧ (sample n v s).pending = s.pending := by
  unfold sample
  split
  · split <;> simp
  · simp

/-- R207. -/
@[simp] theorem tripForce_keeps (b : Bool) (s : State) :
    (tripForce b s).runTime = s.runTime ∧ (tripForce b s).params = s.params ∧ (tripForce b s).counters = s.counters ∧
    (tripForce b s).li = s.li ∧ (tripForce b s).fc = s.fc ∧ (tripForce b s).di = s.di ∧
    (tripForce b s).sent = s.sent ∧ (tripForce b s).plateBusy = s.plateBusy ∧ (tripForce b s).pending = s.pending := by
  unfold tripForce
  split <;> simp

end Sys2Proof.Machine
end

