-- ==== Sys2Proof/Laws/Profile.lean ====
section
/-! SUPPORT. The profile log: what storing a record does to each place (R89), and that storing and weighting keep the
log's form. -/

namespace Sys2Proof.Machine

/-- The conditions that the form puts on one record. -/
def StationRecord.fits (r : StationRecord) : Prop := r.index ≤ Config.logTop ∧ 1 ≤ r.pass ∧ r.pass ≤ 255

/-- The form of the log, record by record and in rising order of index. -/
theorem Log.wf_iff (log : List StationRecord) :
    Log.wf log = true ↔ (log.Pairwise fun q r => q.index < r.index) ∧ ∀ r ∈ log, r.fits := by
  simp [Log.wf, StationRecord.fits, and_assoc]

/-- A record is in the log after a store exactly if it is the stored one, or was there at another index. -/
theorem Log.mem_store_iff {log : List StationRecord} (h : log.Pairwise fun q r => q.index < r.index)
    (r q : StationRecord) : q ∈ Log.store log r ↔ q = r ∨ q ∈ log ∧ q.index ≠ r.index := by
  induction log with
  | nil => simp [Log.store]
  | cons p rest ih =>
    obtain ⟨below, tail⟩ := List.pairwise_cons.mp h
    have apart : ∀ x ∈ rest, p.index < x.index := below
    unfold Log.store
    split
    · rename_i lt
      constructor
      · rintro (_ | ⟨_, m⟩)
        · exact .inl rfl
        · refine .inr ⟨m, ?_⟩
          rcases List.mem_cons.mp m with rfl | m
          · omega
          · have := apart q m
            omega
      · rintro (rfl | ⟨m, _⟩)
        · exact .head _
        · exact .tail _ m
    · split
      · rename_i eq
        constructor
        · rintro (_ | ⟨_, m⟩)
          · exact .inl rfl
          · exact .inr ⟨.tail _ m, by have := apart q m; omega⟩
        · rintro (rfl | ⟨m, ne⟩)
          · exact .head _
          · rcases List.mem_cons.mp m with rfl | m
            · omega
            · exact .tail _ m
      · rename_i eq
        rw [List.mem_cons, ih tail, List.mem_cons]
        constructor
        · rintro (rfl | rfl | ⟨m, ne⟩)
          · exact .inr ⟨.inl rfl, fun e => eq e.symm⟩
          · exact .inl rfl
          · exact .inr ⟨.inr m, ne⟩
        · rintro (rfl | ⟨rfl | m, ne⟩)
          · exact .inr (.inl rfl)
          · exact .inl rfl
          · exact .inr (.inr ⟨m, ne⟩)

/-- Storing a record keeps the rising order. -/
theorem Log.store_sorted {log : List StationRecord} (h : log.Pairwise fun q r => q.index < r.index)
    (r : StationRecord) : (Log.store log r).Pairwise fun p q => p.index < q.index := by
  induction log with
  | nil => exact List.pairwise_singleton _ _
  | cons p rest ih =>
    obtain ⟨below, tail⟩ := List.pairwise_cons.mp h
    unfold Log.store
    split
    · rename_i lt
      refine List.pairwise_cons.mpr ⟨fun q m => ?_, h⟩
      rcases List.mem_cons.mp m with rfl | m
      · exact lt
      · exact Nat.lt_trans lt (below q m)
    · split
      · rename_i eq
        exact List.pairwise_cons.mpr ⟨fun q m => eq ▸ below q m, tail⟩
      · refine List.pairwise_cons.mpr ⟨fun q m => ?_, ih tail⟩
        rcases (Log.mem_store_iff tail r q).mp m with rfl | ⟨m, _⟩
        · omega
        · exact below q m

/-- Storing a record that fits keeps the log's form (R89). -/
theorem Log.store_wf {log : List StationRecord} {r : StationRecord} (h : Log.wf log = true) (fits : r.fits) :
    Log.wf (Log.store log r) = true := by
  obtain ⟨sorted, all⟩ := (Log.wf_iff log).mp h
  refine (Log.wf_iff _).mpr ⟨Log.store_sorted sorted r, fun q m => ?_⟩
  rcases (Log.mem_store_iff sorted r q).mp m with rfl | ⟨m, _⟩
  · exact fits
  · exact all q m

/-- Weighting changes neither the place nor the pass of a record (R93). -/
@[simp] theorem StationRecord.weigh_index (r : StationRecord) (d : Int) (v : Nat) : (r.weigh d v).index = r.index := by
  unfold StationRecord.weigh
  repeat' split
  all_goals rfl

/-- Weighting changes neither the place nor the pass of a record (R93). -/
@[simp] theorem StationRecord.weigh_pass (r : StationRecord) (d : Int) (v : Nat) : (r.weigh d v).pass = r.pass := by
  unfold StationRecord.weigh
  repeat' split
  all_goals rfl

/-- A weighted record fits if the record did. -/
theorem StationRecord.weigh_fits {r : StationRecord} (h : r.fits) (d : Int) (v : Nat) : (r.weigh d v).fits := by
  simpa [StationRecord.fits] using h

/-- A record that the log holds at an index is in the log and has that index. -/
theorem Log.at_some {log : List StationRecord} {k : Nat} {r : StationRecord} (h : Log.at log k = some r) :
    r ∈ log ∧ r.index = k :=
  ⟨List.mem_of_find?_eq_some h, by simpa using List.find?_some h⟩

/-- Storing a record leaves every other place as it was, and fills its own (R89). It holds of any list of records. -/
theorem Log.at_store (log : List StationRecord) (r : StationRecord) (k : Nat) :
    Log.at (Log.store log r) k = if k = r.index then some r else Log.at log k := by
  have head : ∀ (p : StationRecord) (l : List StationRecord),
      Log.at (p :: l) k = if p.index = k then some p else Log.at l k := fun p l => by
    by_cases e : p.index = k <;> simp [Log.at, e]
  induction log with
  | nil => by_cases e : r.index = k <;> simp [Log.store, head, e, Ne.symm]
  | cons p rest ih =>
    unfold Log.store
    split
    · rw [head]
      by_cases e : r.index = k <;> simp [e, Ne.symm]
    · split
      · rename_i eq
        rw [head, head]
        by_cases e : r.index = k
        · simp [e]
        · simp [e, Ne.symm e, ← eq]
      · rename_i ne
        rw [head, head, ih]
        by_cases e : p.index = k
        · simp [e, show k ≠ r.index by omega]
        · simp [e]

end Sys2Proof.Machine
end

