-- ==== Sys2Proof/Laws/Requests.lean ====
section
/-! SUPPORT. What the end of an event and the taking of a request can do, said once: the blocks outside LI are those that
the owner leaves, and LI gains reply parts only. -/

namespace Sys2Proof.Machine

/-! ### Granting slots -/

/-- What placing parts from the wait table and the handler keeps: everything outside LI, the parts of LI that the line and
the receiver hold, the WAITING entries, and the parts already placed. -/
def State.LineOnly (s t : State) : Prop :=
  t = s.putLi t.li ∧ s.sameLine t ∧ t.li.requestQueue = s.li.requestQueue ∧ t.li.nextSeq = s.li.nextSeq ∧
    s.li.replyQueue <+: t.li.replyQueue ∧ (s.li.handler = .idle → t.li.handler = .idle)

theorem State.LineOnly.refl (s : State) : s.LineOnly s :=
  ⟨rfl, ⟨rfl, rfl, rfl, rfl, rfl⟩, rfl, rfl, List.prefix_rfl, id⟩

theorem State.LineOnly.trans {s t u : State} (h : s.LineOnly t) (k : t.LineOnly u) : s.LineOnly u := by
  obtain ⟨h1, ⟨a1, a2, a3, a4, a5⟩, h3, h4, h5, h6⟩ := h
  obtain ⟨k1, ⟨b1, b2, b3, b4, b5⟩, k3, k4, k5, k6⟩ := k
  refine ⟨?_, ⟨b1.trans a1, b2.trans a2, b3.trans a3, b4.trans a4, b5.trans a5⟩, k3.trans h3, k4.trans h4,
    h5.trans k5, k6 ∘ h6⟩
  rw [k1, h1]
  rfl

/-- Taking the first held entry leaves the WAITING entries. -/
theorem takeHeld_waiting : ∀ (l : List WaitEntry) (p : ReplyPart) (rest : List WaitEntry), takeHeld l = some (p, rest) →
    rest.filter (fun e => e.state == .waiting) = l.filter fun e => e.state == .waiting := by
  intro l
  induction l with
  | nil => simp [takeHeld]
  | cons e l ih =>
    intro p rest h
    unfold takeHeld at h
    split at h
    · rename_i r he
      simp only [Option.some.injEq, Prod.mk.injEq] at h
      simp [he, h.2]
    · rename_i he
      cases hl : takeHeld l with
      | none => simp [hl] at h
      | some q =>
        simp only [hl, Option.some.injEq, Prod.mk.injEq] at h
        rw [← h.2]
        simp [he, ih _ _ hl]

theorem grantSlot_lineOnly (s : State) : s.LineOnly (grantSlot s) := by
  unfold grantSlot
  split
  · split
    · refine ⟨rfl, ⟨rfl, rfl, rfl, rfl, rfl⟩, rfl, rfl, ?_, ?_⟩ <;> simp [placePart]
    · split
      · rename_i h
        refine ⟨rfl, ⟨rfl, rfl, rfl, rfl, rfl⟩, rfl, rfl, ?_, ?_⟩
        · simp [placePart]
        · intro hi
          simp [hi, Handler.claim] at h
      · exact .refl s
  · exact .refl s

theorem grantSlot_waiting (s : State) : (grantSlot s).waiting = s.waiting := by
  unfold grantSlot
  split
  · split
    · rename_i h
      simpa [State.waiting, placePart] using takeHeld_waiting _ _ _ h
    · split <;> rfl
  · rfl

theorem grantSlots_lineOnly (s : State) : s.LineOnly (grantSlots s) := by
  unfold grantSlots
  exact (((((((((grantSlot_lineOnly s).trans (grantSlot_lineOnly _)).trans (grantSlot_lineOnly _)).trans
    (grantSlot_lineOnly _)).trans (grantSlot_lineOnly _)).trans (grantSlot_lineOnly _)).trans
    (grantSlot_lineOnly _)).trans (grantSlot_lineOnly _)).trans (grantSlot_lineOnly _))

theorem grantSlots_waiting (s : State) : (grantSlots s).waiting = s.waiting := by
  simp [grantSlots, grantSlot_waiting]

theorem putWaits_lineOnly (s : State) (l : List WaitEntry) : s.LineOnly (s.putLi { s.li with waits := l }) :=
  ⟨rfl, ⟨rfl, rfl, rfl, rfl, rfl⟩, rfl, rfl, List.prefix_rfl, id⟩

/-- Ending waits places or holds replies and touches nothing else (R14, R16). -/
theorem endWaits_lineOnly (f : WaitEntry → Option Reply) (s : State) : s.LineOnly (endWaits f s) :=
  ((grantSlots_lineOnly s).trans (putWaits_lineOnly _ _)).trans (grantSlots_lineOnly _)

/-! ### The end of an event -/

/-- LI takes the reports: the rest of the state is as it was but for the scratch fields, and LI gains reply parts only
(R14). -/
theorem takeReports_line (s : State) : ∃ t : State, s.LineOnly t ∧
    takeReports s = { s with li := t.li, reports := [], plateBusy := false } := by
  have hr : ∃ l, idleReport s = { s with reports := l } := by
    unfold idleReport
    split
    · exact ⟨_, rfl⟩
    · exact ⟨s.reports, rfl⟩
  obtain ⟨l, hl⟩ := hr
  simp only [takeReports, hl]
  split
  · exact ⟨s, .refl s, rfl⟩
  · obtain ⟨h1, h2⟩ := endWaits_lineOnly (fun e => e.firstMet l) { s with reports := l }
    generalize endWaits (fun e => e.firstMet l) { s with reports := l } = u at h1 h2 ⊢
    rw [h1]
    exact ⟨s.putLi u.li, ⟨rfl, h2⟩, rfl⟩

@[simp] theorem takeReports_cleared (s : State) : (takeReports s).reports = [] ∧ (takeReports s).plateBusy = false := by
  simp [takeReports]

@[simp] theorem takeReports_keeps (s : State) :
    (takeReports s).runTime = s.runTime ∧ (takeReports s).params = s.params ∧ (takeReports s).counters = s.counters ∧
    (takeReports s).mp = s.mp ∧ (takeReports s).fc = s.fc ∧ (takeReports s).di = s.di ∧ (takeReports s).sl = s.sl ∧
    (takeReports s).pm = s.pm ∧ (takeReports s).wd = s.wd ∧ (takeReports s).sr = s.sr ∧ (takeReports s).tu = s.tu ∧
    (takeReports s).sent = s.sent ∧ (takeReports s).pending = s.pending := by
  obtain ⟨t, -, h⟩ := takeReports_line s
  rw [h]
  exact ⟨rfl, rfl, rfl, rfl, rfl, rfl, rfl, rfl, rfl, rfl, rfl, rfl, rfl⟩

/-- An event without a report ends no wait. -/
theorem takeReports_waiting (s : State) (h : s.reports = []) (hb : (s.plateBusy && !s.pm.busy) = false) :
    (takeReports s).li = s.li := by
  simp [takeReports, idleReport, h, hb]

/-! ### The records on the field line -/

/-- Without a report no wait is met. -/
@[simp] theorem WaitEntry.firstMet_nil (e : WaitEntry) : e.firstMet [] = none := rfl

/-- A wait ends on the first report that meets it (R14). -/
theorem WaitEntry.firstMet_cons (e : WaitEntry) (r : Report) (rs : List Report) :
    e.firstMet (r :: rs) = ((e.metBy r).map Reply.ok).or (e.firstMet rs) := by
  cases h : e.metBy r <;> simp [WaitEntry.firstMet, h]

/-- A wheel's record changes the copy of the value last sent and joins the records of the event (R155). -/
@[simp] theorem announceWheel_keeps (w : WheelId) (s : State) :
    (announceWheel w s).runTime = s.runTime ∧ (announceWheel w s).params = s.params ∧
    (announceWheel w s).counters = s.counters ∧ (announceWheel w s).li = s.li ∧ (announceWheel w s).mp = s.mp ∧
    (announceWheel w s).fc = s.fc ∧ (announceWheel w s).di = s.di ∧ (announceWheel w s).sl = s.sl ∧
    (announceWheel w s).pm = s.pm ∧ (announceWheel w s).sr = s.sr ∧ (announceWheel w s).tu = s.tu ∧
    (announceWheel w s).sent = s.sent ++ [.wheelSpeed w (s.wheel w).commanded] ∧
    (announceWheel w s).reports = s.reports ∧ (announceWheel w s).plateBusy = s.plateBusy ∧
    (announceWheel w s).pending = s.pending := by
  simp [announceWheel, State.emit]

@[simp] theorem announceWheel_blocks (w : WheelId) (s : State) : (announceWheel w s).blocks = s.blocks := by
  cases w <;> rfl

@[simp] theorem sendWheel_keeps (w : WheelId) (s : State) :
    (sendWheel w s).runTime = s.runTime ∧ (sendWheel w s).params = s.params ∧ (sendWheel w s).counters = s.counters ∧
    (sendWheel w s).li = s.li ∧ (sendWheel w s).mp = s.mp ∧ (sendWheel w s).fc = s.fc ∧ (sendWheel w s).di = s.di ∧
    (sendWheel w s).sl = s.sl ∧ (sendWheel w s).pm = s.pm ∧ (sendWheel w s).sr = s.sr ∧ (sendWheel w s).tu = s.tu ∧
    (sendWheel w s).reports = s.reports ∧ (sendWheel w s).plateBusy = s.plateBusy ∧
    (sendWheel w s).pending = s.pending := by
  simp only [sendWheel]
  split <;> simp

@[simp] theorem sendManifold_keeps (s : State) :
    (sendManifold s).runTime = s.runTime ∧ (sendManifold s).params = s.params ∧
    (sendManifold s).counters = s.counters ∧ (sendManifold s).li = s.li ∧ (sendManifold s).mp = s.mp ∧
    (sendManifold s).fc = s.fc ∧ (sendManifold s).di = s.di ∧ (sendManifold s).sl = s.sl ∧
    (sendManifold s).wd = s.wd ∧ (sendManifold s).sr = s.sr ∧ (sendManifold s).tu = s.tu ∧
    (sendManifold s).reports = s.reports ∧ (sendManifold s).plateBusy = s.plateBusy ∧
    (sendManifold s).pending = s.pending := by
  simp only [sendManifold]
  split <;> simp

@[simp] theorem sendPump_keeps (s : State) :
    (sendPump s).runTime = s.runTime ∧ (sendPump s).params = s.params ∧ (sendPump s).counters = s.counters ∧
    (sendPump s).li = s.li ∧ (sendPump s).mp = s.mp ∧ (sendPump s).fc = s.fc ∧ (sendPump s).di = s.di ∧
    (sendPump s).sl = s.sl ∧ (sendPump s).pm = s.pm ∧ (sendPump s).wd = s.wd ∧ (sendPump s).tu = s.tu ∧
    (sendPump s).reports = s.reports ∧ (sendPump s).plateBusy = s.plateBusy ∧ (sendPump s).pending = s.pending := by
  simp only [sendPump]
  split <;> simp

@[simp] theorem sendFeed_keeps (s : State) :
    (sendFeed s).runTime = s.runTime ∧ (sendFeed s).params = s.params ∧ (sendFeed s).counters = s.counters ∧
    (sendFeed s).li = s.li ∧ (sendFeed s).mp = s.mp ∧ (sendFeed s).fc = s.fc ∧ (sendFeed s).di = s.di ∧
    (sendFeed s).sl = s.sl ∧ (sendFeed s).pm = s.pm ∧ (sendFeed s).wd = s.wd ∧ (sendFeed s).tu = s.tu ∧
    (sendFeed s).reports = s.reports ∧ (sendFeed s).plateBusy = s.plateBusy ∧ (sendFeed s).pending = s.pending := by
  simp only [sendFeed]
  split <;> simp

@[simp] theorem sendRecords_keeps (s : State) :
    (sendRecords s).runTime = s.runTime ∧ (sendRecords s).params = s.params ∧ (sendRecords s).counters = s.counters ∧
    (sendRecords s).li = s.li ∧ (sendRecords s).mp = s.mp ∧ (sendRecords s).fc = s.fc ∧ (sendRecords s).di = s.di ∧
    (sendRecords s).sl = s.sl ∧ (sendRecords s).tu = s.tu ∧ (sendRecords s).reports = s.reports ∧
    (sendRecords s).plateBusy = s.plateBusy ∧ (sendRecords s).pending = s.pending := by
  simp [sendRecords]

theorem sendWheel_blocks (w : WheelId) (s : State) : (sendWheel w s).blocks = s.blocks := by
  unfold sendWheel
  split <;> simp

theorem sendManifold_blocks (s : State) : (sendManifold s).blocks = s.blocks := by
  unfold sendManifold; split <;> rfl

theorem sendPump_blocks (s : State) : (sendPump s).blocks = s.blocks := by unfold sendPump; split <;> rfl

theorem sendFeed_blocks (s : State) : (sendFeed s).blocks = s.blocks := by unfold sendFeed; split <;> rfl

/-- Sending records changes the copies of the values last sent and nothing else outside LI (R135, R155, R172, R177). -/
@[simp] theorem sendRecords_blocks (s : State) : (sendRecords s).blocks = s.blocks := by
  simp only [sendRecords, sendFeed_blocks, sendPump_blocks, sendManifold_blocks, sendWheel_blocks]

@[simp] theorem takeReports_blocks (s : State) : (takeReports s).blocks = s.blocks := by
  simp [State.blocks, WheelDrives.unsent, Manifold.unsent, Slurry.unsent]

@[simp] theorem finish_blocks (s : State) : (finish s).blocks = s.blocks := by simp [finish]

@[simp] theorem finish_keeps (s : State) :
    (finish s).runTime = s.runTime ∧ (finish s).params = s.params ∧ (finish s).counters = s.counters ∧
    (finish s).mp = s.mp ∧ (finish s).fc = s.fc ∧ (finish s).di = s.di ∧ (finish s).sl = s.sl ∧
    (finish s).tu = s.tu ∧ (finish s).pending = s.pending ∧ (finish s).reports = [] ∧ (finish s).plateBusy = false := by
  simp [finish]

/-- After the records have left, every value last sent is the value that stands (R135, R155, R172, R177). -/
theorem sendRecords_settled (s : State) : (sendRecords s).Settled := by
  have hw : ∀ w (s : State), ((sendWheel w s).wheel w).sentSpeed = ((sendWheel w s).wheel w).commanded := by
    intro w s
    unfold sendWheel
    split
    · rename_i h; exact h.symm
    · cases w <;> rfl
  have hb : ∀ s : State, (sendWheel .b s).wheel .a = s.wheel .a := by
    intro s; unfold sendWheel; split <;> rfl
  have hm : ∀ s : State, (sendManifold s).pm.sentRecord = (sendManifold s).manifoldRecord ∧
      (sendManifold s).wd = s.wd := by
    intro s
    unfold sendManifold
    split
    · rename_i h; exact ⟨h.symm, rfl⟩
    · exact ⟨rfl, rfl⟩
  have hp : ∀ s : State, (sendPump s).sr.sentCommand = (sendPump s).sr.command ∧ (sendPump s).wd = s.wd ∧
      (sendPump s).pm = s.pm ∧ (sendPump s).manifoldRecord = s.manifoldRecord := by
    intro s
    unfold sendPump
    split
    · rename_i h; exact ⟨h.symm, rfl, rfl, rfl⟩
    · exact ⟨rfl, rfl, rfl, rfl⟩
  have hf : ∀ s : State, ((sendFeed s).sr.sentPermit = (sendFeed s).sr.feedPermit ∧
      (sendFeed s).sr.sentLimit = (sendFeed s).sr.feedLimit) ∧ (sendFeed s).wd = s.wd ∧ (sendFeed s).pm = s.pm ∧
      (sendFeed s).manifoldRecord = s.manifoldRecord ∧ (sendFeed s).sr.sentCommand = s.sr.sentCommand ∧
      (sendFeed s).sr.command = s.sr.command := by
    intro s
    unfold sendFeed
    split
    · rename_i h; exact ⟨⟨h.1.symm, h.2.symm⟩, rfl, rfl, rfl, rfl, rfl⟩
    · exact ⟨⟨rfl, rfl⟩, rfl, rfl, rfl, rfl, rfl⟩
  unfold State.Settled
  refine ⟨?_, ?_, ?_, (hf _).1.1, (hf _).1.2⟩
  · intro w
    simp only [sendRecords, State.wheel, (hf _).2.1, (hp _).2.1, (hm _).2]
    cases w
    · have := hw .a s
      rw [← hb (sendWheel .a s)] at this
      exact this
    · exact hw .b _
  · simp only [sendRecords, (hf _).2.2.1, (hf _).2.2.2.1, (hp _).2.2.1, (hp _).2.2.2]
    exact (hm _).1
  · simp only [sendRecords, (hf _).2.2.2.2.1, (hf _).2.2.2.2.2]
    exact (hp _).1

/-- What leaves on the field line at the end of an event: a wheel, manifold, pump or feed record exactly where the
standing value differs from the one sent last (R135, R155, R172, R177), in the order of log entry 8. -/
theorem sendRecords_sent (s : State) : (sendRecords s).sent = s.sent ++
    (if (s.wheel .a).commanded = (s.wheel .a).sentSpeed then [] else [.wheelSpeed .a (s.wheel .a).commanded]) ++
    (if (s.wheel .b).commanded = (s.wheel .b).sentSpeed then [] else [.wheelSpeed .b (s.wheel .b).commanded]) ++
    (if s.manifoldRecord = s.pm.sentRecord then [] else [.manifold s.manifoldRecord]) ++
    (if s.sr.command = s.sr.sentCommand then [] else [.pump s.sr.command]) ++
    if s.sr.feedPermit = s.sr.sentPermit ∧ s.sr.feedLimit = s.sr.sentLimit then []
    else [.feed s.sr.feedPermit s.sr.feedLimit] := by
  have hw : ∀ (w : WheelId) (s : State), (sendWheel w s).sent = s.sent ++
      if (s.wheel w).commanded = (s.wheel w).sentSpeed then [] else [.wheelSpeed w (s.wheel w).commanded] := by
    intro w s; unfold sendWheel; split <;> simp
  have hb : ∀ s : State, (sendWheel .a s).wheel .b = s.wheel .b := by
    intro s; unfold sendWheel; split <;> rfl
  have hm : ∀ s : State, (sendManifold s).sent = s.sent ++
      if s.manifoldRecord = s.pm.sentRecord then [] else [.manifold s.manifoldRecord] := by
    intro s; unfold sendManifold; split <;> simp [State.emit]
  have hp : ∀ s : State, (sendPump s).sent = s.sent ++
      if s.sr.command = s.sr.sentCommand then [] else [.pump s.sr.command] := by
    intro s; unfold sendPump; split <;> simp [State.emit]
  have hf : ∀ s : State, (sendFeed s).sent = s.sent ++
      if s.sr.feedPermit = s.sr.sentPermit ∧ s.sr.feedLimit = s.sr.sentLimit then []
      else [.feed s.sr.feedPermit s.sr.feedLimit] := by
    intro s; unfold sendFeed; split <;> simp [State.emit]
  have hr : ∀ s : State, (sendPump s).sr.feedPermit = s.sr.feedPermit ∧ (sendPump s).sr.sentPermit = s.sr.sentPermit ∧
      (sendPump s).sr.feedLimit = s.sr.feedLimit ∧ (sendPump s).sr.sentLimit = s.sr.sentLimit := by
    intro s; unfold sendPump; split <;> exact ⟨rfl, rfl, rfl, rfl⟩
  have hv : ∀ (w : WheelId) (s : State), (sendWheel w s).manifoldRecord = s.manifoldRecord := by
    intro w s; unfold sendWheel; split <;> rfl
  simp only [sendRecords, hf, hp, hm, hw, hb, hv, hr, sendManifold_keeps, sendWheel_keeps]

/-! ### The taking of a request -/

theorem handlerReply_lineOnly (p : ReplyPart) (s : State) (h : s.li.handler = .idle) :
    handlerReply p s = s.putLi (handlerReply p s).li ∧ s.sameLine (handlerReply p s) ∧
    (handlerReply p s).li.requestQueue = s.li.requestQueue ∧ (handlerReply p s).li.nextSeq = s.li.nextSeq ∧
    s.li.replyQueue <+: (handlerReply p s).li.replyQueue ∧ (handlerReply p s).waiting = s.waiting ∧
    (((handlerReply p s).li.handler = .idle ∧ (handlerReply p s).li.replyQueue.getLast? = some p) ∨
      ((handlerReply p s).li.handler = .placing p ∧ Config.replyQueueSize ≤ (handlerReply p s).li.replyQueue.length)) := by
  obtain ⟨h1, h2, h3, h4, h5, h6⟩ := grantSlots_lineOnly s
  have h7 := grantSlots_waiting s
  unfold handlerReply
  generalize grantSlots s = g at h1 h2 h3 h4 h5 h6 h7 ⊢
  dsimp only
  split
  · exact ⟨(congrArg (placePart p) h1).trans rfl, h2, h3, h4, h5.trans (by simp [placePart]), h7,
      .inl ⟨h6 h, by simp [placePart]⟩⟩
  · rename_i hf
    refine ⟨(congrArg (fun t => t.putLi { g.li with handler := .placing p }) h1).trans rfl, h2, h3, h4, h5, h7,
      .inr ⟨rfl, ?_⟩⟩
    simpa [State.slotFree] using hf

/-- A request that its owner answers: the blocks are those that the owner leaves, and the reply is placed or waits in the
handler (R8). -/
theorem takeRequest_replied {s u : State} {kind length : Nat} {now : RunTime} {owner : Request → State → Answer}
    {r : Request} {rest : List Request} {reply : Reply} (h : s.Takes kind length r rest)
    (ho : owner r (s.taken now rest) = (u, some reply)) (hi : u.runTime = now ∧ u.pending = s.pending)
    (hl : (s.taken now rest).LineOnly { s.taken now rest with li := u.li }) :
    s.Replied (takeRequest kind length now owner s) now r rest reply.result reply.data ∧
      (takeRequest kind length now owner s).blocks = u.blocks ∧ (takeRequest kind length now owner s).Settled ∧
      (u.reports = [] → (u.plateBusy && !u.pm.busy) = false →
        (takeRequest kind length now owner s).waiting = u.waiting ∧
        (takeRequest kind length now owner s).li.nextSeq = u.li.nextSeq) := by
  obtain ⟨hidle, hq, hk, hb⟩ := h
  have e : takeRequest kind length now owner s =
      sendRecords (handlerReply (singlePart r.kind r.tag reply) (takeReports u)) := by
    unfold takeRequest
    dsimp only
    split
    · rename_i r' rest' h1 h2
      have h2' : s.li.requestQueue = r' :: rest' := h2
      rw [hq] at h2'
      cases h2'
      rw [if_pos hk, if_pos hb]
      show sendRecords (match (owner r (s.taken now rest)).2 with
        | some reply => handlerReply (singlePart r.kind r.tag reply) (takeReports (owner r (s.taken now rest)).1)
        | none => takeReports (owner r (s.taken now rest)).1) = _
      rw [ho]
    · rename_i h
      exact absurd hq (h r rest hidle)
  rw [e]
  have hu : u.li.handler = .idle := hl.2.2.2.2.2 (by simpa [State.taken] using hidle)
  obtain ⟨tr, ⟨-, ⟨a1, a2, a3, a4, a5⟩, t3, t4, t5, t6⟩, hr⟩ := takeReports_line u
  have hli : (takeReports u).li = tr.li := by rw [hr]
  rw [← hli] at a1 a2 a3 a4 a5 t3 t4 t5 t6
  have ht : (takeReports u).li.handler = .idle := t6 hu
  obtain ⟨g1, g2, g3, g4, g5, g6, g7⟩ := handlerReply_lineOnly (singlePart r.kind r.tag reply) (takeReports u) ht
  generalize handlerReply (singlePart r.kind r.tag reply) (takeReports u) = v at g1 g2 g3 g4 g5 g6 g7 ⊢
  obtain ⟨b1, b2, b3, b4, b5⟩ := g2
  have k1 : v.runTime = u.runTime := (congrArg State.runTime g1).trans (takeReports_keeps u).1
  have k2 : v.pending = u.pending := (congrArg State.pending g1).trans (by simp)
  have k3 : v.blocks = u.blocks := (congrArg State.blocks g1).trans (takeReports_blocks u)
  obtain ⟨-, ⟨c1, c2, c3, c4, c5⟩, u3, u4, u5, -⟩ := hl
  refine ⟨⟨?_, ?_, ?_, ?_, ?_, ?_⟩, ?_, sendRecords_settled _, ?_⟩
  · simpa [k1] using hi.1
  · simpa [k2] using hi.2
  · simp only [sendRecords_keeps, g3]
    exact t3.trans (u3.trans rfl)
  · simp only [State.sameLine, sendRecords_keeps]
    exact ⟨b1.trans (a1.trans c1), b2.trans (a2.trans c2), b3.trans (a3.trans c3), b4.trans (a4.trans c4),
      b5.trans (a5.trans c5)⟩
  · simp only [sendRecords_keeps]
    exact List.IsPrefix.trans (List.IsPrefix.trans u5 t5) g5
  · simpa [State.Answered] using g7
  · rw [sendRecords_blocks, k3]
  · intro hr hp
    have hw := takeReports_waiting u hr hp
    refine ⟨?_, ?_⟩
    · have : (sendRecords v).waiting = v.waiting := by simp [State.waiting]
      rw [this, g6]
      simp [State.waiting, hw]
    · simp only [sendRecords_keeps]
      rw [g4, hw]

end Sys2Proof.Machine
end

