-- ==== Sys2Proof/Tests/Slice0.lean ====
section
/-! SUPPORT. Tests: the smoke test of WellFormed, the worked figures of the manual on the model's own functions and on
one event each, and for every statement of Obligations.lean that has hypotheses a concrete state and operands that meet
them, at boundary values. -/

namespace Sys2Proof.Tests

set_option Elab.async false

open Sys2Proof.Machine

/-! ### Helpers -/

/-- The state after a command. -/
def after (i : Instr) (s : State) : State :=
  match exec i s with
  | .next t => t
  | .fault _ => s
  | .refused _ => s

/-- A state in which the handler can take a request of this kind and body, with tag 1. -/
def ask (s : State) (kind : Byte) (body : List Byte) : State :=
  s.putLi { s.li with handler := .idle, requestQueue := [⟨kind, 1, body⟩] }

/-- A state in an OPEN panel and this mode. -/
def inMode (m : Mode) (s : State) : State := { s with mp := { s.mp with mode := m, panel := .opened } }

/-- A state with this open channel entry. -/
def withChan (c : Channel) (st : ChannelState) (v : Int) (s : State) : State :=
  s.setChan c { s.chan c with state := st, value := v }

/-- Every channel FRESH with value 0. -/
def allFresh (s : State) : State := Channel.all.foldl (fun t c => withChan c .fresh 0 t) s

/-- A wheel in this state with a base speed, target and commanded speed. -/
def withWheel (w : WheelId) (st : WheelState) (base target commanded : Int) (s : State) : State :=
  s.putWheel w { s.wheel w with state := st, base := base, target := target, commanded := commanded }

/-- A trip source in this state, with the groups that follow. -/
def withSource (i : Source) (st : SourceState) (s : State) : State :=
  let u := { s with tu := { s.tu with sources := s.tu.sources.set i.val st i.isLt } }
  { u with tu := { u.tu with groups := u.tu.groupsNow } }

/-- A reply part. -/
def somePart : ReplyPart := ⟨0x81, 1, .done, 0, true, [7], .plain⟩

/-- A full reply queue. -/
def fullQueue (s : State) : State := s.putLi { s.li with replyQueue := List.replicate 16 somePart }

/-- The open record of station 2 at pass 1. -/
def openTwo (s : State) : State :=
  { s with di := { s.di with depth := 1200, anchored := true, openRecord := some (s.freshRecord 2) } }

/-- A band from 1,000 to 2,000 mm. -/
def someBand : Band := ⟨0, .steer, 1000, 2000, 0, 0, 3000, 1000, 20, 60, 40, 2, 25000, 20, 1000⟩

/-- A logged record of this index at pass 1 without a density. -/
def someRecord (k : Nat) : StationRecord :=
  ⟨k, 1, ⟨false, false, false, false, false, false⟩, 0, ⟨0, 0⟩, ⟨0, 0⟩, 0, ⟨0, 0⟩, ⟨0, 0⟩, Vector.replicate 8 0, 0, none,
    0⟩

/-- A parcel with this V_in, Vline and state. -/
def somePar (vIn : Litres) (vline : Nat) (atMeter : Bool) : Parcel :=
  ⟨2, 1, vIn, vline, vIn + BitVec.ofNat 32 vline, 20, atMeter, 0, 0⟩

/-! ### The smoke test of WellFormed: ill-formed commands are refused -/

theorem test_frame_needs_a_byte : (Instr.frameReceived [] 0).wellFormed = false := by decide
theorem test_frame_too_long : (Instr.frameReceived (List.replicate 255 0) 0).wellFormed = false := by decide +kernel
theorem test_frame_longest : (Instr.frameReceived (List.replicate 254 0) 0).wellFormed = true := by decide +kernel
theorem test_length_2_is_good : (Instr.frameBadLength 2 0).wellFormed = false := by decide
theorem test_length_250_is_good : (Instr.frameBadLength 250 0).wellFormed = false := by decide
theorem test_length_1_is_bad : (Instr.frameBadLength 1 0).wellFormed = true := by decide
theorem test_length_251_is_bad : (Instr.frameBadLength 251 0).wellFormed = true := by decide

/-- The table gives no row any bits, so no word spells a command. -/
theorem test_no_word_decodes : decodeTableWord 8 0xC3 = none := by decide

/-! ### Worked figures of the manual -/

/-- The CRC-16 of R2 (initial value 0xFFFF, polynomial 0x1021) has the well-known check value on "123456789". -/
theorem test_crc_check : crc16 [0x31, 0x32, 0x33, 0x34, 0x35, 0x36, 0x37, 0x38, 0x39] = 0x29B1 := by decide +kernel

/-- A frame is received as the request that it carries (R3). -/
theorem test_frame_is_admitted :
    (after (.frameReceived (frame 0x12 7 [1, 0, 5, 0]) 9) State.reset).li.requestQueue = [⟨0x12, 7, [1, 0, 5, 0]⟩] := by
  decide +kernel

/-- The first 0xC3 starts a frame, and a 0xC3 inside it is a byte of the frame, here its length byte (R1). -/
theorem test_lead_byte_in_frame :
    (after (.frameLeadByte 3) (after (.frameLeadByte 2) State.reset)).li.receiver = .collect [0xC3, 0xC3] := by
  decide +kernel

/-- Section 4.3, "cutting down, negative slope": floor(-100.1) = -101, residue 90. -/
theorem test_piece_negative : AxisPath.piece ⟨0, 0, false⟩ (-130) 77 = ⟨-101, 90, false⟩ := by decide +kernel
/-- Section 4.3, "lifting, positive slope". -/
theorem test_piece_lifting : AxisPath.piece ⟨576, 40, false⟩ 320 (-180) = ⟨0, 40, false⟩ := by decide +kernel
/-- Section 4.5, both steps of "Saturation in figures". -/
theorem test_piece_saturates :
    AxisPath.piece ⟨1999500, 30, false⟩ 800 100 = ⟨2000000, 0, true⟩ ∧
      AxisPath.piece ⟨2000000, 0, true⟩ (-400) 100 = ⟨1999600, 0, true⟩ := by decide +kernel
/-- Section 4.7's projections: -1,662.5 is truncated, and the last is clamped. -/
theorem test_projection :
    projection (-3780) (-133) 1250 = -5442 ∧ projection 1995000 4000 5000 = 2000000 := by decide +kernel
/-- Section 4.8: floor(1,080,000 / 9,100) = 118. -/
theorem test_feed_rate : ringRate [⟨122050, 41806⟩, ⟨131150, 41824⟩] = 118 := by decide +kernel

/-- Section 3.4's table of derivations: -641 / 2 truncated toward zero, and 7,050 clamped to 5,000. -/
theorem test_slope_derived :
    let s := allFresh State.reset
    let d := fun up low => ((withChan (.incl .upper .x) .fresh up (withChan (.incl .lower .x) .fresh low s)).derivedSlope .x)
    (d (-331) (-310)).slope = -320 ∧ (d 7200 6900).slope = 5000 ∧ (d 7200 6900).clamped = true ∧
      (d 330 311).disagreeing = false := by decide +kernel

/-- Section 5.8's weighting: 1,207.5 is rounded up, and volumes of sum 0 leave the new density. -/
theorem test_weigh :
    ({ someRecord 83 with density := some 1200, volume := 100 }.weigh 1215 100).density = some 1208 ∧
      ({ someRecord 83 with density := some 1250, volume := 0 }.weigh 1240 0).density = some 1240 := by decide +kernel

/-- Chapter 7's first evaluation: eY 20,825, twist 85, eX -4,200 give FL 3, FR 10, RL 7 and the differential -2. -/
theorem test_steering_demands :
    let s := withChan .twist .fresh 85 { State.reset with di := { State.reset.di with
      path := ⟨⟨-3560, 0, false⟩, ⟨14425, 0, false⟩⟩, copies := ⟨⟨-32, .both, false, false⟩, ⟨320, .both, false, false⟩⟩ } }
    let b := s.defaultBand
    (Plate.all.map fun p => s.demandOf b p) = [3, 10, 7, 0, 0, 0, 0, 0] ∧
      differentialOf (s.errorX b) b (s.par .diffMax) = -2 := by decide +kernel

/-- Section 9.9: the ramp at rate 30 moves 294 to 295 with carry 500, and 297 to the target 300 in a step of 3. -/
theorem test_ramp :
    let s := { State.reset.setPar .rampRate 30 with runTime := 500050 }
    let v := { Wheel.initial with
      state := .ramping, base := 300, target := 300, commanded := 294, prevSample := some 500000 }
    (rampStep v s).commanded = 295 ∧ (rampStep v s).carry = 500 ∧
      (rampStep { v with commanded := 297, prevSample := some 499950 } s).commanded = 300 := by decide +kernel

/-- Section 10.8: Q_req 5,822, the command 473 at trim 15, the slurry-limited feed 212, halved to 106. -/
theorem test_balance :
    let s := { inMode .auto State.reset with
      sr := { State.reset.sr with feedCopy := 120 }
      mp := { (inMode .auto State.reset).mp with cutArea := 33600 } }
    s.requiredFlow = 5822 ∧ s.pumpFor 5822 15 = 473 ∧ s.slurryLimitedFeed = 212 ∧
      ({ s with sr := { s.sr with softMark := true } }).feedLimitNow = 106 := by decide +kernel

/-- Section 11.1: the residue 13,200 and 5,822 L/min over a capped second give 97 L and 15,200. -/
theorem test_pumped :
    let s := { State.reset with runTime := 4000, sr := { State.reset.sr with flowResidue := 13200, prevFlow := some 600 } }
    (pumpedVolume 5822 s).sr.vPump = 97 ∧ (pumpedVolume 5822 s).sr.flowResidue = 15200 := by decide +kernel
/-- Section 11.3: Vline at 250,000 mm is 5,133 L, and a depth above 0 is taken as 0. -/
theorem test_vline : State.reset.vlineAt 250000 = 5133 ∧ State.reset.vlineAt (-400) = 708 := by decide +kernel
/-- Section 11.4: 1,185, 1,192 and 1,190 have the mean 1,189; 1,200 and 1,215 have 1,208. -/
theorem test_parcel_mean :
    ({ somePar 0 0 true with densitySum := 3567, densityCount := 3 }).mean = 1189 ∧
      ({ somePar 0 0 true with densitySum := 2415, densityCount := 2 }).mean = 1208 := by decide +kernel
/-- Section 11.8 at 902,600: P2 arrives (160 >= 149) and removes P1, and P3 (140 < 150) waits. -/
theorem test_arrivals :
    lineArrivals 50260 [somePar 50000 149 true, somePar 50100 149 false, somePar 50120 150 false] =
      ([somePar 50100 149 true, somePar 50120 150 false], [somePar 50000 149 true]) := by decide +kernel

/-- Section 12.8: GEAR_PRESS_LOW at its active level trips WHEEL_A, WHEEL_B and FEED (set 0x13). -/
theorem test_gear_trips : (condition Source.gearPressure true State.reset).tu.groups = 0x13 := by decide +kernel
/-- An EMERGENCY_IN open at power-on makes source 13 ACTIVE at run time 0 (R43, R54). -/
theorem test_emergency_at_power_on :
    (after (.powerOn .deEnergised .deEnergised .deEnergised) State.reset).source Source.emergency = .active := by
  decide +kernel

/-- The missing channels of STATUS_GET at power-on are all 21: the reply's data has 57 + 21 bytes (section 1.12). -/
theorem test_status_length :
    (after (.statusGet 3) (ask State.reset 0x01 [])).li.replyQueue.map (fun p => p.data.length) = [78] := by
  decide +kernel

/-- WHEEL_SET in MANUAL starts the wheel, and in STANDBY is refused (R156). -/
theorem test_wheel_set :
    ((after (.wheelSet 3) (ask (inMode .manual State.reset) 0x08 [0, 0, 100, 0])).wheel .a).state = .ramping ∧
      ((after (.wheelSet 3) (ask (inMode .standby State.reset) 0x08 [0, 0, 100, 0])).wheel .a).state = .stopped := by
  decide +kernel

/-- PLATE_MOVE 120 is clamped to 100 mm and fails at once on a channel that is not FRESH (R139, R142). -/
theorem test_plate_move :
    let t := after (.plateMove 3) (ask (inMode .manual State.reset) 0x0C [1, 120])
    t.pm.targets.get Plate.fl = 100 ∧ t.pm.faulty.get Plate.fl = true ∧ t.counter 16 = 1 := by decide +kernel

/-- The backflush command at the defaults is -200 rpm, and the permit is off (R174, R182). -/
theorem test_backflush :
    (after (.backflush 3) (ask (inMode .manual State.reset) 0x0B [])).sr.command = -200 := by decide +kernel

/-- A wait for any station below an empty log is posted without a reply (R13). -/
theorem test_await_posts :
    (after (.await 3) (ask State.reset 0x14 [1, 255, 255, 255, 255, 0, 0])).li.waits.map WaitEntry.arg = [-1] := by
  decide +kernel

/-- The window end at 1,000 ms starts the next window, and START's channels stay ABSENT (R49). -/
theorem test_window_end :
    (after (.windowEnd 1000) State.reset).fc.windowTimer = ⟨1000, 1000⟩ := by decide +kernel

/-! ### Witnesses: each shows a state and operands that meet the hypotheses of a statement, or of one of its clauses -/

/-- In the state after reset, with another run time, the groups follow their sources. -/
theorem groupsFollow_of (s : State)
    (h : ∀ g ∈ Group.all, (s.tripped g = true ↔
      ∃ i : Source, s.source i ≠ .clear ∧ (s.tu.sets.get i).getLsbD g.bit = true))
    (e : s.tu.sets.get Source.emergency = 0x1F) : s.GroupsFollow := by
  refine ⟨fun g => h g ?_, e⟩
  cases g with
  | wheel w => cases w <;> decide
  | _ => decide

/-- No claimant waits when there are no waits and the handler is idle. -/
theorem granted_of (s : State) (h : s.li.waits = []) (i : s.li.handler = .idle) : s.Granted :=
  fun _ => ⟨fun e he => by simp [h] at he, by simp [i, Handler.claim]⟩

/-- A receiver with these bytes of a frame and a gap timer from run time 0. -/
def collecting (bytes : List Byte) : State :=
  State.reset.putLi { State.reset.li with receiver := .collect bytes, gapTimer := some ⟨0, 5⟩ }

/-- A handler whose RESTART reply has left the line. -/
def restartLeft (k : Bool) : State := State.reset.putLi { State.reset.li with handler := .restarting k .left }

theorem witness_StepTakesFront : State.reset.pending = [] := rfl

/-- HUNT with a byte other than 0xC3; COLLECT with the length bytes 2 and 250; the byte that completes a frame of length
2; the restart's last phase. -/
theorem witness_ReceiverAssembles :
    State.reset.li.receiver = .hunt ∧ (0xC2 : Byte) ≠ 0xC3 ∧ (collecting [0xC3]).li.receiver = .collect [0xC3] ∧
      (∀ b ∈ [(2 : Byte), 250], ¬([(0xC3 : Byte)].length = 1 ∧ (b.toNat < 2 ∨ 250 < b.toNat)) ∧
        [(0xC3 : Byte)].length + 1 ≠ byteAt ([0xC3] ++ [b]) 1 + 4) ∧
      (collecting [0xC3, 2, 1, 1, 0]).li.receiver = .collect [0xC3, 2, 1, 1, 0] ∧
      [(0xC3 : Byte), 2, 1, 1, 0].length + 1 = byteAt ([0xC3, 2, 1, 1, 0] ++ [9]) 1 + 4 ∧
      (restartLeft true).li.handler = .restarting true .left := by decide +kernel

/-- The longest body of a request has 248 bytes. -/
theorem witness_longest_body : (List.replicate 248 (0 : Byte)).length ≤ 248 := Nat.le_of_eq List.length_replicate

/-- A gap of 6 ms; the length bytes 1 and 251; an empty body with check bytes 0, 0. -/
theorem witness_BadFrameDiscarded :
    (collecting [0xC3]).li.receiver = .collect [0xC3] ∧ (collecting [0xC3]).li.gapTimer = some ⟨0, 5⟩ ∧
      5 < RunTime.since 6 0 ∧ (∀ l ∈ [(1 : Byte), 251], (Instr.frameBadLength l 0).wellFormed = true) ∧
      State.reset.li.receiver = .hunt ∧
      [(0 : Byte), 0] ≠ [(crc16 [2, 1, 1] >>> 8).truncate 8, (crc16 [2, 1, 1]).truncate 8] := by decide +kernel

/-- Queues of 7 and of 8 requests, an empty body, the refusal slot empty and taken. -/
theorem witness_RequestAdmitted :
    State.reset.li.receiver = .hunt ∧ ([] : List Byte).length ≤ 248 ∧ State.reset.li.linkTimer ≠ none ∧
      (∀ n ∈ [7, 8], (State.reset.putLi { State.reset.li with
        requestQueue := List.replicate n ⟨1, 1, []⟩, refusal := some somePart }).li.receiver = .hunt) ∧
      (restartLeft false).li.handler = .restarting false .left := by decide +kernel

/-- The link-silence time of 2,000 ms is reached at 2,000 and not at 1,999; a silent link in HUNT. -/
theorem witness_LinkSilence :
    State.reset.li.linkTimer = some ⟨0, 2000⟩ ∧ 2000 ≤ RunTime.since 2000 0 ∧ RunTime.since 1999 0 < 2000 ∧
      (State.reset.putLi { State.reset.li with linkTimer := none }).li.receiver = .hunt := by decide +kernel

/-- 246 data bytes, part number 127, and the bounds of a two-byte field. -/
theorem witness_FramesAndFields :
    ({ somePart with data := List.replicate 246 0 }).data.length ≤ 246 ∧ ({ somePart with number := 127 }).number ≤ 127 ∧
      ((0 : Int) ≤ 65535 ∧ (65535 : Int) < 256 ^ 2) ∧ (-((256 : Int) ^ 2) ≤ 2 * (-32768) ∧ 2 * 32767 < (256 : Int) ^ 2) := by
  decide +kernel

/-- Kinds 0x00 and 0x1C; a body one byte too long; each selector just outside its list. -/
theorem witness_TestsBeforeOwner :
    (∀ k ∈ [(0x00 : Byte), 0x1C], (ask State.reset k []).li.handler = .idle ∧ (k.toNat < 1 ∨ 0x1B < k.toNat)) ∧
      (ask State.reset 0x01 [0]).li.requestQueue = [⟨1, 1, [0]⟩] ∧ [(0 : Byte)].length ≠ 0 ∧
      (ask State.reset 0x08 [2, 2, 0, 0]).Takes 0x08 4 ⟨8, 1, [2, 2, 0, 0]⟩ [] ∧
      (ask State.reset 0x0C [9, 0]).Takes 0x0C 2 ⟨0x0C, 1, [9, 0]⟩ [] ∧
      (ask State.reset 0x18 [14]).Takes 0x18 1 ⟨0x18, 1, [14]⟩ [] ∧
      (ask State.reset 0x1A [1, 32]).Takes 0x1A 2 ⟨0x1A, 1, [1, 32]⟩ [] ∧
      (ask State.reset 0x14 [7, 0, 0, 0, 0, 0, 0]).Takes 0x14 7 ⟨0x14, 1, [7, 0, 0, 0, 0, 0, 0]⟩ [] ∧
      (ask State.reset 0x04 [5]).Takes 0x04 1 ⟨4, 1, [5]⟩ [] ∧ (ask State.reset 0x1B [2]).Takes 0x1B 1 ⟨0x1B, 1, [2]⟩ [] := by
  unfold State.Takes
  decide +kernel

/-- A refused MODE_SET: taken in START, answered WRONG_MODE. -/
theorem witness_RefusalChangesNothing :
    (ask State.reset 0x04 [2]).Takes 0x04 1 ⟨4, 1, [2]⟩ [] ∧
      (after (.modeSet 3) (ask State.reset 0x04 [2])).Answered ⟨4, 1, [2]⟩ .wrongMode [] := by
  unfold State.Takes State.Answered
  decide +kernel

/-- A handler that is not IDLE, an empty queue, and a request of another kind. -/
theorem witness_HandlerOccupied :
    (restartLeft true).li.handler ≠ .idle ∧ State.reset.li.requestQueue = [] ∧
      (ask State.reset 0x02 []).li.requestQueue = [⟨2, 1, []⟩] ∧ (2 : Byte).toNat ≠ 0x01 := by decide +kernel

/-- A stream whose part has been placed. -/
def someStream : Handler := .streaming ⟨0x91, 1, .done, .plan 1, 1, .sending⟩

/-- A part of this origin on the line, the only one of the reply queue, with this handler. -/
def partOnLine (o : PartOrigin) (h : Handler) : State :=
  State.reset.putLi { State.reset.li with
    line := .part [1], replyQueue := [{ somePart with origin := o }], handler := h }

/-- A part that has left the line moves the handler that waits for it, and no other (R10, R26). -/
theorem test_part_leaves :
    (after (.transmitComplete 3) (partOnLine .restart (.restarting true .sending))).li.handler = .restarting true .left ∧
      (after (.transmitComplete 3) (partOnLine .stream someStream)).li.handler =
        .streaming ⟨0x91, 1, .done, .plan 1, 1, .left⟩ ∧
      (after (.transmitComplete 3) (partOnLine .plain someStream)).li.handler = someStream := by decide +kernel

/-- A free line with a BUSY reply, a free line with a part, and a line that sends each of them. -/
theorem witness_TransmitterSends :
    (State.reset.putLi { State.reset.li with refusal := some somePart }).li.line = .free ∧
      (State.reset.putLi { State.reset.li with replyQueue := [somePart] }).li.refusal = none ∧
      (State.reset.putLi { State.reset.li with line := .busy [1] }).li.line = .busy [1] ∧
      (State.reset.putLi { State.reset.li with line := .part [1], replyQueue := [somePart] }).li.replyQueue = [somePart] ∧
      (fullQueue State.reset).li.replyQueue.length ≤ 16 ∧ (partOnLine .restart (.restarting true .sending)).li.line =
        .part [1] ∧ (partOnLine .stream someStream).li.replyQueue = [{ somePart with origin := .stream }] := by
  decide +kernel

/-- A wait of this state. -/
def someWait (st : WaitState) : WaitEntry := ⟨5, .mode, 0, some ⟨0, 100⟩, 0, st⟩

/-- A full queue; a free slot with a held reply; a free slot with each kind of claim of the handler. -/
theorem witness_SlotGranted :
    16 ≤ (fullQueue State.reset).li.replyQueue.length ∧ State.reset.li.replyQueue.length < 16 ∧
      (State.reset.putLi { State.reset.li with waits := [someWait (.held ⟨.done, []⟩)] }).li.waits =
        [] ++ someWait (.held ⟨.done, []⟩) :: [] ∧
      State.reset.li.handler.claim = none ∧ (Handler.placing somePart).claim = some (somePart, .idle) ∧
      (∀ k ∈ [true, false], (Handler.restarting k (.claiming somePart)).claim = some (somePart, .restarting k .sending)) := by
  decide +kernel

/-- A state with one waiting entry of this condition and argument 2, with tag 5. -/
def awaiting (c : WaitCond) (s : State) : State := s.putLi { s.li with waits := [⟨5, c, 2, none, 0, .waiting⟩] }

/-- The reply of that entry, DONE with this data (section 1.6). -/
def waitDone (data : List Byte) : ReplyPart := ⟨0x94, 5, .done, 0, true, data, .plain⟩

/-- A change to STANDBY ends a MODE wait with the mode code 1, ahead of the request's own reply (R9, R14). -/
theorem test_mode_wait :
    (after (.modeSet 3) (ask (awaiting .mode (inMode .manual State.reset)) 0x04 [1])).li.replyQueue =
      [waitDone [1], ⟨0x84, 1, .done, 0, true, [], .plain⟩] := by decide +kernel

/-- EMERGENCY entering ACTIVE in MANUAL ends a TRIP wait with the source number 13 and leaves STANDBY (R14, R37). -/
theorem test_trip_wait :
    let s := (awaiting .trip (inMode .manual State.reset)).setPar .emergencyFilter 0
    let t := after (.discreteInputChange .emergencyIn .deEnergised 3) s
    t.li.replyQueue = [waitDone [13]] ∧ t.mp.mode = .standby := by decide +kernel

/-- A full reply queue with a waiting entry: no claimant is waiting for a free slot. -/
theorem witness_WaitRepliesInOrder :
    let s := (fullQueue State.reset).putLi { (fullQueue State.reset).li with waits := [someWait .waiting] }
    s.Granted ∧ s.li.waits.length ≤ 8 ∧ s.li.replyQueue.length ≤ 16 := by
  refine ⟨fun h => absurd h (by decide +kernel), by decide +kernel, by decide +kernel⟩

/-- LOG_READ at 511 and at 512, PLAN_GET, and streams whose last part has left the line and has not. -/
theorem witness_StreamParts :
    (ask State.reset 0x12 [255, 1, 1, 0]).Granted ∧
      (ask State.reset 0x12 [255, 1, 1, 0]).Takes 0x12 4 ⟨0x12, 1, [255, 1, 1, 0]⟩ [] ∧
      unsignedAt [(255 : Byte), 1, 1, 0] 0 2 = 511 ∧ unsignedAt [(0 : Byte), 2, 1, 0] 0 2 = 512 ∧
      (ask State.reset 0x11 []).Takes 0x11 0 ⟨0x11, 1, []⟩ [] ∧
      (Stream.mk 0x12 1 .done (.log 0 511 0) 1 .left).phase = .left ∧
      (Stream.mk 0x11 1 .done (.plan 0) 1 .sending).phase ≠ .left := by
  refine ⟨granted_of _ rfl rfl, ?_⟩
  unfold State.Takes
  decide +kernel

/-- The bounds of R13: timeouts 6,000 and 6,001, arguments -1, 511 and 512, a tag in the table, eight entries. -/
theorem witness_AwaitPosted :
    (ask State.reset 0x14 [1, 0, 2, 0, 0, 0x70, 0x17]).Takes 0x14 7 ⟨0x14, 1, [1, 0, 2, 0, 0, 0x70, 0x17]⟩ [] ∧
      (byteAt [(1 : Byte), 0, 2, 0, 0, 0x70, 0x17] 0, WaitCond.station) ∈ [(1, WaitCond.station), (2, .depth), (3, .trip),
        (4, .mode), (5, .platesIdle), (6, .attributed)] ∧
      signedAt [(1 : Byte), 0, 2, 0, 0, 0x70, 0x17] 1 4 = 512 ∧ signedAt [(1 : Byte), 255, 1, 0, 0] 1 4 = 511 ∧
      signedAt [(1 : Byte), 255, 255, 255, 255] 1 4 = -1 ∧ unsignedAt [(1 : Byte), 0, 2, 0, 0, 0x70, 0x17] 5 2 = 6000 ∧
      unsignedAt [(1 : Byte), 0, 2, 0, 0, 0x71, 0x17] 5 2 = 6001 ∧
      (∃ e ∈ [someWait .waiting], e.tag = 5) ∧ 8 ≤ (List.replicate 8 (someWait .waiting)).length := by
  unfold State.Takes
  decide +kernel

/-- A deadline of 100 ms reached at 100; AWAIT_CANCEL of the tag 5; a tag without a waiting entry. -/
theorem witness_WaitsEnd :
    let s := ask (State.reset.putLi { State.reset.li with waits := [someWait .waiting] }) 0x15 [5]
    s.Granted ∧ s.li.waits = [] ++ someWait .waiting :: [] ∧ 100 ≤ RunTime.since 100 0 ∧
      s.Takes 0x15 1 ⟨0x15, 1, [5]⟩ [] ∧ (∀ e ∈ s.li.waits, e.tag = 6 → e.state ≠ .waiting) := by
  refine ⟨fun _ => ⟨by decide +kernel, by decide +kernel⟩, ?_⟩
  unfold State.Takes
  decide +kernel

/-- A lowered differential limit sends the clamped demand to WD, which applies it in AUTO with both wheels RUNNING, also
before the first evaluation after HOLD (log entry 35). -/
theorem test_limit_applies_after_hold :
    let s := withWheel .a .running 200 200 200 (withWheel .b .running 200 200 200 (inMode .auto State.reset))
    let t := after (.paramSet 3) (ask { s with sl := { s.sl with diffDemand := 20 } } 0x02 [0x0C, 5, 10, 0, 0, 0])
    t.wd.applied = 10 ∧ (t.wheel .a).target = 190 ∧ (t.wheel .b).target = 210 := by decide +kernel

/-- PARAM_SET of the soft limit above the hard one, of a value below the range, and of an identifier without parameter. -/
theorem witness_ParameterStored :
    (ask State.reset 0x02 (encode 2 ParamId.softLimit.number ++ encode 4 1400)).Takes 0x02 6
        ⟨2, 1, encode 2 ParamId.softLimit.number ++ encode 4 1400⟩ [] ∧
      (-2147483648 ≤ (1400 : Int) ∧ (1400 : Int) ≤ 2147483647) ∧ State.reset.par .hardLimit < 1400 ∧
      (-5 : Int) < ParamId.softLimit.lo ∧ (∀ p ∈ ParamId.all, p.number ≠ unsignedAt [(1 : Byte), 9, 0, 0, 0, 0] 0 2) := by
  unfold State.Takes
  decide +kernel

/-- Each of the eight parameters with an effect of its own: PARAM_SET at both ends of its range; the maximum wheel speed
lowered, the same and raised; a demand inside and outside a new differential limit; the two wheels RUNNING in AUTO. -/
theorem witness_ParameterEffects :
    (∀ p ∈ [ParamId.maxWheelSpeed, .diffMax, .idleFlow, .baseFlow, .carry, .pumpMaxRpm, .displacement,
        .operatorFeedLimit], ∀ v ∈ [p.lo, p.hi],
      (ask State.reset 0x02 (encode 2 p.number ++ encode 4 v)).li.requestQueue =
        [⟨2, 1, encode 2 p.number ++ encode 4 v⟩] ∧ -2147483648 ≤ v ∧ v ≤ 2147483647) ∧
      (ask State.reset 0x02 (encode 2 ParamId.diffMax.number ++ encode 4 0)).Takes 0x02 6
        ⟨2, 1, encode 2 ParamId.diffMax.number ++ encode 4 0⟩ [] ∧
      (∀ top ∈ [(299 : Int), 300, 301], (State.reset.setPar .maxWheelSpeed top).par .maxWheelSpeed = top) ∧
      ({ State.reset with sl := { State.reset.sl with diffDemand := 5 } }).sl.diffDemand ≠ 0 ∧
      State.reset.sl.diffDemand = 0 ∧
      (let s := withWheel .a .running 100 100 100 (withWheel .b .running 100 100 100 (inMode .auto State.reset));
        s.mp.mode = .auto ∧ (s.wheel .a).state = .running ∧ (s.wheel .b).state = .running) := by
  unfold State.Takes
  decide +kernel

theorem witness_ReadsAnswer :
    (ask State.reset 0x03 (encode 2 ParamId.linkSilenceTime.number)).Takes 0x03 2
        ⟨3, 1, encode 2 ParamId.linkSilenceTime.number⟩ [] ∧
      (ask State.reset 0x16 []).Takes 0x16 0 ⟨0x16, 1, []⟩ [] ∧ (ask State.reset 0x13 []).Takes 0x13 0 ⟨0x13, 1, []⟩ [] ∧
      ({ State.reset with sr := { State.reset.sr with line := [somePar 1 2 true] } }).sr.line.head? =
        some (somePar 1 2 true) := by
  unfold State.Takes
  decide +kernel

theorem witness_StatusSnapshot : (ask State.reset 0x01 []).Takes 0x01 0 ⟨1, 1, []⟩ [] := by
  unfold State.Takes
  decide +kernel

/-- A RESTART with this many waits, all WAITING, and this many parts in the reply queue. -/
def restarting (waits parts : Nat) : State :=
  let li := { State.reset.li with
    waits := (List.range waits).map fun k => ⟨BitVec.ofNat 8 k, .mode, 0, none, k, .waiting⟩
    replyQueue := List.replicate parts somePart }
  ask (State.reset.putLi li) 0x1B [1]

/-- A RESTART with keep_log 1 and free slots for its waits and its reply; with slots for the waits only; with slots that
run out partway through the waits; and with none: in the third the first three waits are answered, five are held and the
reply claims a slot. -/
theorem witness_RestartTaken :
    (∀ k ∈ [(8, 7), (8, 8), (8, 13), (8, 16), (0, 15), (0, 16)],
      (restarting k.1 k.2).li.requestQueue = [⟨0x1B, 1, [1]⟩] ∧ (restarting k.1 k.2).li.waits.length = k.1 ∧
        (restarting k.1 k.2).li.replyQueue.length = k.2) ∧
      (restarting 8 13).Takes 0x1B 1 ⟨0x1B, 1, [1]⟩ [] ∧ (restarting 8 13).Granted ∧
      ((after (.restart 3) (restarting 8 13)).li.replyQueue.drop 13).map ReplyPart.tag = [0, 1, 2] ∧
      (after (.restart 3) (restarting 8 13)).li.waits.map WaitEntry.tag = [3, 4, 5, 6, 7] := by
  refine ⟨by decide +kernel, ?_, fun _ => ⟨by decide +kernel, by decide +kernel⟩, by decide +kernel,
    by decide +kernel⟩
  unfold State.Takes
  decide +kernel

theorem witness_PowerOnState : State.reset.pending = [] := rfl

/-- A restart with either keep_log, of a module in which power-on answers a next state; the panel OPEN at the depths 0 and
-1. -/
theorem witness_RestartState :
    (∀ k ∈ [true, false], (restartLeft k).li.handler = .restarting k .left) ∧
      (∀ d ∈ [(0 : Int), -1], let s := inMode .standby { restartLeft true with di := { State.reset.di with depth := d } };
        s.mp.panel = .opened ∧ s.di.depth = d ∧ s.li.handler = .restarting true .left) ∧
      exec (.powerOn .energised .deEnergised .deEnergised) (restartLeft true) =
        .next (after (.powerOn .energised .deEnergised .deEnergised) (restartLeft true)) := by
  refine ⟨by decide +kernel, by decide +kernel, rfl⟩

/-- A state in which AUTO can be entered: OPEN, EMERGENCY clear, DEPTH FRESH, both slopes available, no HOLD cause. -/
def canCut (m : Mode) : State :=
  let s := allFresh (inMode m State.reset)
  { s with
    fc := { s.fc with slopes := ⟨{ s.fc.slopes.x with case := .both }, { s.fc.slopes.y with case := .both }⟩ }
    mp := { s.mp with holdCauses := ⟨false, false, false⟩ } }

theorem witness_ModeSetTests :
    (byteAt [(3 : Byte)] 0, Mode.auto) ∈ [(0, Mode.start), (1, .standby), (2, .manual), (3, .auto), (4, .hold)] ∧
      (ask (canCut .standby) 0x04 [3]).Takes 0x04 1 ⟨4, 1, [3]⟩ [] ∧
      (canCut .standby).source Source.emergency = .clear ∧ (canCut .standby).fresh .depth = true ∧
      (canCut .standby).fc.slopes.x.case ≠ .none ∧ (canCut .standby).mp.holdCauses = ⟨false, false, false⟩ ∧
      (inMode .standby State.reset).mp.holdCauses ≠ ⟨false, false, false⟩ ∧
      (withSource Source.emergency .latched State.reset).source Source.emergency ≠ .clear := by
  unfold State.Takes
  decide +kernel

theorem witness_ModeEntered : State.reset.mp.mode ≠ .manual ∧ (inMode .auto State.reset).mp.mode ≠ .standby := by
  decide +kernel

/-- A last accepted depth, accepted since restart or retained by it. -/
def retained (d : Int) (accepted : Bool) : State :=
  { State.reset with fc := { State.reset.fc with lastAccepted := some d, accepted := accepted } }

/-- PANEL_OPEN starts the path at the depth accepted since restart, and at 0 where there is only a retained one (R40). -/
theorem test_panel_open_depth :
    let opened := fun accepted =>
      after (.panelOpen 3) (ask (inMode .standby (retained 7000 accepted)) 0x05 [1, 0, 0x10, 0x27, 0, 0, 100, 0])
    (opened true).di.depth = 7000 ∧ (opened false).di.depth = 0 ∧ (opened false).di.anchored = true ∧
      (opened false).di.openRecord.map OpenRecord.station = some 0 := by decide +kernel

theorem witness_PanelOpened :
    (ask State.reset 0x05 [1, 0, 0x0F, 0x27, 0, 0, 99, 0]).Takes 0x05 8 ⟨5, 1, [1, 0, 0x0F, 0x27, 0, 0, 99, 0]⟩ [] ∧
      State.reset.mp.mode ≠ .standby ∧ (inMode .standby State.reset).mp.mode = .standby ∧
      unsignedAt [(1 : Byte), 0, 0x0F, 0x27, 0, 0, 99, 0] 2 4 = 9999 ∧
      unsignedAt [(1 : Byte), 0, 0x0F, 0x27, 0, 0, 99, 0] 6 2 = 99 ∧ State.reset.fc.lastAccepted = none ∧
      (∀ d ∈ [(-1 : Int), 0], (retained d true).fc.lastAccepted = some d ∧ (retained d false).fc.accepted = false) ∧
      (inMode .standby State.reset).sr.pumpState ≠ .idle ∧
      (after (.modeSet 3) (ask (inMode .manual State.reset) 0x04 [1])).sr.pumpState = .idle := by
  unfold State.Takes
  decide +kernel

/-- DEPTH_ZERO in START is answered WRONG_STATE, and BAD_VALUE with an offset out of range (log entry 37). -/
theorem test_depth_zero_in_start :
    let r := fun body => (after (.depthZero 3) (ask State.reset 0x07 body)).li.replyQueue.map ReplyPart.result
    r [0, 0, 0, 0, 0, 0, 0, 0, 0, 0, 0, 0] = [.wrongState] ∧
      r [0, 0, 0, 0, 0, 0, 0, 0x7F, 0, 0, 0, 0] = [.badValue] := by decide +kernel

/-- DEPTH_ZERO at 300,000 mm with both offsets 0: in range, and allowed in STANDBY with a FRESH depth. -/
theorem witness_DepthZeroed :
    let body : List Byte := encode 4 300000 ++ encode 4 (-2000000) ++ encode 4 2000000
    let u := { State.reset with fc := { State.reset.fc with lastRaw := some 500 } }
    let s := withChan .depth .fresh 500 (inMode .standby u)
    (ask s 0x07 body).Takes 0x07 12 ⟨7, 1, body⟩ [] ∧ signedAt body 0 4 = 300000 ∧ signedAt body 4 4 = -2000000 ∧
      signedAt body 8 4 = 2000000 ∧ s.mp.mode = .standby ∧ s.mp.panel = .opened ∧ s.di.closure = false ∧
      s.fresh .depth = true ∧ s.fc.lastAccepted = none ∧ s.di.log = [] ∧ signedAt (encode 4 300001) 0 4 = 300001 := by
  unfold State.Takes
  decide +kernel

theorem witness_PanelClosed :
    (ask State.reset 0x06 []).Takes 0x06 0 ⟨6, 1, []⟩ [] ∧ State.reset.mp.panel ≠ .opened ∧
      (inMode .auto State.reset).mp.panel = .opened ∧
      (let s := State.reset.putLi { State.reset.li with waits := [someWait .waiting] };
        s.li.waits = [] ++ someWait .waiting :: [] ∧ s.li.replyQueue.length + s.li.waits.length ≤ 16) := by
  unfold State.Takes
  decide +kernel

/-- The start window ends at 10,000 ms; an arrival on the last ABSENT channel, and on one of several. -/
theorem witness_StartEnds :
    State.reset.mp.startTimer = some ⟨0, 10000⟩ ∧ 10000 ≤ RunTime.since 10000 0 ∧
      timerDue State.reset.mp.startTimer 9999 = false ∧ (inMode .auto State.reset).mp.mode ≠ .start ∧
      (∀ d ∈ Channel.all, d ≠ .depth → ((withChan .depth .absent 0 (allFresh State.reset)).chan d).state ≠ .absent) ∧
      (Channel.twist ≠ .depth ∧ (State.reset.chan .twist).state = .absent) := by decide +kernel


/-! #### Field channels -/

/-- Channel 1 at its bounds and one beyond them, in the table of the statement. -/
theorem witness_SampleRangeTested :
    (-10000 : Int) < -9999 ∧ (-9999 : Int) ≤ -9999 ∧ (9999 : Int) ≤ 9999 ∧ (9999 : Int) < 10000 ∧ 21 < 22 := by decide

/-- The bounds of every range; an ABSENT and a STALE entry; three and four rejections. -/
theorem witness_ChannelArrival :
    (∀ c ∈ Channel.all, c.range.1 ≤ c.range.1 ∧ c.range.1 ≤ c.range.2) ∧ (State.reset.chan .depth).state = .absent ∧
      ((withChan .twist .stale 0 State.reset).chan .twist).state = .stale ∧
      ({ State.reset with fc := { State.reset.fc with rejections := 3 } }).fc.rejections < 4 ∧
      Channel.twist ≠ .depth := by decide +kernel

/-- A window of 1,000 ms at 1,000 and at 999; a restart in its last phase. -/
theorem witness_WindowJudged :
    State.reset.fc.windowTimer.duration ≤ RunTime.since 1000 State.reset.fc.windowTimer.start ∧
      RunTime.since 999 State.reset.fc.windowTimer.start < State.reset.fc.windowTimer.duration ∧
      (restartLeft true).li.handler = .restarting true .left := by decide +kernel

/-- The consequences of a window end without samples: each channel leaves FRESH, both slopes turn, AUTO turns into HOLD
and SENSOR_STALE is present; a channel at its threshold stays FRESH, and one below it does not. -/
theorem witness_WindowLeft :
    let s := canCut .auto
    let t := after (.windowEnd 1000) s
    (∀ c ∈ [Channel.depth, .twist, .speed .a, .press .b, .pumpPress, .retFlow, .plate Plate.fl, .incl .upper .x],
      s.fresh c = true ∧ t.fresh c = false ∧ (t.chan c).state ≠ (s.chan c).state) ∧
      s.mp.mode = .auto ∧ t.mp.holdCauses ≠ ⟨false, false, false⟩ ∧ t.mp.mode = .hold ∧
      s.fc.sensorStale = false ∧ t.fc.sensorStale = true ∧ t.source Source.sensorStale = .active ∧
      (∀ n ∈ [Channel.depth.threshold, Channel.depth.threshold - 1],
        ((s.setChan .depth { s.chan .depth with windowCount := n }).chan .depth).windowCount = n) := by decide +kernel

/-- The plate channel of the move in flight leaves FRESH while no inclinometer turns, with nothing pending: FL is FAULTY
and the arbiter IDLE. -/
theorem witness_WindowFailsMove :
    let u := allFresh (inMode .manual State.reset)
    let v := Channel.all.foldl (fun t c => t.setChan c { t.chan c with windowCount := 10 }) u
    let s := (v.setChan (.plate Plate.fl) { v.chan (.plate Plate.fl) with windowCount := 0 }).putPm { v.pm with
      arbiter := .moving, targets := v.pm.targets.set 0 50, move := some ⟨Plate.fl, 50, ⟨0, 2000⟩⟩ }
    let t := after (.windowEnd 1000) s
    s.pm.move = some ⟨Plate.fl, 50, ⟨0, 2000⟩⟩ ∧ s.fresh (.plate Plate.fl) = true ∧ t.fresh (.plate Plate.fl) = false ∧
      (∀ m ∈ [Mount.upper, .lower], ∀ a ∈ [Axis.x, .y], (t.chan (.incl m a)).state = (s.chan (.incl m a)).state) ∧
      (∀ q ∈ Plate.all, s.pm.table.get q = none ∧ s.pm.urgentSnap.get q = false ∧ s.pm.trimSnap.get q = false) ∧
      t.pm.faulty.get Plate.fl = true ∧ t.pm.move = none := by decide +kernel

/-- OIL_HOT with this filter time and this timer. -/
def oilInput (time : Int) (raw : Level) (timer : Option Timer) : State :=
  (State.reset.setPar .oilFilter time).putInput .oilHot ⟨raw, .deEnergised, timer⟩

/-- No change; a change back while the timer runs; a change at filter time 0 and 20; an expiry at 20 and at 19. -/
theorem witness_DiscreteInputFiltered :
    ((oilInput 0 .deEnergised none).input .oilHot).raw = .deEnergised ∧
      ((oilInput 20 .energised (some ⟨0, 20⟩)).input .oilHot).raw ≠ .deEnergised ∧
      ((oilInput 20 .energised (some ⟨0, 20⟩)).input .oilHot).timer = some ⟨0, 20⟩ ∧
      (∀ time ∈ [(0 : Int), 20], (oilInput time .deEnergised none).par (filterParam .oilHot) = time ∧
        ((oilInput time .deEnergised none).input .oilHot).raw ≠ .energised ∧
        ((oilInput time .deEnergised none).input .oilHot).timer = none ∧
        Level.energised ≠ ((oilInput time .deEnergised none).input .oilHot).filtered) ∧
      20 ≤ RunTime.since 20 0 ∧ RunTime.since 19 0 < 20 := by decide +kernel

/-- The two channels of an axis in each of the four combinations of R55, with slopes that agree and that do not. -/
theorem witness_SlopeDerived :
    (allFresh State.reset).slopeCase .x = .both ∧
      (withChan (.incl .lower .x) .stale 0 (allFresh State.reset)).slopeCase .x = .single ∧
      (withChan (.incl .upper .x) .stale 0 (allFresh State.reset)).slopeCase .x = .single ∧
      State.reset.slopeCase .x = .none ∧
      (State.reset.par .disagreeTolerance < abs ((9999 : Int) - 0) ∧
        ¬State.reset.par .disagreeTolerance < abs ((0 : Int) - 0)) := by decide +kernel

/-- The first arrival on an ABSENT inclinometer ends the SLOPE cause, and HOLD with it (R34, R57). -/
theorem test_slope_ends_hold :
    let s := withChan (.incl .upper .x) .absent 0 (withChan (.incl .lower .x) .stale 0 (canCut .hold))
    let t := after (.sampleArrival 1 30 5) { s with
      fc := { s.fc with slopes := ⟨AxisSlope.initial, s.fc.slopes.y⟩ }
      mp := { s.mp with holdCauses := ⟨false, false, true⟩ } }
    t.mp.mode = .auto ∧ t.mp.holdCauses = ⟨false, false, false⟩ ∧ t.counter 17 = 0 := by decide +kernel

/-- A disagreement timer of 5,000 ms at 5,000 and at 4,999. -/
theorem witness_WatchesOfFieldChannels :
    ((State.reset.putSlope .y { AxisSlope.initial with timer := some ⟨0, 5000⟩ }).fc.slopes.get .y).timer =
        some ⟨0, 5000⟩ ∧ 5000 ≤ RunTime.since 5000 0 ∧ RunTime.since 4999 0 < 5000 ∧
      State.reset.fc.inclDisagree = false ∧ State.reset.fc.twistLimit = false := by decide +kernel

/-- A module whose last accepted depth is 1,000 mm, with this recovery mark and rejection count. -/
def accepting (recovery : Bool) (rejections : Nat) : State :=
  { State.reset with
    fc := { State.reset.fc with lastAccepted := some 1000, recovery := recovery, rejections := rejections } }

/-- The fifth rejection in a row forces DEPTH STALE, and AUTO gives way to HOLD (R34, R64). -/
theorem test_fifth_rejection_holds :
    let t := after (.sampleArrival 6 9000 5) { canCut .auto with
      fc := { (canCut .auto).fc with lastAccepted := some 1000, rejections := 4 } }
    t.mp.mode = .hold ∧ t.mp.holdCauses = ⟨false, true, false⟩ ∧ t.counter 17 = 1 ∧ (t.chan .depth).state = .stale := by
  decide +kernel

/-- Outside (300,001), far (by one more than the max step), recovering on a STALE and on a FRESH channel, accepted with
the panel OPEN in START, outside START, and not OPEN. -/
theorem witness_DepthAccepted :
    (300000 : Int) < 300001 + (accepting false 4).fc.reference ∧
      (accepting false 3).par .depthMaxStep < abs (1000 + (State.reset.par .depthMaxStep + 1) - 1000) ∧
      ¬(accepting false 3).par .depthMaxStep < abs (1000 + State.reset.par .depthMaxStep - 1000) ∧
      ((accepting true 0).fc.recovery = true ∧ (accepting true 0).fc.lastAccepted ≠ none) ∧
      ((withChan .depth .stale 0 (accepting true 0)).chan .depth).state = .stale ∧
      ((withChan .depth .fresh 0 (accepting true 0)).chan .depth).state ≠ .stale ∧
      (∀ m ∈ [Mode.start, .standby], (inMode m (accepting false 0)).mp.panel = .opened) ∧
      (accepting false 4).fc.rejections = 4 ∧ (State.reset.chan .depth).state = .absent ∧
      State.reset.mp.panel ≠ .opened := by decide +kernel

/-! #### Path, stations and log -/

/-- A piece that ends at a limit, and one a unit beyond it on either side; a depth other than the integrated one. -/
theorem witness_PieceIntegrated :
    (1999999 : Int) + (100 * 1 + 0) / 100 ≤ 2000000 ∧ (2000000 : Int) < 2000000 + (100 * 1 + 0) / 100 ∧
      (-2000000 : Int) + (100 * (-1) + 0) / 100 < -2000000 ∧ (1 : Int) ≠ State.reset.di.depth := by decide +kernel

/-- An OPEN panel outside START, anchored at 1,000 mm: a step of the max step. -/
theorem witness_PathExact :
    let u := accepting false 0
    let s := inMode .standby { u with di := { u.di with depth := 1000, anchored := true } }
    let raw := 1000 + s.par .depthMaxStep
    (-10000 ≤ raw ∧ raw ≤ 400000) ∧ (-5000 ≤ raw + s.fc.reference ∧ raw + s.fc.reference ≤ 300000) ∧
      s.fc.lastAccepted = some 1000 ∧ abs (raw + s.fc.reference - 1000) ≤ s.par .depthMaxStep ∧
      s.fc.recovery = false ∧ s.mp.panel = .opened ∧ s.mp.mode ≠ .start ∧ s.di.anchored = true ∧
      (∀ a : Axis, (s.di.path.get a).saturated = false ∧ (s.di.path.get a).offset = 0) := by
  refine ⟨by decide +kernel, by decide +kernel, rfl, by decide +kernel, rfl, rfl, by decide +kernel, rfl, fun a => ?_⟩
  cases a <;> exact ⟨rfl, rfl⟩

/-- An OPEN panel in this mode, 300 mm above the boundary at 1,500 mm, with the last accepted depth 1,200. -/
def crossing (m : Mode) (recovery : Bool) : State :=
  let s := openTwo (canCut m)
  { s with fc := { s.fc with lastAccepted := some 1200, recovery := recovery } }

/-- An accepted depth beyond the boundary writes the record of station 2 and, in AUTO, steers to the offsets (R75). -/
theorem test_arrival_closes_and_steers :
    let s := crossing .auto false
    let p : PerAxis AxisPath := ⟨⟨20000, 0, false⟩, ⟨20000, 0, false⟩⟩
    let t := after (.sampleArrival 6 1500 3) { s with di := { s.di with path := p } }
    t.di.log.map (fun q => (q.index, q.closedAt)) = [(2, 3)] ∧ t.di.openRecord.map OpenRecord.station = some 3 ∧
      t.sl.plateDemands ≠ Vector.replicate 8 0 := by decide +kernel

/-- A recovery step of 1,300 mm on a FRESH channel, beyond the max step of an ordinary one. -/
theorem witness_PathExact_recovery :
    (crossing .standby true).fc.recovery = true ∧ ((crossing .standby true).chan .depth).state ≠ .stale ∧
      (crossing .standby true).par .depthMaxStep < abs (2500 - 1200) ∧
      (after (.sampleArrival 6 2500 3) (crossing .standby true)).di.openRecord.map OpenRecord.recovery = some true := by
  decide +kernel

/-- The boundary at 1,500 mm closes station 2; the boundaries that close stations 511 and 512. -/
theorem witness_StationClosed :
    (openTwo State.reset).di.openRecord = some (State.reset.freshRecord 2) ∧ 0 < State.reset.mp.interval ∧
      State.reset.mp.interval ≤ 1500 ∧ ((1500 : Int) / 500 - 1).toNat = 2 ∧
      ((256000 : Int) / 500 - 1).toNat = 511 ∧ ((256500 : Int) / 500 - 1).toNat = 512 := by decide +kernel

/-- A depth whose station stands open, in the statement's own form; no station above 0. -/
theorem witness_StepCrossesStations :
    0 < (openTwo State.reset).mp.interval ∧
      (openTwo State.reset).di.openRecord.map OpenRecord.station =
        some ((openTwo State.reset).di.depth / (openTwo State.reset).mp.interval).toNat ∧
      0 ≤ (openTwo State.reset).di.depth ∧ State.reset.di.openRecord = none ∧
      ¬(0 : Int) ≤ ({ State.reset with di := { State.reset.di with depth := -1 } }).di.depth := by decide +kernel

/-- A recovery step empties the ring before its entry and sets the feed rate to 0 (R79). -/
theorem test_recovery_ring :
    let s := crossing .standby true
    let t := after (.sampleArrival 6 2500 9000) { s with
      di := { s.di with ring := [⟨1000, 1000⟩, ⟨2000, 1010⟩], feedRate := 600 }, sr := { s.sr with feedCopy := 600 } }
    t.di.ring = [⟨9000, 2500⟩] ∧ t.di.feedRate = 0 ∧ t.sr.feedCopy = 0 := by decide +kernel

/-- The first accepted depth and a recovery step on a FRESH channel; an accepted depth with an empty ring, with an entry of
the same second, and with one of the second before. -/
theorem witness_FeedRateRing :
    let s := accepting false 0
    (-10000 : Int) ≤ 1000 ∧ 1000 + s.fc.reference ≤ 300000 ∧ s.fc.lastAccepted = some 1000 ∧
      abs (1000 + s.fc.reference - 1000) ≤ s.par .depthMaxStep ∧ s.fc.recovery = false ∧ s.di.ring = [] ∧
      State.reset.fc.lastAccepted = none ∧ ((crossing .standby true).chan .depth).state ≠ .stale ∧
      (crossing .standby true).fc.recovery = true ∧ (crossing .standby true).fc.lastAccepted ≠ none ∧
      [RingEntry.mk 1000 0].getLast? = some ⟨1000, 0⟩ ∧ (1000 : RunTime).toNat / 1000 = (1999 : RunTime).toNat / 1000 ∧
      (1000 : RunTime).toNat / 1000 ≠ (2000 : RunTime).toNat / 1000 := by decide +kernel

/-- The bounds of the ranges; a sum that is full and one that is not; an empty transit line. -/
theorem witness_StatisticsGathered :
    (-600 : Int) ≤ -600 ∧ (-600 : Int) ≤ 600 ∧ (0 : Int) ≤ 500 ∧ (-10000 : Int) ≤ 10000 ∧ 16777214 < 16777215 ∧
      State.reset.sr.line = [] := by decide +kernel

/-- Not OPEN; the open record of station 2; a logged record of station 3, with and without a density. -/
theorem witness_AttributionTaken :
    State.reset.mp.panel ≠ .opened ∧ (openTwo (inMode .auto State.reset)).mp.panel = .opened ∧
      (State.reset.freshRecord 2).station = 2 ∧ (State.reset.freshRecord 2).pass = 1 ∧
      (openTwo (inMode .auto State.reset)).di.openRecord = some (State.reset.freshRecord 2) ∧
      (∀ q ∈ [someRecord 3, { someRecord 3 with density := some 1200, volume := 1 }], Log.at [q] 3 = some q ∧
        q.pass = 1) := by decide +kernel

/-- The first accepted depth in START leaves the feed rate 0, which is not handed to SR: the required flow stays (R75). -/
theorem test_equal_rate_is_kept :
    (after (.sampleArrival 6 500 3) State.reset).di.ring = [⟨3, 500⟩] ∧
      (after (.sampleArrival 6 500 3) State.reset).sr.required = 0 := by decide +kernel

/-! #### Plan and steering -/

/-- A load open since run time 0 with this many bands declared and these staged. -/
def loading (declared : Nat) (staged : List Band) (s : State) : State :=
  { s with sl := { s.sl with load := some ⟨declared, staged, ⟨0, 30000⟩⟩ } }

/-- PLAN_OPEN of 0, 1, 16 and 17 bands; PLAN_CLOSE without a load, with a short and with a complete one; the timer at
29,999 and 30,000. -/
theorem witness_PlanLoadOpenedAndClosed :
    (∀ n ∈ [(0 : Byte), 1, 16, 17], (ask State.reset 0x0E [n]).li.requestQueue = [⟨0x0E, 1, [n]⟩]) ∧
      (ask State.reset 0x0E [17]).Takes 0x0E 1 ⟨0x0E, 1, [17]⟩ [] ∧
      (ask State.reset 0x10 []).Takes 0x10 0 ⟨0x10, 1, []⟩ [] ∧ State.reset.sl.load = none ∧
      (ask (loading 1 [someBand] State.reset) 0x10 []).sl.load = some ⟨1, [someBand], ⟨0, 30000⟩⟩ ∧
      [someBand].length = 1 ∧ ([] : List Band).length < 1 ∧ 30000 ≤ RunTime.since 30000 0 ∧
      RunTime.since 29999 0 < 30000 := by
  unfold State.Takes
  decide +kernel

/-- PLAN_BAND without a load, with a full list, at its index with every field in range, and with top and bottom equal. -/
theorem witness_PlanBandStaged :
    (ask State.reset 0x0F someBand.bytes).Takes 0x0F 42 ⟨0x0F, 1, someBand.bytes⟩ [] ∧
      (ask (loading 1 [someBand] State.reset) 0x0F someBand.bytes).Takes 0x0F 42 ⟨0x0F, 1, someBand.bytes⟩ [] ∧
      (ask (loading 1 [] State.reset) 0x0F someBand.bytes).sl.load = some ⟨1, [], ⟨0, 30000⟩⟩ ∧
      byteAt someBand.bytes 0 = 0 ∧ byteAt someBand.bytes 1 = 0 ∧ signedAt someBand.bytes 2 4 = 1000 ∧
      signedAt someBand.bytes 6 4 = 2000 ∧
      signedAt { someBand with top := 2000 }.bytes 2 4 = signedAt { someBand with top := 2000 }.bytes 6 4 := by
  unfold State.Takes
  decide +kernel

/-- AUTO with the default band, with a STEER and with a SUPPRESS band at the depth 1,000; and a mode other than AUTO. -/
theorem witness_SteeringLaw :
    (canCut .auto).mp.mode = .auto ∧ (canCut .auto).defaultBand.kind = .steer ∧
      ([someBand].find? fun c => c.top ≤ 1000 && (1000 : Int) < c.bottom) = some someBand ∧
      ([{ someBand with kind := .suppress }].find? fun c => c.top ≤ 1999 && (1999 : Int) < c.bottom) =
        some { someBand with kind := .suppress } ∧
      ([someBand].find? fun c => c.top ≤ 2000 && (2000 : Int) < c.bottom) = none ∧ (canCut .hold).mp.mode ≠ .auto := by
  decide +kernel

/-! #### Plates -/

/-- Plate FL moves to 50 mm, due at run time 2,000, with a pending entry for plate FR. -/
def moving : State :=
  let s := inMode .manual (allFresh State.reset)
  s.putPm { s.pm with
    arbiter := .moving
    nextPhase := .trim
    targets := s.pm.targets.set 0 50
    table := s.pm.table.set 1 (some ⟨40, .trim⟩)
    move := some ⟨Plate.fl, 50, ⟨0, 2000⟩⟩ }

/-- PLATE_MOVE of plate FL to 100 and 101 mm: outside and inside a cutting mode, HALTED, FAULTY, for the moving plate at
its target and off it, for another plate, and from an idle manifold; PLATE_CLEAR. -/
theorem witness_PlateRequestDisposed :
    byteAt [(1 : Byte), 101] 0 = Plate.fl.val + 1 ∧
      (ask moving 0x0C [1, 101]).Takes 0x0C 2 ⟨0x0C, 1, [1, 101]⟩ [] ∧
      (ask moving 0x0D [1]).Takes 0x0D 1 ⟨0x0D, 1, [1]⟩ [] ∧ moving.mp.mode = .manual ∧
      State.reset.mp.mode ≠ .manual ∧ moving.pm.arbiter ≠ .halted ∧ moving.pm.faulty.get Plate.fl = false ∧
      moving.pm.move = some ⟨Plate.fl, 50, ⟨0, 2000⟩⟩ ∧ min 50 100 = 50 ∧ 10 < abs (10 * (2 : Int) - 0) ∧
      abs (10 * (1 : Int) - 0) ≤ 10 ∧ Plate.fl ≠ Plate.fr ∧
      moving.pm.table.get Plate.fr = some ⟨40, .trim⟩ ∧ moving.pm.table.get Plate.rl = none ∧
      (inMode .auto State.reset).pm.arbiter = .idle ∧ (inMode .auto State.reset).pm.nextPhase = .urgent ∧
      (∀ q ∈ Plate.all, State.reset.pm.table.get q = none ∧ State.reset.pm.urgentSnap.get q = false ∧
        State.reset.pm.trimSnap.get q = false) ∧
      (inMode .auto (allFresh State.reset)).fresh (.plate Plate.fl) = true ∧
      (inMode .auto State.reset).fresh (.plate Plate.fl) = false := by
  unfold State.Takes
  decide +kernel

/-- Requests of both classes to the steering law's disposal: dropped by a HALTED manifold and a FAULTY plate; the moving
plate at its target, at a new one 1 mm and one 2 mm off its position; a pending entry; within 1 mm on a FRESH channel. -/
theorem witness_PlateRequestClasses :
    (∀ c ∈ [PlateClass.urgent, .trim],
      let halted := moving.putPm { moving.pm with arbiter := .halted };
      let faulty := moving.putPm { moving.pm with faulty := moving.pm.faulty.set 2 true };
      halted.pm.arbiter = .halted ∧ plateRequest Plate.fr 90 c halted = halted ∧
        faulty.pm.faulty.get Plate.rl = true ∧ plateRequest Plate.rl 90 c faulty = faulty ∧
        plateRequest Plate.fl 50 c moving = moving ∧
        (plateRequest Plate.fl 2 c moving).pm.move.map PlateMove.target = some 2 ∧
        (plateRequest Plate.fl 1 c moving).pm.targets.get Plate.fl = 1 ∧
        (plateRequest Plate.fl 1 c moving).pm.move.map PlateMove.plate = some Plate.fr ∧
        (plateRequest Plate.fr 90 c moving).pm.table.get Plate.fr = some ⟨90, c⟩ ∧
        (plateRequest Plate.rl 1 c moving).pm.targets.get Plate.rl = 1) ∧
      moving.pm.table.get Plate.fl = none ∧ moving.fresh (.plate Plate.rl) = true ∧
      moving.value (.plate Plate.rl) = 0 := by decide +kernel

/-- The last move's end ends a PLATES_IDLE wait (R143). -/
theorem test_plates_idle_wait :
    let s := awaiting .platesIdle moving
    (after (.sampleArrival 11 500 3) (s.putPm { s.pm with table := Vector.replicate 8 none })).li.replyQueue =
      [waitDone []] := by decide +kernel

/-- A module in an OPEN panel that misses this channel alone, after START, with SENSOR_STALE present for it. -/
def missing (c : Channel) (s : State) : State :=
  let u := withSource Source.sensorStale .active (withChan c .absent 0 s)
  { u with fc := { u.fc with startOver := true, sensorStale := true } }

/-- A module in START that misses this channel alone. -/
def lastOfStart (c : Channel) : State := withChan c .absent 0 (allFresh State.reset)

/-- A channel is STALE exactly if some entry of the table is. -/
theorem no_stale (s : State) (h : ∀ i : Fin 21, (s.fc.channels.get i).state ≠ .stale) (c : Channel) :
    (s.chan c).state ≠ .stale := h c.idx

/-- A first arrival on these channels, and the last one of START, meets the premise of the statements. -/
theorem witness_arrival_quiet :
    ∀ c ∈ [Channel.plate Plate.fr, .speed .b, .press .b, .pumpPress, .retFlow],
      ((missing c (canCut .auto)).chan c).state = .absent ∧ (missing c (canCut .auto)).ArrivalQuiet ∧
        (lastOfStart c).mp.mode = .start ∧ (lastOfStart c).ArrivalQuiet := by
  have stale : ∀ c ∈ [Channel.plate Plate.fr, .speed .b, .press .b, .pumpPress, .retFlow],
      ∀ i : Fin 21, ((lastOfStart c).fc.channels.get i).state ≠ .stale := by decide +kernel
  intro c hc
  refine ⟨?_, ⟨groupsFollow_of _ ?_ ?_, ⟨fun _ => ⟨c, .inr ⟨rfl, ?_⟩⟩, fun _ => rfl⟩, ?_⟩, rfl,
    groupsFollow_of _ ?_ ?_, ⟨fun h => ?_, fun ⟨d, h⟩ => ?_⟩, ?_⟩
  · revert c; decide +kernel
  · revert c; decide +kernel
  · revert c; decide +kernel
  · revert c; decide +kernel
  · unfold State.ModeAllowed; revert c; decide +kernel
  · revert c; decide +kernel
  · revert c; decide +kernel
  · cases h
  · rcases h with h | ⟨h, -⟩
    · exact absurd h (no_stale _ (stale c hc) d)
    · cases h
  · unfold State.ModeAllowed; revert c; decide +kernel

/-- The manifold of `moving` is coherent; the deadline at 2,000 and 1,999; samples 490 and 489 of the moving plate; a
sample of another plate; the pending plate is FRESH and more than 1 mm off. -/
theorem witness_PlateMoveEnds :
    moving.ManifoldCoherent ∧ moving.pm.move = some ⟨Plate.fl, 50, ⟨0, 2000⟩⟩ ∧ 2000 ≤ RunTime.since 2000 0 ∧
      RunTime.since 1999 0 < 2000 ∧ (moving.chan (.plate Plate.fl)).state ≠ .absent ∧
      abs (10 * (50 : Int) - 490) ≤ 10 ∧ 10 < abs (10 * (50 : Int) - 489) ∧ Plate.fr ≠ Plate.fl ∧
      moving.fresh (.plate Plate.fr) = true ∧ 10 < abs (10 * (40 : Int) - moving.value (.plate Plate.fr)) := by
  refine ⟨?_, by decide +kernel⟩
  refine ⟨by decide +kernel, by decide +kernel, fun h => absurd h (by decide +kernel), fun m h => ?_,
    by decide +kernel, ?_, ?_, ?_, fun h => absurd h (by decide +kernel), fun h => absurd h (by decide +kernel)⟩
  · cases h
    decide +kernel
  · intro p e h
    have : ∀ p : Plate, moving.pm.table.get p = none ∨ moving.pm.table.get p = some ⟨40, .trim⟩ := by decide +kernel
    have faulty : ∀ p : Plate, moving.pm.faulty.get p = false := by decide +kernel
    rcases this p with g | g <;> rw [g] at h <;> cases h
    exact ⟨by decide, faulty p⟩
  · intro p h
    exact absurd h (by revert p; decide +kernel)
  · intro p h
    exact absurd h (by revert p; decide +kernel)

/-! #### Wheels -/

/-- WHEEL_SET of wheel A to 0 and to 65,535 forward, and of wheel B in reverse: refused in START, in AUTO (REVERSE) and
on a LOCKED_OUT wheel, taken in each other state; WHEEL_CLEAR of a LOCKED_OUT wheel and of a STOPPED one. -/
theorem witness_WheelRequests :
    (ask (inMode .manual State.reset) 0x08 [0, 0, 255, 255]).Takes 0x08 4 ⟨8, 1, [0, 0, 255, 255]⟩ [] ∧
      unsignedAt [(0 : Byte), 0, 255, 255] 2 2 = 65535 ∧ byteAt [(0 : Byte), 0, 255, 255] 1 ≤ 1 ∧
      (inMode .auto State.reset).mp.mode = .auto ∧ byteAt [(1 : Byte), 1, 0, 0] 1 ≠ 0 ∧
      (inMode .manual State.reset).tripped (.wheel .a) = false ∧
      (∀ st ∈ [WheelState.stopped, .ramping, .running, .stopping, .stalled, .reversing, .lockedOut],
        ((withWheel .a st 100 100 100 State.reset).wheel .a).state = st) ∧
      (ask State.reset 0x09 [0]).Takes 0x09 1 ⟨9, 1, [0]⟩ [] := by
  unfold State.Takes
  decide +kernel

/-- The groups follow their sources on a module with a LOCKED_OUT wheel A. -/
theorem witness_WheelCleared :
    (withWheel .a .lockedOut 0 0 0 State.reset).GroupsFollow := by
  refine groupsFollow_of _ ?_ ?_ <;> decide +kernel

/-- A ramp sends the wheel's record when the commanded speed changes, and none when it stays (R155). -/
theorem test_ramp_sends_record :
    let s := withWheel .a .ramping 300 300 0 (canCut .manual)
    let t := after (.sampleArrival 7 0 1000) (s.putWheel .a { s.wheel .a with prevSample := some 0 })
    t.sent = [.wheelSpeed .a 20] ∧ (after (.sampleArrival 7 0 1000) t).sent = [] := by decide +kernel

/-- A RAMPING wheel at its target within the running band, a STOPPING wheel at speed 4, a stall condition that starts
the timer. -/
theorem witness_SpeedArrivalRamps :
    ((canCut .manual).chan (.speed .b)).state ≠ .absent ∧ ((canCut .manual).chan (.press .b)).state ≠ .absent ∧
      abs (100 - State.reset.par .runningBand - 100) ≤ State.reset.par .runningBand ∧ abs (-4 : Int) < 5 ∧
      State.reset.par .stallPressure < 500 ∧ 10 * abs (9 : Int) < abs 100 := by decide +kernel

/-- A lockout sends the wheel's speed record although the speed has been 0 since the stall (R166). -/
theorem test_lockout_sends_record :
    let s := withWheel .a .stalled 100 0 0 (inMode .manual State.reset)
    let v := { s.wheel .a with stateTimer := some ⟨0, 500⟩ }
    let t := after (.stallPauseEnd .a 500) ((s.setPar .autoReverse 0).putWheel .a v)
    (t.wheel .a).state = .lockedOut ∧ t.sent.head? = some (.wheelSpeed .a 0) := by decide +kernel

/-- Timers of a STALLED and of a REVERSING wheel, due and not due; 2 and 3 attempts in the last 60 s. -/
theorem witness_StallAndReverse :
    timerDue (some ⟨0, 500⟩) 500 = true ∧ timerDue (some ⟨0, 500⟩) 499 = false ∧ timerDue none 9 = false ∧
      ([0, 1, 2].dropWhile fun a => 60000 ≤ RunTime.since 60000 a).length = 2 ∧
      ([0, 1, 2].dropWhile fun a => 60000 ≤ RunTime.since 59999 a).length = 3 ∧
      (State.reset.setPar .autoReverse 1).par .autoReverse = 1 ∧
      ((withWheel .a .stalled 100 0 0 State.reset).wheel .a).state = .stalled ∧
      ((withWheel .a .reversing 100 (-60) (-60) State.reset).wheel .a).state = .reversing := by decide +kernel

/-! #### Slurry return -/

/-- PUMP_SET outside MANUAL with the PUMP group tripped is answered WRONG_MODE (log entry 34). -/
theorem test_pump_set_mode_first :
    (after (.pumpSet 3) (ask (withSource Source.emergency .latched (inMode .standby State.reset)) 0x0A [1, 0])).li.replyQueue.map
      ReplyPart.result = [.wrongMode] := by decide +kernel

/-- BACKFLUSH in HOLD while a backflush runs, and in STANDBY with the PUMP group tripped, is answered WRONG_MODE (log
entry 36). -/
theorem test_backflush_mode_first :
    let s := inMode .hold State.reset
    let r := fun u => (after (.backflush 3) (ask u 0x0B [])).li.replyQueue.map ReplyPart.result
    r { s with sr := { s.sr with backflushTimer := some ⟨0, 15000⟩ } } = [.wrongMode] ∧
      r (withSource Source.emergency .latched (inMode .standby State.reset)) = [.wrongMode] := by decide +kernel

/-- A PUMP trip that ends a backflush in AUTO with both wheels RUNNING turns the permit on (log entry 38). -/
theorem test_pump_trip_permits :
    let s := withWheel .a .running 200 200 200 (withWheel .b .running 200 200 200 (inMode .auto State.reset))
    let t := pumpTripped { s with sr := { s.sr with backflushTimer := some ⟨0, 15000⟩ } }
    t.sr.backflushTimer = none ∧ t.sr.feedPermit = true := by decide +kernel

/-- PUMP_SET in MANUAL and in START; BACKFLUSH in AUTO, with a backflush running, and in START; the timers due and not. -/
theorem witness_PumpRequests :
    (ask (inMode .manual State.reset) 0x0A [255, 255]).Takes 0x0A 2 ⟨0x0A, 1, [255, 255]⟩ [] ∧
      (ask (inMode .auto State.reset) 0x0B []).Takes 0x0B 0 ⟨0x0B, 1, []⟩ [] ∧ State.reset.mp.mode ≠ .manual ∧
      (inMode .manual State.reset).tripped .pump = false ∧ (inMode .auto State.reset).sr.backflushTimer = none ∧
      (withSource Source.emergency .latched State.reset).tripped .pump = true ∧
      timerDue (some ⟨0, 15000⟩) 15000 = true ∧ timerDue (some ⟨0, 15000⟩) 14999 = false := by
  unfold State.Takes
  decide +kernel

/-- The bounds of the ranges; both channels FRESH without a backflush; a blockage condition at the bound and beyond it;
a head with 65,534 and 65,535 samples. -/
theorem witness_ReturnLineWatches :
    let s := canCut .auto
    (s.chan .pumpPress).state ≠ .absent ∧ (s.chan .retFlow).state ≠ .absent ∧
      s.fresh .pumpPress = true ∧ s.fresh .retFlow = true ∧ s.sr.pumpState ≠ .backflush ∧
      s.sr.returnBlocked = false ∧ s.par .blockPressure < 100 ∧ 10 * (299 : Int) < 3 * 1000 ∧
      ¬10 * (300 : Int) < 3 * 1000 ∧ 65534 < 65535 ∧ (900 : Int) ≤ 2000 := by decide +kernel

/-- 6,000 L/min over 1 s pump 100 L, and the parcel behind an AT_METER head arrives; the head's density
goes to the open record of its station (R194, R196). -/
theorem test_arrival_attributes :
    let s := openTwo (canCut .auto)
    let head := { somePar 0 5 true with densitySum := 2400, densityCount := 2 }
    let t := after (.sampleArrival 20 6000 1000) { awaiting .attributed s with
      sr := { s.sr with prevFlow := some 0, line := [head, somePar 1 5 false] } }
    t.di.openRecord.map (fun r => (r.attributions, r.lastDensity)) = some (1, some 1200) ∧
      t.sr.line.map Parcel.atMeter = [true] ∧ t.li.replyQueue = [waitDone []] := by decide +kernel

/-- 6,000 L/min over 1 s pump 100 L in START too (R188). -/
theorem test_flow_in_start :
    let s := State.reset
    (after (.sampleArrival 20 6000 1000) { s with sr := { s.sr with prevFlow := some 0 } }).sr.vPump = 100 := by
  decide +kernel

/-- A flow of -10,000 and 10,000; the litres 0 and 1; the line empty, with a youngest parcel and full; an IN_LINE parcel
that has just arrived behind an AT_METER head. -/
theorem witness_FlowPumped :
    ((canCut .auto).chan .retFlow).state ≠ .absent ∧
      (canCut .auto).sr.returnBlocked = false ∧ (canCut .auto).sr.backflushTimer = none ∧
      ((59999 : Int) / 60000).toNat = 0 ∧ ((60000 : Int) / 60000).toNat = 1 ∧
      [somePar 0 5 true, somePar 1 5 false] = [somePar 0 5 true] ++ [somePar 1 5 false] ∧
      (∀ p ∈ [somePar 0 5 true], p.atMeter = true) ∧ (∀ p ∈ [somePar 1 5 false], p.atMeter = false) ∧
      (somePar 1 5 false).vline ≤ ((6 : Litres) - (somePar 1 5 false).vIn).toNat ∧
      ¬(somePar 1 5 false).vline ≤ ((5 : Litres) - (somePar 1 5 false).vIn).toNat ∧
      64 ≤ (List.replicate 63 (somePar 1 5 false)).length + 1 ∧
      State.reset.par .parcelSize = (200 : Int) ∧ ({ somePar 1 5 false with volume := 200 }).volume.toNat = 200 := by
  decide +kernel

/-! #### Trips -/

/-- A module on which OIL_TEMP is in this state, its groups with it. -/
def oilTrip (st : SourceState) : State := withSource Source.oilTemp st State.reset

/-- The groups follow their sources with OIL_TEMP CLEAR and LATCHED. -/
theorem witness_groups_follow : (oilTrip .clear).GroupsFollow ∧ (oilTrip .latched).GroupsFollow := by
  constructor <;> refine groupsFollow_of _ ?_ ?_ <;> decide +kernel

/-- TRIP_CLEAR of OIL_TEMP in each state; TRIP_FORCE on; TRIP_MAP_SET of OIL_TEMP to 31 and of EMERGENCY. -/
theorem witness_TripRequests :
    (ask State.reset 0x17 []).Takes 0x17 0 ⟨0x17, 1, []⟩ [] ∧
      (ask (oilTrip .latched) 0x18 [BitVec.ofNat 8 (Source.oilTemp.val + 1)]).Takes 0x18 1
        ⟨0x18, 1, [BitVec.ofNat 8 (Source.oilTemp.val + 1)]⟩ [] ∧
      byteAt [BitVec.ofNat 8 (Source.oilTemp.val + 1)] 0 = Source.oilTemp.val + 1 ∧
      (∀ st ∈ [SourceState.clear, .active, .latched], (oilTrip st).source Source.oilTemp = st) ∧
      (ask State.reset 0x19 [1]).Takes 0x19 1 ⟨0x19, 1, [1]⟩ [] ∧ State.reset.tu.operatorOn ≠ true ∧
      (ask State.reset 0x1A [13, 31]).Takes 0x1A 2 ⟨0x1A, 1, [13, 31]⟩ [] ∧
      byteAt [(13 : Byte), 31] 0 = Source.emergency.val + 1 ∧ byteAt [(13 : Byte), 31] 1 ≤ 31 := by
  unfold State.Takes
  decide +kernel

/-! #### Invariants: a state other than the one after reset, with a command waiting, on which the step answers -/

/-- A window end at 1,000 ms waits. -/
def due (s : State) : State := { s with runTime := 7, pending := [.windowEnd 1000] }

theorem witness_due_steps :
    step (due State.reset) = .next (after (.windowEnd 1000) { due State.reset with pending := [] }) ∧
      step (due (canCut .auto)) = .next (after (.windowEnd 1000) { due (canCut .auto) with pending := [] }) :=
  ⟨rfl, rfl⟩

theorem witness_params : (due State.reset).ParamsInRange := by
  refine ⟨fun p => ?_, by decide +kernel⟩
  cases p <;> decide +kernel

theorem witness_TablesKept :
    (due State.reset).CountersBounded ∧ (due State.reset).QueuesBounded ∧ (due State.reset).TagsDistinct ∧
      (due State.reset).PlansWf ∧ (due State.reset).LineWf := by
  refine ⟨by unfold State.CountersBounded; decide +kernel, by unfold State.QueuesBounded; decide +kernel,
    by unfold State.TagsDistinct; decide +kernel, ⟨by unfold planWf; decide +kernel, fun l h => by cases h⟩,
    by unfold State.LineWf; decide +kernel⟩

/-- A line of two parcels, the head AT_METER, whose V_in lie on either side of the wrap of V_pump at 2^32. -/
def lined : State :=
  let s := due State.reset
  { s with sr := { s.sr with line := [somePar (-20) 5 true, somePar 0 5 false], vPump := 30 } }

/-- The line is in form and in order, with room for an arrival; and a head from which V_pump lies 2^32 - 168 L off, and
one L more, at the end of that room. -/
theorem witness_LineOrdered :
    lined.LineWf ∧ lined.LineOrdered ∧ lined.sr.line.head? = some (somePar (-20) 5 true) ∧
      (lined.sr.vPump - (somePar (-20) 5 true).vIn).toNat + 167 < 2 ^ 32 ∧
      ((-168 : Litres) - 0).toNat + 167 < 2 ^ 32 ∧ ¬((-167 : Litres) - 0).toNat + 167 < 2 ^ 32 := by
  refine ⟨by unfold State.LineWf; decide +kernel, fun head h => ?_, by decide +kernel⟩
  cases h
  decide +kernel

/-- Station 2 is open at 1,200 mm, and SR's copy names it with its pass and the depth. -/
def cutting : State :=
  let s := openTwo (inMode .standby State.reset)
  { s with sr := { s.sr with cutter := some ⟨2, 1, 1200⟩ } }

theorem witness_StationsFollow :
    cutting.DepthInRange ∧ cutting.PathInRange ∧ cutting.LogKept ∧ cutting.StationFollows := by
  refine ⟨⟨by unfold depthAllowed; decide +kernel, fun d h => (by cases h), fun h => by cases h⟩,
    ⟨by unfold AxisPath.InRange; decide +kernel, by unfold AxisPath.InRange; decide +kernel⟩,
    ⟨by decide +kernel, by decide +kernel, fun r h => ?_⟩, by unfold State.StationFollows; decide +kernel⟩
  cases h
  decide +kernel

theorem witness_TripsFollow :
    (∀ w : WheelId, ((due State.reset).wheel w).Coherent) ∧ (due State.reset).GroupsFollow ∧
      (due State.reset).SourcesFollow ∧ (due State.reset).SensorStaleFollows := by
  refine ⟨fun w => by cases w <;> (unfold Wheel.Coherent; decide +kernel), groupsFollow_of _ ?_ ?_, ?_,
    fun h => absurd h (by decide +kernel), fun ⟨c, h⟩ => ?_⟩
  · decide +kernel
  · decide +kernel
  · unfold State.SourcesFollow
    decide +kernel
  · rcases h with h | ⟨h, -⟩
    · exact absurd h (no_stale _ (by decide +kernel) c)
    · cases h

/-- PUMP_SET in MANUAL sends one pump record; the same request again sends none (R172). -/
theorem test_pump_sends_record :
    let s := ask { inMode .manual State.reset with sr := { State.reset.sr with pumpState := .manual } } 0x0A [184, 11]
    let t := after (.pumpSet 3) s
    t.sent = [.pump 240] ∧ (after (.pumpSet 4) (ask t 0x0A [184, 11])).sent = [] := by decide +kernel

/-- A stall whose timer is due, and one of the other wheel. -/
theorem witness_RecordsSent :
    let s := State.reset.putWheel .a { State.reset.wheel .a with state := .running, stallTimer := some ⟨0, 1500⟩ }
    timerDue (s.wheel .a).stallTimer 1500 = true ∧ timerDue (s.wheel .b).stallTimer 1500 = false ∧
      (∀ e g o, Instr.stallTimerExpiry .a 1500 ≠ .powerOn e g o) ∧ Instr.stallTimerExpiry .a 1500 ≠ .moduleRestart := by
  exact ⟨by decide +kernel, by decide +kernel, fun _ _ _ => Instr.noConfusion, Instr.noConfusion⟩

theorem witness_OutputsFollow :
    let s := due State.reset
    (∀ w : WheelId, s.WheelInRange w) ∧ s.PermitFollows ∧ s.LimitFollows ∧ s.RequiredFollows ∧ s.PumpFollows ∧
      s.DifferentialFollows ∧ s.StartHoldsOff ∧ s.Settled := by
  refine ⟨fun w => by cases w <;> (unfold State.WheelInRange; decide +kernel), by unfold State.PermitFollows; decide +kernel,
    by unfold State.LimitFollows; decide +kernel, by unfold State.RequiredFollows; decide +kernel,
    by unfold State.PumpFollows; decide +kernel,
    by unfold State.DifferentialFollows; decide +kernel, fun _ => ⟨fun w => ?_, by decide +kernel⟩,
    fun w => ?_, by decide +kernel⟩ <;> cases w <;> decide +kernel

theorem witness_ModesFollow : (due (canCut .auto)).ModeAllowed ∧ (due (canCut .auto)).CausesFollow := by
  refine ⟨by unfold State.ModeAllowed; decide +kernel, by decide +kernel, by decide +kernel, by decide +kernel, fun a => ?_⟩
  cases a <;> decide +kernel

/-- `moving` meets the hypothesis (witness_PlateMoveEnds), and steps at the deadline of its move. -/
theorem witness_ManifoldFollows :
    step { moving with pending := [.plateMoveDeadline 2000] } = .next (after (.plateMoveDeadline 2000) moving) := rfl

end Sys2Proof.Tests
end

section
/-! SUPPORT. What the shared operations leave of the plan, the plan load and the transit line: beside the frames of
Laws/Frames.lean, for the operations that change other parts of SL and SR. -/

namespace Sys2Proof.Machine

/-- R173. -/
@[simp] theorem recomputeRequired_line (s : State) :
    (recomputeRequired s).sr.line = s.sr.line ∧
    (recomputeRequired s).sr.vPump = s.sr.vPump ∧
    (recomputeRequired s).sr.flowResidue = s.sr.flowResidue := by
  simp [recomputeRequired]

/-- R174. -/
@[simp] theorem recomputePump_line (s : State) :
    (recomputePump s).sr.line = s.sr.line ∧
    (recomputePump s).sr.vPump = s.sr.vPump ∧
    (recomputePump s).sr.flowResidue = s.sr.flowResidue := by
  unfold recomputePump
  split <;> simp

/-- R172. -/
@[simp] theorem refreshPump_line (s : State) :
    (refreshPump s).sr.line = s.sr.line ∧
    (refreshPump s).sr.vPump = s.sr.vPump ∧
    (refreshPump s).sr.flowResidue = s.sr.flowResidue := by
  simp [refreshPump]

/-- R177. -/
@[simp] theorem recomputeFeedLimit_line (s : State) :
    (recomputeFeedLimit s).sr.line = s.sr.line ∧
    (recomputeFeedLimit s).sr.vPump = s.sr.vPump ∧
    (recomputeFeedLimit s).sr.flowResidue = s.sr.flowResidue := by
  simp [recomputeFeedLimit]

/-- R178. -/
@[simp] theorem recomputePermit_line (s : State) :
    (recomputePermit s).sr.line = s.sr.line ∧
    (recomputePermit s).sr.vPump = s.sr.vPump ∧
    (recomputePermit s).sr.flowResidue = s.sr.flowResidue := by
  simp [recomputePermit]

/-- R173. -/
@[simp] theorem feedHandOff_line (rate : Int) (s : State) :
    (feedHandOff rate s).sr.line = s.sr.line ∧
    (feedHandOff rate s).sr.vPump = s.sr.vPump ∧
    (feedHandOff rate s).sr.flowResidue = s.sr.flowResidue := by
  simp [feedHandOff]

/-- R38. -/
@[simp] theorem slurryEnter_line (old : Mode) (s : State) :
    (slurryEnter old s).sr.line = s.sr.line ∧
    (slurryEnter old s).sr.vPump = s.sr.vPump ∧
    (slurryEnter old s).sr.flowResidue = s.sr.flowResidue := by
  simp only [slurryEnter]
  split <;> simp

/-- R185. -/
@[simp] theorem pumpTripped_line (s : State) :
    (pumpTripped s).sr.line = s.sr.line ∧
    (pumpTripped s).sr.vPump = s.sr.vPump ∧
    (pumpTripped s).sr.flowResidue = s.sr.flowResidue := by
  simp [pumpTripped]

/-- R185. -/
@[simp] theorem pumpUntripped_line (s : State) :
    (pumpUntripped s).sr.line = s.sr.line ∧
    (pumpUntripped s).sr.vPump = s.sr.vPump ∧
    (pumpUntripped s).sr.flowResidue = s.sr.flowResidue := by
  simp [pumpUntripped]

/-- R170. -/
@[simp] theorem changeWheel_line (w : WheelId) (v : Wheel) (s : State) :
    (changeWheel w v s).sr.line = s.sr.line ∧
    (changeWheel w v s).sr.vPump = s.sr.vPump ∧
    (changeWheel w v s).sr.flowResidue = s.sr.flowResidue := by
  simp only [changeWheel]
  split <;> simp

/-- R156. -/
@[simp] theorem wheelSet_line (w : WheelId) (d : Direction) (base : Int) (s : State) :
    (wheelSet w d base s).sr.line = s.sr.line ∧
    (wheelSet w d base s).sr.vPump = s.sr.vPump ∧
    (wheelSet w d base s).sr.flowResidue = s.sr.flowResidue := by
  simp [wheelSet]

/-- R160 to R162. -/
@[simp] theorem speedArrival_line (w : WheelId) (m : Int) (s : State) :
    (speedArrival w m s).sr.line = s.sr.line ∧
    (speedArrival w m s).sr.vPump = s.sr.vPump ∧
    (speedArrival w m s).sr.flowResidue = s.sr.flowResidue := by
  simp [speedArrival]

/-- R162. -/
@[simp] theorem pressArrival_line (w : WheelId) (s : State) :
    (pressArrival w s).sr.line = s.sr.line ∧
    (pressArrival w s).sr.vPump = s.sr.vPump ∧
    (pressArrival w s).sr.flowResidue = s.sr.flowResidue := by
  simp [pressArrival]

/-- R162. -/
@[simp] theorem wheelChannelLeft_line (w : WheelId) (s : State) :
    (wheelChannelLeft w s).sr.line = s.sr.line ∧
    (wheelChannelLeft w s).sr.vPump = s.sr.vPump ∧
    (wheelChannelLeft w s).sr.flowResidue = s.sr.flowResidue := by
  simp [wheelChannelLeft]

/-- R163. -/
@[simp] theorem stall_line (w : WheelId) (s : State) :
    (stall w s).sr.line = s.sr.line ∧
    (stall w s).sr.vPump = s.sr.vPump ∧
    (stall w s).sr.flowResidue = s.sr.flowResidue := by
  simp [stall]

/-- R164. -/
@[simp] theorem reverseEntry_line (w : WheelId) (s : State) :
    (reverseEntry w s).sr.line = s.sr.line ∧
    (reverseEntry w s).sr.vPump = s.sr.vPump ∧
    (reverseEntry w s).sr.flowResidue = s.sr.flowResidue := by
  simp [reverseEntry]

/-- R166. -/
@[simp] theorem lockOut_line (w : WheelId) (s : State) :
    (lockOut w s).sr.line = s.sr.line ∧
    (lockOut w s).sr.vPump = s.sr.vPump ∧
    (lockOut w s).sr.flowResidue = s.sr.flowResidue := by
  simp [lockOut]

/-- R165. -/
@[simp] theorem reverseEnd_line (w : WheelId) (s : State) :
    (reverseEnd w s).sr.line = s.sr.line ∧
    (reverseEnd w s).sr.vPump = s.sr.vPump ∧
    (reverseEnd w s).sr.flowResidue = s.sr.flowResidue := by
  simp [reverseEnd]

/-- R167. -/
@[simp] theorem wheelClear_line (w : WheelId) (s : State) :
    (wheelClear w s).sr.line = s.sr.line ∧
    (wheelClear w s).sr.vPump = s.sr.vPump ∧
    (wheelClear w s).sr.flowResidue = s.sr.flowResidue := by
  simp [wheelClear]

/-- R158. -/
@[simp] theorem wheelsEnter_line (old : Mode) (s : State) :
    (wheelsEnter old s).sr.line = s.sr.line ∧
    (wheelsEnter old s).sr.vPump = s.sr.vPump ∧
    (wheelsEnter old s).sr.flowResidue = s.sr.flowResidue := by
  simp [wheelsEnter]

/-- R169. -/
@[simp] theorem wheelTripped_line (w : WheelId) (s : State) :
    (wheelTripped w s).sr.line = s.sr.line ∧
    (wheelTripped w s).sr.vPump = s.sr.vPump ∧
    (wheelTripped w s).sr.flowResidue = s.sr.flowResidue := by
  simp only [wheelTripped]
  split <;> simp

/-- R38, R128. -/
@[simp] theorem steeringEnter_plan (s : State) :
    (steeringEnter s).sl.plan = s.sl.plan ∧
    (steeringEnter s).sl.load = s.sl.load := by
  unfold steeringEnter
  split <;> simp

/-- R38. -/
@[simp] theorem changeMode_plan (m : Mode) (s : State) :
    (changeMode m s).sl.plan = s.sl.plan ∧
    (changeMode m s).sl.load = s.sl.load := by
  unfold changeMode
  split <;> simp

/-- R38. -/
@[simp] theorem changeMode_line (m : Mode) (s : State) :
    (changeMode m s).sr.line = s.sr.line ∧
    (changeMode m s).sr.vPump = s.sr.vPump ∧
    (changeMode m s).sr.flowResidue = s.sr.flowResidue := by
  unfold changeMode
  split <;> simp

/-- R34. -/
@[simp] theorem holdTest_plan (s : State) :
    (holdTest s).sl.plan = s.sl.plan ∧
    (holdTest s).sl.load = s.sl.load := by
  unfold holdTest
  split
  · split <;> simp
  · split <;> simp
  all_goals simp

/-- R34. -/
@[simp] theorem holdTest_line (s : State) :
    (holdTest s).sr.line = s.sr.line ∧
    (holdTest s).sr.vPump = s.sr.vPump ∧
    (holdTest s).sr.flowResidue = s.sr.flowResidue := by
  unfold holdTest
  split
  · split <;> simp
  · split <;> simp
  all_goals simp

/-- R37. -/
@[simp] theorem emergencyStandby_plan (s : State) :
    (emergencyStandby s).sl.plan = s.sl.plan ∧
    (emergencyStandby s).sl.load = s.sl.load := by
  unfold emergencyStandby
  split <;> simp

/-- R37. -/
@[simp] theorem emergencyStandby_line (s : State) :
    (emergencyStandby s).sr.line = s.sr.line ∧
    (emergencyStandby s).sr.vPump = s.sr.vPump ∧
    (emergencyStandby s).sr.flowResidue = s.sr.flowResidue := by
  unfold emergencyStandby
  split <;> simp

/-- R204. -/
@[simp] theorem groupReport_line (g : Group) (b : Bool) (s : State) :
    (groupReport g b s).sr.line = s.sr.line ∧
    (groupReport g b s).sr.vPump = s.sr.vPump ∧
    (groupReport g b s).sr.flowResidue = s.sr.flowResidue := by
  unfold groupReport
  split <;> simp

/-- R204. -/
@[simp] theorem recomputeGroups_line (s : State) :
    (recomputeGroups s).sr.line = s.sr.line ∧
    (recomputeGroups s).sr.vPump = s.sr.vPump ∧
    (recomputeGroups s).sr.flowResidue = s.sr.flowResidue := by
  simp only [recomputeGroups]
  refine ⟨foldl_keeps _ (fun u : State => u.sr.line) ?_ _ _, foldl_keeps _ (fun u : State => u.sr.vPump) ?_ _ _,
    foldl_keeps _ (fun u : State => u.sr.flowResidue) ?_ _ _⟩ <;>
    · intro b a
      split <;> simp

/-- R203. -/
@[simp] theorem setSource_line (i : Source) (st : SourceState) (s : State) :
    (setSource i st s).sr.line = s.sr.line ∧
    (setSource i st s).sr.vPump = s.sr.vPump ∧
    (setSource i st s).sr.flowResidue = s.sr.flowResidue := by
  simp [setSource]

/-- R203. -/
@[simp] theorem condition_plan (i : Source) (b : Bool) (s : State) :
    (condition i b s).sl.plan = s.sl.plan ∧
    (condition i b s).sl.load = s.sl.load := by
  unfold condition
  split
  · dsimp only
    split <;> simp
  · dsimp only
    split <;> simp
  all_goals simp

/-- R203. -/
@[simp] theorem condition_line (i : Source) (b : Bool) (s : State) :
    (condition i b s).sr.line = s.sr.line ∧
    (condition i b s).sr.vPump = s.sr.vPump ∧
    (condition i b s).sr.flowResidue = s.sr.flowResidue := by
  unfold condition
  split
  · dsimp only
    split <;> simp
  · dsimp only
    split <;> simp
  all_goals simp

/-- R190. -/
@[simp] theorem cutterHandOff_line (s : State) :
    (cutterHandOff s).sr.line = s.sr.line ∧
    (cutterHandOff s).sr.vPump = s.sr.vPump ∧
    (cutterHandOff s).sr.flowResidue = s.sr.flowResidue := by
  simp [cutterHandOff]

/-- R175. -/
@[simp] theorem adjustTrim_line (v : Int) (s : State) :
    (adjustTrim v s).sr.line = s.sr.line ∧
    (adjustTrim v s).sr.vPump = s.sr.vPump ∧
    (adjustTrim v s).sr.flowResidue = s.sr.flowResidue := by
  unfold adjustTrim
  split <;> simp

/-- R179. -/
@[simp] theorem densityWatch_plan (v : Int) (s : State) :
    (densityWatch v s).sl.plan = s.sl.plan ∧
    (densityWatch v s).sl.load = s.sl.load := by
  simp only [densityWatch]
  split <;> split <;> simp

/-- R179. -/
@[simp] theorem densityWatch_line (v : Int) (s : State) :
    (densityWatch v s).sr.line = s.sr.line ∧
    (densityWatch v s).sr.vPump = s.sr.vPump ∧
    (densityWatch v s).sr.flowResidue = s.sr.flowResidue := by
  simp only [densityWatch]
  split <;> split <;> simp

/-- R183. -/
@[simp] theorem endBackflush_line (s : State) :
    (endBackflush s).sr.line = s.sr.line ∧
    (endBackflush s).sr.vPump = s.sr.vPump ∧
    (endBackflush s).sr.flowResidue = s.sr.flowResidue := by
  simp [endBackflush]

/-- R180. -/
@[simp] theorem blockageWatch_plan (s : State) :
    (blockageWatch s).sl.plan = s.sl.plan ∧
    (blockageWatch s).sl.load = s.sl.load := by
  unfold blockageWatch
  split
  · split
    · split <;> simp
    · dsimp only
      split <;> simp
  · simp

/-- R180. -/
@[simp] theorem blockageWatch_line (s : State) :
    (blockageWatch s).sr.line = s.sr.line ∧
    (blockageWatch s).sr.vPump = s.sr.vPump ∧
    (blockageWatch s).sr.flowResidue = s.sr.flowResidue := by
  unfold blockageWatch
  split
  · split
    · split <;> simp
    · dsimp only
      split <;> simp
  · simp

/-- R180. -/
@[simp] theorem blockageSuspend_line (s : State) :
    (blockageSuspend s).sr.line = s.sr.line ∧
    (blockageSuspend s).sr.vPump = s.sr.vPump ∧
    (blockageSuspend s).sr.flowResidue = s.sr.flowResidue := by
  simp [blockageSuspend]

/-- R79. -/
@[simp] theorem setRing_line (ring : List RingEntry) (s : State) :
    (setRing ring s).sr.line = s.sr.line ∧
    (setRing ring s).sr.vPump = s.sr.vPump ∧
    (setRing ring s).sr.flowResidue = s.sr.flowResidue := by
  simp only [setRing]
  split <;> simp

/-- R79. -/
@[simp] theorem emptyRing_line (s : State) :
    (emptyRing s).sr.line = s.sr.line ∧
    (emptyRing s).sr.vPump = s.sr.vPump ∧
    (emptyRing s).sr.flowResidue = s.sr.flowResidue := by
  simp [emptyRing]

/-- R78. -/
@[simp] theorem updateRing_line (d : Int) (s : State) :
    (updateRing d s).sr.line = s.sr.line ∧
    (updateRing d s).sr.vPump = s.sr.vPump ∧
    (updateRing d s).sr.flowResidue = s.sr.flowResidue := by
  simp only [updateRing]
  split <;> simp

/-- R117. -/
@[simp] theorem evaluate_plan (b : Band) (s : State) :
    (evaluate b s).sl.plan = s.sl.plan ∧
    (evaluate b s).sl.load = s.sl.load := by
  simp only [evaluate]
  refine ⟨(foldl_keeps _ (fun u : State => u.sl.plan) ?_ _ _).trans (by simp),
    (foldl_keeps _ (fun u : State => u.sl.load) ?_ _ _).trans (by simp)⟩ <;>
    · intro b a
      simp

/-- R103. -/
@[simp] theorem suppress_plan (s : State) :
    (suppress s).sl.plan = s.sl.plan ∧
    (suppress s).sl.load = s.sl.load := by
  simp [suppress]

/-- R102. -/
@[simp] theorem steerAtDepth_plan (s : State) :
    (steerAtDepth s).sl.plan = s.sl.plan ∧
    (steerAtDepth s).sl.load = s.sl.load := by
  unfold steerAtDepth
  split
  · dsimp only
    split <;> simp
  · simp

/-- R131. -/
@[simp] theorem diffMaxStored_plan (s : State) :
    (diffMaxStored s).sl.plan = s.sl.plan ∧
    (diffMaxStored s).sl.load = s.sl.load := by
  simp only [diffMaxStored]
  split <;> simp

/-- R75. -/
@[simp] theorem depthHandOff_plan (d : Int) (s : State) :
    (depthHandOff d s).sl.plan = s.sl.plan ∧
    (depthHandOff d s).sl.load = s.sl.load := by
  simp [depthHandOff]

/-- R75. -/
@[simp] theorem depthHandOff_line (d : Int) (s : State) :
    (depthHandOff d s).sr.line = s.sr.line ∧
    (depthHandOff d s).sr.vPump = s.sr.vPump ∧
    (depthHandOff d s).sr.flowResidue = s.sr.flowResidue := by
  simp [depthHandOff]

/-- R67. -/
@[simp] theorem depthEvent_plan (d : Int) (r : Bool) (s : State) :
    (depthEvent d r s).sl.plan = s.sl.plan ∧
    (depthEvent d r s).sl.load = s.sl.load := by
  cases r <;> simp only [depthEvent, if_true, Bool.false_eq_true, if_false]
  all_goals
    split
    · simp
    · split
      · simp
      · split <;> simp

/-- R67. -/
@[simp] theorem depthEvent_line (d : Int) (r : Bool) (s : State) :
    (depthEvent d r s).sr.line = s.sr.line ∧
    (depthEvent d r s).sr.vPump = s.sr.vPump ∧
    (depthEvent d r s).sr.flowResidue = s.sr.flowResidue := by
  cases r <;> simp only [depthEvent, if_true, Bool.false_eq_true, if_false]
  all_goals
    split
    · simp
    · split
      · simp
      · split <;> simp

/-- R51. -/
@[simp] theorem sensorStaleWatch_plan (s : State) :
    (sensorStaleWatch s).sl.plan = s.sl.plan ∧
    (sensorStaleWatch s).sl.load = s.sl.load := by
  simp only [sensorStaleWatch]
  split <;> simp

/-- R51. -/
@[simp] theorem sensorStaleWatch_line (s : State) :
    (sensorStaleWatch s).sr.line = s.sr.line ∧
    (sensorStaleWatch s).sr.vPump = s.sr.vPump ∧
    (sensorStaleWatch s).sr.flowResidue = s.sr.flowResidue := by
  simp only [sensorStaleWatch]
  split <;> simp

/-- R59. -/
@[simp] theorem disagreeWatch_plan (s : State) :
    (disagreeWatch s).sl.plan = s.sl.plan ∧
    (disagreeWatch s).sl.load = s.sl.load := by
  unfold disagreeWatch
  split <;> simp

/-- R59. -/
@[simp] theorem disagreeWatch_line (s : State) :
    (disagreeWatch s).sr.line = s.sr.line ∧
    (disagreeWatch s).sr.vPump = s.sr.vPump ∧
    (disagreeWatch s).sr.flowResidue = s.sr.flowResidue := by
  unfold disagreeWatch
  split <;> simp

/-- R60. -/
@[simp] theorem inclLimitWatch_plan (s : State) :
    (inclLimitWatch s).sl.plan = s.sl.plan ∧
    (inclLimitWatch s).sl.load = s.sl.load := by
  simp only [inclLimitWatch]
  split <;> simp

/-- R60. -/
@[simp] theorem inclLimitWatch_line (s : State) :
    (inclLimitWatch s).sr.line = s.sr.line ∧
    (inclLimitWatch s).sr.vPump = s.sr.vPump ∧
    (inclLimitWatch s).sr.flowResidue = s.sr.flowResidue := by
  simp only [inclLimitWatch]
  split <;> simp

/-- R55 to R60. -/
@[simp] theorem derive_plan (a : Axis) (s : State) :
    (derive a s).sl.plan = s.sl.plan ∧
    (derive a s).sl.load = s.sl.load := by
  simp [derive]

/-- R55 to R60. -/
@[simp] theorem derive_line (a : Axis) (s : State) :
    (derive a s).sr.line = s.sr.line ∧
    (derive a s).sr.vPump = s.sr.vPump ∧
    (derive a s).sr.flowResidue = s.sr.flowResidue := by
  simp [derive]

/-- R50. -/
@[simp] theorem channelReport_plan (c : Channel) (s : State) :
    (channelReport c s).sl.plan = s.sl.plan ∧
    (channelReport c s).sl.load = s.sl.load := by
  cases c with
  | incl m a => simp [channelReport]
  | retDens => simp [channelReport]
  | _ => simp only [channelReport]; split <;> simp

/-- R50. -/
@[simp] theorem channelReport_line (c : Channel) (s : State) :
    (channelReport c s).sr.line = s.sr.line ∧
    (channelReport c s).sr.vPump = s.sr.vPump ∧
    (channelReport c s).sr.flowResidue = s.sr.flowResidue := by
  cases c with
  | incl m a => simp [channelReport]
  | retDens => simp [channelReport]
  | _ => simp only [channelReport]; split <;> simp

/-- R64. -/
@[simp] theorem forceStale_plan (s : State) :
    (forceStale s).sl.plan = s.sl.plan ∧
    (forceStale s).sl.load = s.sl.load := by
  simp only [forceStale]
  split <;> simp

/-- R64. -/
@[simp] theorem forceStale_line (s : State) :
    (forceStale s).sr.line = s.sr.line ∧
    (forceStale s).sr.vPump = s.sr.vPump ∧
    (forceStale s).sr.flowResidue = s.sr.flowResidue := by
  simp only [forceStale]
  split <;> simp

/-- R63. -/
@[simp] theorem rejectDepth_plan (s : State) :
    (rejectDepth s).sl.plan = s.sl.plan ∧
    (rejectDepth s).sl.load = s.sl.load := by
  simp only [rejectDepth]
  split <;> simp

/-- R63. -/
@[simp] theorem rejectDepth_line (s : State) :
    (rejectDepth s).sr.line = s.sr.line ∧
    (rejectDepth s).sr.vPump = s.sr.vPump ∧
    (rejectDepth s).sr.flowResidue = s.sr.flowResidue := by
  simp only [rejectDepth]
  split <;> simp

/-- R62. -/
@[simp] theorem acceptDepth_plan (c raw : Int) (r : Bool) (s : State) :
    (acceptDepth c raw r s).sl.plan = s.sl.plan ∧
    (acceptDepth c raw r s).sl.load = s.sl.load := by
  simp [acceptDepth]

/-- R62. -/
@[simp] theorem acceptDepth_line (c raw : Int) (r : Bool) (s : State) :
    (acceptDepth c raw r s).sr.line = s.sr.line ∧
    (acceptDepth c raw r s).sr.vPump = s.sr.vPump ∧
    (acceptDepth c raw r s).sr.flowResidue = s.sr.flowResidue := by
  simp [acceptDepth]

/-- R61, R62. -/
@[simp] theorem depthArrival_plan (v : Int) (s : State) :
    (depthArrival v s).sl.plan = s.sl.plan ∧
    (depthArrival v s).sl.load = s.sl.load := by
  simp only [depthArrival]
  split
  · simp
  · split
    · simp
    · split
      · split <;> simp
      · split <;> simp

/-- R61, R62. -/
@[simp] theorem depthArrival_line (v : Int) (s : State) :
    (depthArrival v s).sr.line = s.sr.line ∧
    (depthArrival v s).sr.vPump = s.sr.vPump ∧
    (depthArrival v s).sr.flowResidue = s.sr.flowResidue := by
  simp only [depthArrival]
  split
  · simp
  · split
    · simp
    · split
      · split <;> simp
      · split <;> simp

/-- R60. -/
@[simp] theorem twistLimitWatch_plan (s : State) :
    (twistLimitWatch s).sl.plan = s.sl.plan ∧
    (twistLimitWatch s).sl.load = s.sl.load := by
  simp only [twistLimitWatch]
  split <;> simp

/-- R60. -/
@[simp] theorem twistLimitWatch_line (s : State) :
    (twistLimitWatch s).sr.line = s.sr.line ∧
    (twistLimitWatch s).sr.vPump = s.sr.vPump ∧
    (twistLimitWatch s).sr.flowResidue = s.sr.flowResidue := by
  simp only [twistLimitWatch]
  split <;> simp

/-- R48. -/
@[simp] theorem passValue_plan (c : Channel) (v : Int) (s : State) :
    (passValue c v s).sl.plan = s.sl.plan ∧
    (passValue c v s).sl.load = s.sl.load := by
  cases c <;> simp [passValue]

/-- R48. -/
@[simp] theorem arrival_plan (c : Channel) (v : Int) (s : State) :
    (arrival c v s).sl.plan = s.sl.plan ∧
    (arrival c v s).sl.load = s.sl.load := by
  simp only [arrival]
  split <;> simp

/-- R29. -/
@[simp] theorem endStart_plan (s : State) :
    (endStart s).sl.plan = s.sl.plan ∧
    (endStart s).sl.load = s.sl.load := by
  simp [endStart]

/-- R29. -/
@[simp] theorem endStart_line (s : State) :
    (endStart s).sr.line = s.sr.line ∧
    (endStart s).sr.vPump = s.sr.vPump ∧
    (endStart s).sr.flowResidue = s.sr.flowResidue := by
  simp [endStart]

/-- R29. -/
@[simp] theorem startTest_plan (s : State) :
    (startTest s).sl.plan = s.sl.plan ∧
    (startTest s).sl.load = s.sl.load := by
  unfold startTest
  split <;> simp

/-- R29. -/
@[simp] theorem startTest_line (s : State) :
    (startTest s).sr.line = s.sr.line ∧
    (startTest s).sr.vPump = s.sr.vPump ∧
    (startTest s).sr.flowResidue = s.sr.flowResidue := by
  unfold startTest
  split <;> simp

/-- R49. -/
@[simp] theorem windowEnd_plan (s : State) :
    (windowEnd s).sl.plan = s.sl.plan ∧
    (windowEnd s).sl.load = s.sl.load := by
  simp only [windowEnd, sensorStaleWatch_plan, holdTest_plan]
  refine ⟨(foldl_keeps _ (fun u : State => u.sl.plan) ?_ _ _).trans (by simp),
    (foldl_keeps _ (fun u : State => u.sl.load) ?_ _ _).trans (by simp)⟩ <;>
    · intro b a
      simp

/-- R49. -/
@[simp] theorem windowEnd_line (s : State) :
    (windowEnd s).sr.line = s.sr.line ∧
    (windowEnd s).sr.vPump = s.sr.vPump ∧
    (windowEnd s).sr.flowResidue = s.sr.flowResidue := by
  simp only [windowEnd, sensorStaleWatch_line, holdTest_line]
  refine ⟨(foldl_keeps _ (fun u : State => u.sr.line) ?_ _ _).trans (by simp),
    (foldl_keeps _ (fun u : State => u.sr.vPump) ?_ _ _).trans (by simp),
    (foldl_keeps _ (fun u : State => u.sr.flowResidue) ?_ _ _).trans (by simp)⟩ <;>
    · intro b a
      simp

/-- R54. -/
@[simp] theorem reportInput_plan (i : InputId) (s : State) :
    (reportInput i s).sl.plan = s.sl.plan ∧
    (reportInput i s).sl.load = s.sl.load := by
  simp [reportInput]

/-- R54. -/
@[simp] theorem reportInput_line (i : InputId) (s : State) :
    (reportInput i s).sr.line = s.sr.line ∧
    (reportInput i s).sr.vPump = s.sr.vPump ∧
    (reportInput i s).sr.flowResidue = s.sr.flowResidue := by
  simp [reportInput]

/-- R53. -/
@[simp] theorem passInput_plan (i : InputId) (s : State) :
    (passInput i s).sl.plan = s.sl.plan ∧
    (passInput i s).sl.load = s.sl.load := by
  simp [passInput]

/-- R53. -/
@[simp] theorem passInput_line (i : InputId) (s : State) :
    (passInput i s).sr.line = s.sr.line ∧
    (passInput i s).sr.vPump = s.sr.vPump ∧
    (passInput i s).sr.flowResidue = s.sr.flowResidue := by
  simp [passInput]

/-- R53. -/
@[simp] theorem inputChange_plan (i : InputId) (l : Level) (s : State) :
    (inputChange i l s).sl.plan = s.sl.plan ∧
    (inputChange i l s).sl.load = s.sl.load := by
  simp only [inputChange]
  split
  · simp
  · split
    · simp
    · split
      · simp
      · split <;> simp

/-- R53. -/
@[simp] theorem inputChange_line (i : InputId) (l : Level) (s : State) :
    (inputChange i l s).sr.line = s.sr.line ∧
    (inputChange i l s).sr.vPump = s.sr.vPump ∧
    (inputChange i l s).sr.flowResidue = s.sr.flowResidue := by
  simp only [inputChange]
  split
  · simp
  · split
    · simp
    · split
      · simp
      · split <;> simp

/-- R59. -/
@[simp] theorem disagreementPersists_plan (a : Axis) (s : State) :
    (disagreementPersists a s).sl.plan = s.sl.plan ∧
    (disagreementPersists a s).sl.load = s.sl.load := by
  simp only [disagreementPersists]
  split <;> simp

/-- R59. -/
@[simp] theorem disagreementPersists_line (a : Axis) (s : State) :
    (disagreementPersists a s).sr.line = s.sr.line ∧
    (disagreementPersists a s).sr.vPump = s.sr.vPump ∧
    (disagreementPersists a s).sr.flowResidue = s.sr.flowResidue := by
  simp only [disagreementPersists]
  split <;> simp

/-- R207. -/
@[simp] theorem tripForce_plan (b : Bool) (s : State) :
    (tripForce b s).sl.plan = s.sl.plan ∧
    (tripForce b s).sl.load = s.sl.load := by
  unfold tripForce
  split <;> simp

/-- R207. -/
@[simp] theorem tripForce_line (b : Bool) (s : State) :
    (tripForce b s).sr.line = s.sr.line ∧
    (tripForce b s).sr.vPump = s.sr.vPump ∧
    (tripForce b s).sr.flowResidue = s.sr.flowResidue := by
  unfold tripForce
  split <;> simp

/-- R47. -/
@[simp] theorem sample_plan (n : Nat) (v : Int) (s : State) :
    (sample n v s).sl.plan = s.sl.plan ∧
    (sample n v s).sl.load = s.sl.load := by
  unfold sample
  split
  · split <;> simp
  · simp

end Sys2Proof.Machine
end

section
/-! SUPPORT. The counter set stays within its cap at every operation that counts (R23). -/

namespace Sys2Proof.Machine

/-- Counters left as they were stay bounded. -/
theorem State.CountersBounded.of_eq {s t : State} (h : t.counters = s.counters) (hs : s.CountersBounded) :
    t.CountersBounded := by
  unfold State.CountersBounded
  rwa [h]

/-- A fold keeps what each of its steps keeps. -/
theorem foldl_preserves {α β : Type} (P : β → Prop) (f : β → α → β) (h : ∀ b a, P b → P (f b a)) (l : List α) :
    ∀ b, P b → P (l.foldl f b) := by
  induction l with
  | nil => exact fun _ hb => hb
  | cons a l ih => exact fun b hb => ih _ (h b a hb)

theorem State.addCounter_bounded (n k : Nat) {s : State} (h : s.CountersBounded) : (s.addCounter n k).CountersBounded := by
  intro i
  have := h i
  simp only [State.addCounter, Vector.get_ofFn]
  split
  · exact Nat.min_le_right _ _
  · exact this

theorem State.count_bounded (n : Nat) {s : State} (h : s.CountersBounded) : (s.count n).CountersBounded :=
  State.addCounter_bounded n 1 h

theorem State.zeroCounter_bounded (n : Nat) {s : State} (h : s.CountersBounded) : (s.zeroCounter n).CountersBounded := by
  intro i
  have := h i
  simp only [State.zeroCounter, Vector.get_ofFn]
  split
  · exact Nat.zero_le _
  · exact this

theorem stall_bounded (w : WheelId) {s : State} (h : s.CountersBounded) : (stall w s).CountersBounded :=
  State.count_bounded _ (h.of_eq (by simp))

theorem reverseEntry_bounded (w : WheelId) {s : State} (h : s.CountersBounded) : (reverseEntry w s).CountersBounded :=
  State.count_bounded _ (h.of_eq (by simp))

theorem endDone_bounded {s : State} (h : s.CountersBounded) : (endDone s).CountersBounded :=
  State.count_bounded _ (h.of_eq (by simp))

theorem endFailed_bounded (p : Plate) {s : State} (h : s.CountersBounded) : (endFailed p s).CountersBounded :=
  State.count_bounded _ (h.of_eq (by simp))

theorem grantRounds_bounded (n : Nat) : ∀ {s : State}, s.CountersBounded → (grantRounds n s).CountersBounded := by
  induction n with
  | zero => exact fun h => h
  | succ n ih =>
    intro s h
    unfold grantRounds
    split
    · exact h.of_eq (by simp)
    · split
      · exact ih (h.of_eq (by simp))
      · have started : ∀ (p : Plate) (t : Nat) (pm : Manifold), (startMove p t pm s).CountersBounded :=
          fun p t pm => h.of_eq rfl
        dsimp only
        split
        · exact ih (endFailed_bounded _ (started _ _ _))
        · split
          · exact ih (endDone_bounded (started _ _ _))
          · exact started _ _ _

theorem grantPoint_bounded {s : State} (h : s.CountersBounded) : (grantPoint s).CountersBounded :=
  grantRounds_bounded 9 h

theorem plateRequest_bounded (p : Plate) (t : Nat) (c : PlateClass) {s : State} (h : s.CountersBounded) :
    (plateRequest p t c s).CountersBounded := by
  have entered : (requestEntry p t c s).CountersBounded := by
    unfold requestEntry
    split
    · exact h.of_eq rfl
    · split
      · exact h.of_eq rfl
      · dsimp only [makeEntry]
        split
        · exact grantPoint_bounded (h.of_eq rfl)
        · exact h.of_eq rfl
  have retargeted : ∀ m, (retarget m t s).CountersBounded := by
    intro m
    unfold retarget
    split
    · exact h
    · dsimp only
      split
      · exact grantPoint_bounded (endDone_bounded (h.of_eq rfl))
      · exact h.of_eq rfl
  unfold plateRequest
  split
  · exact h
  · split
    · exact h
    · split
      · split
        · exact retargeted _
        · exact entered
      · exact entered

theorem failMove_bounded (p : Plate) {s : State} (h : s.CountersBounded) : (failMove p s).CountersBounded :=
  grantPoint_bounded (endFailed_bounded p h)

theorem plateArrival_bounded (p : Plate) {s : State} (h : s.CountersBounded) : (plateArrival p s).CountersBounded := by
  unfold plateArrival
  split
  · split
    · exact grantPoint_bounded (endDone_bounded h)
    · exact h
  · exact h

theorem plateChannelLeft_bounded (p : Plate) {s : State} (h : s.CountersBounded) :
    (plateChannelLeft p s).CountersBounded := by
  unfold plateChannelLeft
  split
  · split
    · exact failMove_bounded _ h
    · exact h
  · exact h

theorem holdTest_bounded {s : State} (h : s.CountersBounded) : (holdTest s).CountersBounded := by
  unfold holdTest
  split
  · split
    · exact (State.count_bounded 17 h).of_eq (by simp)
    · exact h
  · split
    · exact h
    · exact h.of_eq (by simp)
  all_goals exact h

theorem emptyLine_bounded {s : State} (h : s.CountersBounded) : (emptyLine s).CountersBounded :=
  State.addCounter_bounded _ _ (h.of_eq rfl)

theorem placeLitres_bounded (v : Litres) (n : Nat) {s : State} (h : s.CountersBounded) :
    (placeLitres v n s).CountersBounded := by
  unfold placeLitres
  split
  · exact h
  · exact h.of_eq rfl
  · exact State.count_bounded 8 (h.of_eq rfl)
  · exact h.of_eq rfl

theorem attributeParcel_bounded (p : Parcel) {s : State} (h : s.CountersBounded) :
    (attributeParcel s p).CountersBounded := by
  unfold attributeParcel
  split
  · exact h
  · unfold attribution
    split
    · exact State.count_bounded 10 h
    · split
      · exact h.of_eq (by simp)
      · split
        · split
          · exact h.of_eq (by simp)
          · exact State.count_bounded 10 h
        · exact State.count_bounded 10 h

theorem testArrivals_bounded {s : State} (h : s.CountersBounded) : (testArrivals s).CountersBounded :=
  foldl_preserves _ _ (fun _ p hb => attributeParcel_bounded p hb) _ _ (h.of_eq rfl)

theorem pumpedVolume_bounded (f : Int) {s : State} (h : s.CountersBounded) : (pumpedVolume f s).CountersBounded := by
  simp only [pumpedVolume]
  split
  · split
    · exact testArrivals_bounded (placeLitres_bounded _ _ (h.of_eq rfl))
    · exact h.of_eq rfl
  · exact h.of_eq rfl

theorem startBackflush_bounded {s : State} (h : s.CountersBounded) : (startBackflush s).CountersBounded :=
  .of_eq (recomputePermit_keeps _).2.2.1 (emptyLine_bounded (h.of_eq rfl))

theorem closeStation_bounded (k b : Int) (r : Bool) {s : State} (h : s.CountersBounded) :
    (closeStation k b r s).CountersBounded := by
  unfold closeStation
  split
  · split
    · dsimp only [writeRecord]
      split
      · exact h.of_eq rfl
      · exact State.count_bounded 7 (h.of_eq rfl)
    · exact h
  · exact h

theorem takeStep_bounded (d : Int) (r : Bool) {s : State} (h : s.CountersBounded) : (takeStep d r s).CountersBounded := by
  have down : ∀ (t : State) (b : Int), t.CountersBounded → (crossDown r t b).CountersBounded := fun t b ht =>
    .of_eq (enterStation_keeps _ _).2.2.1 (closeStation_bounded _ b r (ht.of_eq (integrateTo_keeps b t).2.2.1))
  have up : ∀ (t : State) (b : Int), t.CountersBounded → (crossUp t b).CountersBounded := fun t b ht =>
    ht.of_eq (by simp)
  simp only [takeStep]
  split
  · exact .of_eq (integrateTo_keeps d _).2.2.1 (foldl_preserves _ _ down _ _ h)
  · exact .of_eq (integrateTo_keeps d _).2.2.1 (foldl_preserves _ _ up _ _ h)

theorem steerAtDepth_bounded {s : State} (h : s.CountersBounded) : (steerAtDepth s).CountersBounded := by
  have evaluated : ∀ b, (evaluate b s).CountersBounded := by
    intro b
    refine foldl_preserves State.CountersBounded _ (fun t p ht => ?_) _ _ (h.of_eq (by simp))
    simp only [handPlate]
    split
    · exact plateRequest_bounded _ _ _ ht
    · exact ht
  unfold steerAtDepth
  split
  · dsimp only
    split
    · exact evaluated _
    · exact h.of_eq (by simp)
  · exact h

theorem depthHandOff_bounded (d : Int) {s : State} (h : s.CountersBounded) : (depthHandOff d s).CountersBounded :=
  steerAtDepth_bounded (h.of_eq (by simp))

theorem depthEvent_bounded (d : Int) (r : Bool) {s : State} (h : s.CountersBounded) :
    (depthEvent d r s).CountersBounded := by
  have stepped : ∀ t : State, t.CountersBounded →
      (depthHandOff s.di.depth (updateRing d (markRecovery r (takeStep d r t)))).CountersBounded := fun t ht =>
    depthHandOff_bounded _ ((takeStep_bounded d r ht).of_eq (by simp))
  have anchored : ∀ t : State, t.CountersBounded →
      (depthHandOff s.di.depth (updateRing d (anchor d t))).CountersBounded := fun t ht =>
    depthHandOff_bounded _ (ht.of_eq (by simp))
  have emptied : (if r = true then emptyRing s else s).CountersBounded := h.of_eq (by split <;> simp)
  unfold depthEvent
  dsimp only
  generalize (if r = true then emptyRing s else s) = u at emptied ⊢
  split
  · exact emptied.of_eq (by simp)
  · split
    · exact emptied.of_eq (by simp)
    · split
      · exact stepped _ emptied
      · exact anchored _ emptied

theorem channelReport_bounded (c : Channel) {s : State} (h : s.CountersBounded) : (channelReport c s).CountersBounded := by
  cases c with
  | plate p =>
    simp only [channelReport]
    split
    · exact plateChannelLeft_bounded _ h
    · exact h
  | incl m a => exact h.of_eq (by simp [channelReport])
  | retDens => exact h
  | _ => exact h.of_eq (by simp only [channelReport]; split <;> simp)

theorem rejectDepth_bounded {s : State} (h : s.CountersBounded) : (rejectDepth s).CountersBounded := by
  have hc := State.count_bounded 5 h
  simp only [rejectDepth]
  split
  · exact hc.of_eq rfl
  · simp only [forceStale]
    split
    · exact .of_eq (sensorStaleWatch_keeps _).2.2.1
        (holdTest_bounded (channelReport_bounded .depth (hc.of_eq (by simp))))
    · exact hc.of_eq (by simp)

theorem depthArrival_bounded (v : Int) {s : State} (h : s.CountersBounded) : (depthArrival v s).CountersBounded := by
  have accepted : ∀ c r, (acceptDepth c v r s).CountersBounded := fun c r => depthEvent_bounded _ _ (h.of_eq rfl)
  simp only [depthArrival]
  split
  · exact rejectDepth_bounded h
  · split
    · exact accepted _ _
    · split
      · split
        · exact accepted _ _
        · exact h
      · split
        · exact rejectDepth_bounded h
        · exact accepted _ _

theorem passValue_bounded (c : Channel) (v : Int) {s : State} (h : s.CountersBounded) :
    (passValue c v s).CountersBounded := by
  cases c with
  | incl m a => exact holdTest_bounded (h.of_eq (by simp))
  | depth => exact depthArrival_bounded v h
  | plate p => exact plateArrival_bounded p h
  | retFlow => exact pumpedVolume_bounded v (h.of_eq (by simp))
  | _ => exact h.of_eq (by simp [passValue])

theorem arrival_bounded (c : Channel) (v : Int) {s : State} (h : s.CountersBounded) : (arrival c v s).CountersBounded := by
  simp only [arrival]
  split
  · exact passValue_bounded c v
      (.of_eq (sensorStaleWatch_keeps _).2.2.1 (holdTest_bounded (channelReport_bounded c (h.of_eq (by simp)))))
  · exact passValue_bounded c v (h.of_eq (by simp))

theorem windowEnd_bounded {s : State} (h : s.CountersBounded) : (windowEnd s).CountersBounded := by
  simp only [windowEnd]
  refine (holdTest_bounded ?_).of_eq (sensorStaleWatch_keeps _).2.2.1
  exact foldl_preserves State.CountersBounded _ (fun t c ht => channelReport_bounded c ht) _ _ (h.of_eq (by simp))

end Sys2Proof.Machine
end

section
/-! SUPPORT. The end of an event and the taking of a request as equations, one per case: what `event` and `takeRequest`
leave when the owner reports nothing, refuses, or answers nothing yet. -/

namespace Sys2Proof.Machine

/-! ### Events that report nothing -/

/-- An idle manifold that was idle at the event's begin, or a busy one, gives PM nothing to report (R143). -/
def State.NoReport (s : State) : Prop := s.reports = [] ∧ (s.plateBusy && !s.pm.busy) = false

theorem State.begin_noReport (now : RunTime) (s : State) : (s.begin now).NoReport := by
  simp [State.NoReport]

theorem State.NoReport.of_eq {s t : State} (h : s.NoReport) (hr : t.reports = s.reports) (hp : t.plateBusy = s.plateBusy)
    (hm : t.pm = s.pm) : t.NoReport := by
  unfold State.NoReport
  rw [hr, hp, hm]
  exact h

/-- With nothing to report, the end of an event leaves LI as it is (R14). -/
theorem finish_li {s : State} (h : s.NoReport) : (finish s).li = s.li := by
  simp [finish, takeReports_waiting s h.1 h.2]

/-- An event whose action changes LI alone, and reports nothing. -/
theorem event_lineBecomes {s : State} {now : RunTime} {f : State → State} {li : LineInterface}
    (h : f (s.begin now) = (s.begin now).putLi li) : s.LineBecomes (event now f s) now li := by
  unfold event
  rw [h]
  refine ⟨by simp, by simp, (finish_blocks _).trans rfl, ?_⟩
  exact finish_li ((State.begin_noReport now s).of_eq rfl rfl rfl)

/-- An event that finds nothing to do changes nothing but the run time (log entry 2). -/
theorem event_idle {s : State} {now : RunTime} {f : State → State} (h : f (s.begin now) = s.begin now) :
    s.LineBecomes (event now f s) now s.li :=
  event_lineBecomes h

/-! ### The taking of a request -/

/-- The state in which the owner acts, by its fields: those of the begun event, with the request gone from the queue. -/
@[simp] theorem State.taken_keeps (s : State) (now : RunTime) (rest : List Request) :
    (s.taken now rest).runTime = now ∧ (s.taken now rest).params = s.params ∧ (s.taken now rest).counters = s.counters ∧
    (s.taken now rest).mp = s.mp ∧ (s.taken now rest).fc = s.fc ∧ (s.taken now rest).di = s.di ∧
    (s.taken now rest).sl = s.sl ∧ (s.taken now rest).pm = s.pm ∧ (s.taken now rest).wd = s.wd ∧
    (s.taken now rest).sr = s.sr ∧ (s.taken now rest).tu = s.tu ∧ (s.taken now rest).sent = [] ∧
    (s.taken now rest).reports = [] ∧ (s.taken now rest).plateBusy = s.pm.busy ∧
    (s.taken now rest).pending = s.pending ∧ (s.taken now rest).li = { s.li with requestQueue := rest } :=
  ⟨rfl, rfl, rfl, rfl, rfl, rfl, rfl, rfl, rfl, rfl, rfl, rfl, rfl, rfl, rfl, rfl⟩

@[simp] theorem State.taken_blocks (s : State) (now : RunTime) (rest : List Request) :
    (s.taken now rest).blocks = s.blocks := rfl

theorem State.taken_noReport (s : State) (now : RunTime) (rest : List Request) : (s.taken now rest).NoReport := by
  simp [State.NoReport]

/-- The kind of an answer decides what follows the owner's act: its reply is placed, or nothing is (R8). -/
def answerPlaced (r : Request) (a : Answer) : State :=
  sendRecords (match a.2 with
    | some reply => handlerReply (singlePart r.kind r.tag reply) (takeReports a.1)
    | none => takeReports a.1)

/-- The oldest request of the kind with the body length of its kind is taken and answered by its owner (R5, R8). -/
theorem takeRequest_taken {s : State} {kind length : Nat} {now : RunTime} {owner : Request → State → Answer}
    {r : Request} {rest : List Request} (h : s.Takes kind length r rest) :
    takeRequest kind length now owner s = answerPlaced r (owner r (s.taken now rest)) := by
  obtain ⟨hidle, hq, hk, hb⟩ := h
  unfold takeRequest
  dsimp only
  split
  · rename_i r' rest' h1 h2
    have h2' : s.li.requestQueue = r' :: rest' := h2
    rw [hq] at h2'
    cases h2'
    rw [if_pos hk, if_pos hb]
    rfl
  · rename_i h
    exact absurd hq (h r rest hidle)

/-- The oldest request of the kind with another body length is answered BAD_LENGTH (R5). -/
theorem takeRequest_badLength {s : State} {kind length : Nat} {now : RunTime} {owner : Request → State → Answer}
    {r : Request} {rest : List Request} (hidle : s.li.handler = .idle) (hq : s.li.requestQueue = r :: rest)
    (hk : r.kind.toNat = kind) (hb : r.body.length ≠ length) :
    takeRequest kind length now owner s = answerPlaced r (refuse .badLength (s.taken now rest)) := by
  unfold takeRequest
  dsimp only
  split
  · rename_i r' rest' h1 h2
    have h2' : s.li.requestQueue = r' :: rest' := h2
    rw [hq] at h2'
    cases h2'
    rw [if_pos hk, if_neg hb]
    rfl
  · rename_i h
    exact absurd hq (h r rest hidle)

/-- With the handler occupied, the queue empty or an oldest request of another kind, nothing is taken (R8, log
entry 2). -/
theorem takeRequest_idle {s : State} {kind length : Nat} {now : RunTime} {owner : Request → State → Answer}
    (h : s.li.handler ≠ .idle ∨ s.li.requestQueue = [] ∨
      ∃ r rest, s.li.requestQueue = r :: rest ∧ r.kind.toNat ≠ kind) :
    takeRequest kind length now owner s = event now id s := by
  unfold takeRequest
  dsimp only
  split
  · rename_i r rest h1 h2
    have hidle : s.li.handler = .idle := h1
    have hq : s.li.requestQueue = r :: rest := h2
    rcases h with h | h | ⟨r', rest', h, hk⟩
    · exact absurd hidle h
    · simp [hq] at h
    · rw [hq] at h
      cases h
      rw [if_neg hk]
      rfl
  · rfl

/-- What a request can come to: it is not taken, it is refused BAD_LENGTH, or its owner answers it (R5, R8). -/
theorem takeRequest_cases (kind length : Nat) (now : RunTime) (owner : Request → State → Answer) (s : State) :
    takeRequest kind length now owner s = event now id s ∨
    ∃ r rest, s.li.handler = .idle ∧ s.li.requestQueue = r :: rest ∧
      (takeRequest kind length now owner s = answerPlaced r (refuse .badLength (s.taken now rest)) ∨
        s.Takes kind length r rest ∧
          takeRequest kind length now owner s = answerPlaced r (owner r (s.taken now rest))) := by
  by_cases hidle : s.li.handler = .idle
  · cases hq : s.li.requestQueue with
    | nil => exact .inl (takeRequest_idle (.inr (.inl hq)))
    | cons r rest =>
      by_cases hk : r.kind.toNat = kind
      · by_cases hb : r.body.length = length
        · exact .inr ⟨r, rest, hidle, rfl, .inr ⟨⟨hidle, hq, hk, hb⟩, takeRequest_taken ⟨hidle, hq, hk, hb⟩⟩⟩
        · exact .inr ⟨r, rest, hidle, rfl, .inl (takeRequest_badLength hidle hq hk hb)⟩
      · exact .inl (takeRequest_idle (.inr (.inr ⟨r, rest, hq, hk⟩)))
  · exact .inl (takeRequest_idle (.inl hidle))

/-- The command of an unknown kind takes the oldest request exactly if its kind names no request (R5). -/
theorem takeUnknown_cases (now : RunTime) (s : State) :
    takeUnknown now s = event now id s ∨
    ∃ r rest, s.li.handler = .idle ∧ s.li.requestQueue = r :: rest ∧ knownKind r.kind.toNat = false ∧
      takeUnknown now s = answerPlaced r (refuse .unknownKind (s.taken now rest)) := by
  unfold takeUnknown
  dsimp only
  split
  · rename_i r rest h1 h2
    split
    · exact .inl rfl
    · rename_i hk
      exact .inr ⟨r, rest, h1, h2, by simpa using hk, rfl⟩
  · exact .inl rfl

/-- A request that its owner answers: as `takeRequest_replied`, of the placed answer itself (R8). -/
theorem answerPlaced_replied {s u : State} {now : RunTime} {r : Request} {rest : List Request} {reply : Reply}
    (hidle : s.li.handler = .idle) (hq : s.li.requestQueue = r :: rest) (hi : u.runTime = now ∧ u.pending = s.pending)
    (hl : (s.taken now rest).LineOnly { s.taken now rest with li := u.li }) :
    s.Replied (answerPlaced r (u, some reply)) now r rest reply.result reply.data ∧
      (answerPlaced r (u, some reply)).blocks = u.blocks ∧
      (u.NoReport → (answerPlaced r (u, some reply)).waiting = u.waiting ∧
        (answerPlaced r (u, some reply)).li.nextSeq = u.li.nextSeq) := by
  have ht : s.Takes r.kind.toNat r.body.length r rest := ⟨hidle, hq, rfl, rfl⟩
  have placed := takeRequest_taken (now := now) (owner := fun _ _ => (u, some reply)) ht
  obtain ⟨replied, blocks, -, waits⟩ := takeRequest_replied (now := now) (owner := fun _ _ => (u, some reply)) ht rfl hi hl
  rw [placed] at replied blocks waits
  exact ⟨replied, blocks, fun h => waits h.1 h.2⟩

/-- A request whose owner changes and reports nothing but a reply (R4, R6, R8). -/
theorem answerPlaced_only {s : State} {now : RunTime} {r : Request} {rest : List Request} (reply : Reply)
    (hidle : s.li.handler = .idle) (hq : s.li.requestQueue = r :: rest) :
    s.RepliedOnly (answerPlaced r (s.taken now rest, some reply)) now r rest reply.result reply.data ∧
      (answerPlaced r (s.taken now rest, some reply)).blocks = s.blocks := by
  obtain ⟨replied, blocks, waits⟩ := answerPlaced_replied (u := s.taken now rest) (reply := reply) hidle hq ⟨rfl, rfl⟩
    (.refl _)
  obtain ⟨waiting, seq⟩ := waits (State.taken_noReport s now rest)
  exact ⟨⟨replied, waiting, seq⟩, blocks⟩

end Sys2Proof.Machine
end

section
/-! SUPPORT. What every operation does to the tables with a bounded form (O54): one relation between the state before and
after, reflexive and transitive, for the operations of LI, the owners of the requests and every event. -/

namespace Sys2Proof.Machine

/-- `t` has every bounded table in form that `s` has in form, and its transit line is that of `s` or is empty. -/
structure State.KeepsTables (s t : State) : Prop where
  params : s.ParamsInRange → t.ParamsInRange
  counters : s.CountersBounded → t.CountersBounded
  requests : s.li.requestQueue.length ≤ Config.requestQueueSize → t.li.requestQueue.length ≤ Config.requestQueueSize
  replies : s.li.replyQueue.length ≤ Config.replyQueueSize → t.li.replyQueue.length ≤ Config.replyQueueSize
  waits : s.li.waits.length ≤ Config.waitTableSize → t.li.waits.length ≤ Config.waitTableSize
  tags : s.TagsDistinct → t.TagsDistinct
  plans : s.PlansWf → t.PlansWf
  vPump : t.sr.vPump = s.sr.vPump
  residue : t.sr.flowResidue = s.sr.flowResidue
  line : t.sr.line = s.sr.line ∨ t.sr.line = []

namespace State.KeepsTables

theorem refl (s : State) : s.KeepsTables s :=
  ⟨id, id, id, id, id, id, id, rfl, rfl, .inl rfl⟩

theorem trans {s t u : State} (h : s.KeepsTables t) (k : t.KeepsTables u) : s.KeepsTables u where
  params := k.params ∘ h.params
  counters := k.counters ∘ h.counters
  requests := k.requests ∘ h.requests
  replies := k.replies ∘ h.replies
  waits := k.waits ∘ h.waits
  tags := k.tags ∘ h.tags
  plans := k.plans ∘ h.plans
  vPump := k.vPump.trans h.vPump
  residue := k.residue.trans h.residue
  line := by
    rcases k.line with e | e
    · rw [e]
      exact h.line
    · exact .inr e

/-- As `trans`, for operations written outermost first. -/
theorem after {s t u : State} (k : t.KeepsTables u) (h : s.KeepsTables t) : s.KeepsTables u := h.trans k

/-- An operation outside LI and the plans, which keeps the parameters and the line. -/
theorem of_frame {s t : State} (params : t.params = s.params) (li : t.li = s.li)
    (plan : t.sl.plan = s.sl.plan ∧ t.sl.load = s.sl.load)
    (line : t.sr.line = s.sr.line ∧ t.sr.vPump = s.sr.vPump ∧ t.sr.flowResidue = s.sr.flowResidue)
    (counters : s.CountersBounded → t.CountersBounded) : s.KeepsTables t where
  params := by unfold State.ParamsInRange State.par; rw [params]; exact id
  counters := counters
  requests := by rw [li]; exact id
  replies := by rw [li]; exact id
  waits := by rw [li]; exact id
  tags := by unfold State.TagsDistinct; rw [li]; exact id
  plans := by unfold State.PlansWf; rw [plan.1, plan.2]; exact id
  vPump := line.2.1
  residue := line.2.2
  line := .inl line.1

/-- As `of_frame`, of an operation that leaves the counter set as it is. -/
theorem of_steady {s t : State} (params : t.params = s.params) (li : t.li = s.li)
    (plan : t.sl.plan = s.sl.plan ∧ t.sl.load = s.sl.load)
    (line : t.sr.line = s.sr.line ∧ t.sr.vPump = s.sr.vPump ∧ t.sr.flowResidue = s.sr.flowResidue)
    (counters : t.counters = s.counters) : s.KeepsTables t :=
  of_frame params li plan line (State.CountersBounded.of_eq counters)

/-- As `of_frame`, of an operation that empties the line. -/
theorem of_emptied {s t : State} (params : t.params = s.params) (li : t.li = s.li)
    (plan : t.sl.plan = s.sl.plan ∧ t.sl.load = s.sl.load)
    (volume : t.sr.vPump = s.sr.vPump ∧ t.sr.flowResidue = s.sr.flowResidue) (line : t.sr.line = [])
    (counters : s.CountersBounded → t.CountersBounded) : s.KeepsTables t :=
  { of_frame (s := s) (t := { t with sr := { t.sr with line := s.sr.line } }) params li plan ⟨rfl, volume⟩ counters with
    line := .inr line }

/-- An operation that changes LI alone. -/
theorem of_li {s : State} (li : LineInterface)
    (requests : s.li.requestQueue.length ≤ Config.requestQueueSize → li.requestQueue.length ≤ Config.requestQueueSize)
    (replies : s.li.replyQueue.length ≤ Config.replyQueueSize → li.replyQueue.length ≤ Config.replyQueueSize)
    (waits : li.waits.Sublist s.li.waits) : s.KeepsTables (s.putLi li) where
  params := id
  counters := id
  requests := requests
  replies := replies
  waits := Nat.le_trans waits.length_le
  tags := (waits.map WaitEntry.tag).nodup
  plans := id
  vPump := rfl
  residue := rfl
  line := .inl rfl

/-- An operation that changes neither queue nor wait table of LI. -/
theorem of_sameQueues {s : State} (li : LineInterface) (requests : li.requestQueue = s.li.requestQueue)
    (replies : li.replyQueue = s.li.replyQueue) (waits : li.waits = s.li.waits) : s.KeepsTables (s.putLi li) :=
  of_li li (by rw [requests]; exact id) (by rw [replies]; exact id) (by rw [waits])

end State.KeepsTables

open State.KeepsTables

/-- A count keeps the tables. -/
theorem State.count_keepsTables (n : Nat) (s : State) : s.KeepsTables (s.count n) :=
  of_frame (by simp) (by simp) (by simp) (by simp) (State.count_bounded n)

/-! ### Slots and waits -/

/-- The entries left when the first held one has been taken. -/
theorem takeHeld_sublist : ∀ (l : List WaitEntry) (p : ReplyPart) (rest : List WaitEntry),
    takeHeld l = some (p, rest) → rest.Sublist l := by
  intro l
  induction l with
  | nil => simp [takeHeld]
  | cons e l ih =>
    intro p rest h
    unfold takeHeld at h
    split at h
    · simp only [Option.some.injEq, Prod.mk.injEq] at h
      rw [← h.2]
      exact List.sublist_cons_self _ _
    · cases hl : takeHeld l with
      | none => simp [hl] at h
      | some q =>
        simp only [hl, Option.some.injEq, Prod.mk.injEq] at h
        rw [← h.2]
        exact (ih _ _ hl).cons_cons e

/-- A part placed in a free slot, with the table or the handler changed by its placing. -/
theorem placed_keepsTables (p : ReplyPart) {s : State} (free : s.slotFree = true) (h : Handler) {l : List WaitEntry}
    (hl : l.Sublist s.li.waits) :
    s.KeepsTables (s.putLi { s.li with waits := l, handler := h, replyQueue := s.li.replyQueue ++ [p] }) := by
  refine of_li _ id (fun _ => ?_) hl
  have : s.li.replyQueue.length < Config.replyQueueSize := by simpa [State.slotFree] using free
  simpa using this

theorem grantSlot_keepsTables (s : State) : s.KeepsTables (grantSlot s) := by
  unfold grantSlot
  split
  · rename_i free
    split
    · rename_i p rest h
      exact placed_keepsTables p free s.li.handler (takeHeld_sublist _ _ _ h)
    · split
      · rename_i p h _
        exact placed_keepsTables p free h (.refl _)
      · exact .refl s
  · exact .refl s

theorem grantSlots_keepsTables (s : State) : s.KeepsTables (grantSlots s) := by
  unfold grantSlots
  iterate 8 refine State.KeepsTables.trans ?_ (grantSlot_keepsTables _)
  exact grantSlot_keepsTables s

/-- A new state of the handler keeps the tables. -/
theorem putHandler_keepsTables (h : Handler) (s : State) : s.KeepsTables (s.putLi { s.li with handler := h }) :=
  of_sameQueues _ rfl rfl rfl

theorem handlerReply_keepsTables (p : ReplyPart) (s : State) : s.KeepsTables (handlerReply p s) := by
  refine (grantSlots_keepsTables s).trans ?_
  unfold handlerReply
  generalize grantSlots s = g
  dsimp only
  split
  · rename_i free
    exact placed_keepsTables p free g.li.handler (.refl _)
  · exact putHandler_keepsTables _ g

theorem WaitEntry.endBy_tag (f : WaitEntry → Option Reply) (e : WaitEntry) : (e.endBy f).tag = e.tag := by
  unfold WaitEntry.endBy
  split
  · rfl
  · split <;> rfl

theorem endWaits_keepsTables (f : WaitEntry → Option Reply) (s : State) : s.KeepsTables (endWaits f s) := by
  have mapped : ∀ u : State, u.KeepsTables (u.putLi { u.li with waits := u.li.waits.map (WaitEntry.endBy f) }) := fun u =>
    { refl u with
      waits := by simp
      tags := by
        intro h
        have tags : (u.li.waits.map (WaitEntry.endBy f)).map WaitEntry.tag = u.li.waits.map WaitEntry.tag := by
          simp [WaitEntry.endBy_tag]
        exact (congrArg List.Nodup tags).mpr h }
  exact ((grantSlots_keepsTables s).trans (mapped _)).trans (grantSlots_keepsTables _)

theorem cancelWaits_keepsTables (s : State) : s.KeepsTables (cancelWaits s) := by
  unfold cancelWaits
  exact endWaits_keepsTables _ s

theorem takeReports_keepsTables (s : State) : s.KeepsTables (takeReports s) := by
  have scratch : ∀ (u : State) (l : List Report) (b : Bool), u.KeepsTables { u with reports := l, plateBusy := b } :=
    fun u l b => of_steady rfl rfl ⟨rfl, rfl⟩ ⟨rfl, rfl, rfl⟩ rfl
  have idle : s.KeepsTables (idleReport s) := by
    unfold idleReport
    split
    · exact scratch s _ _
    · exact refl s
  unfold takeReports
  dsimp only
  refine (idle.trans ?_).trans (scratch _ _ _)
  split
  · exact refl _
  · exact endWaits_keepsTables _ _

/-! ### The end of an event, and the taking of a request -/

theorem State.begin_keepsTables (now : RunTime) (s : State) : s.KeepsTables (s.begin now) :=
  of_steady rfl rfl ⟨rfl, rfl⟩ ⟨rfl, rfl, rfl⟩ rfl

theorem sendRecords_keepsTables (s : State) : s.KeepsTables (sendRecords s) := by
  refine of_steady (by simp) (by simp) (by simp) ?_ (by simp)
  have := congrArg Blocks.sr (sendRecords_blocks s)
  have hs := congrArg (fun r : Slurry => (r.line, r.vPump, r.flowResidue)) this
  simpa [State.blocks, Slurry.unsent] using hs

theorem finish_keepsTables (s : State) : s.KeepsTables (finish s) :=
  (takeReports_keepsTables s).trans (sendRecords_keepsTables _)

theorem event_keepsTables {f : State → State} {now : RunTime} {s : State}
    (h : (s.begin now).KeepsTables (f (s.begin now))) : s.KeepsTables (event now f s) :=
  ((State.begin_keepsTables now s).trans h).trans (finish_keepsTables _)

theorem answerPlaced_keepsTables (r : Request) (a : Answer) : a.1.KeepsTables (answerPlaced r a) := by
  unfold answerPlaced
  cases a.2 with
  | some reply =>
    exact ((takeReports_keepsTables _).trans (handlerReply_keepsTables _ _)).trans (sendRecords_keepsTables _)
  | none => exact (takeReports_keepsTables _).trans (sendRecords_keepsTables _)

theorem State.taken_keepsTables {s : State} (now : RunTime) {r : Request} {rest : List Request}
    (hq : s.li.requestQueue = r :: rest) : s.KeepsTables (s.taken now rest) := by
  refine (State.begin_keepsTables now s).trans (of_li _ ?_ id (.refl _))
  simp only [State.begin_keeps, hq]
  exact Nat.le_trans (Nat.le_succ _)

/-- A request keeps the tables if its owner does. -/
theorem takeRequest_keepsTables {kind length : Nat} {now : RunTime} {owner : Request → State → Answer}
    (h : ∀ (r : Request) (u : State), r.body.length = length → u.KeepsTables (owner r u).1) (s : State) :
    s.KeepsTables (takeRequest kind length now owner s) := by
  rcases takeRequest_cases kind length now owner s with e | ⟨r, rest, hidle, hq, e | ⟨⟨-, -, -, hb⟩, e⟩⟩
  · rw [e]
    exact event_keepsTables (refl _)
  · rw [e]
    exact (State.taken_keepsTables now hq).trans (answerPlaced_keepsTables r (refuse .badLength (s.taken now rest)))
  · rw [e]
    exact ((State.taken_keepsTables now hq).trans (h r _ hb)).trans (answerPlaced_keepsTables r _)

theorem takeUnknown_keepsTables (now : RunTime) (s : State) : s.KeepsTables (takeUnknown now s) := by
  rcases takeUnknown_cases now s with e | ⟨r, rest, hidle, hq, hk, e⟩
  · rw [e]
    exact event_keepsTables (refl _)
  · rw [e]
    exact (State.taken_keepsTables now hq).trans (answerPlaced_keepsTables r (refuse .unknownKind (s.taken now rest)))

end Sys2Proof.Machine
end

section
/-! SUPPORT. Every command but the return-line samples, power-on and restart keeps the tables and adds nothing to the
transit line. -/

namespace Sys2Proof.Machine

open State.KeepsTables

/-! ### The operator line -/

theorem condition_keepsTables (i : Source) (b : Bool) (s : State) : s.KeepsTables (condition i b s) :=
  of_steady (by simp) (by simp) (by simp) (by simp) (by simp)

theorem holdTest_keepsTables (s : State) : s.KeepsTables (holdTest s) :=
  of_frame (by simp) (by simp) (by simp) (by simp) holdTest_bounded

theorem setLinkCause_keepsTables (b : Bool) (s : State) : s.KeepsTables (setLinkCause b s) :=
  of_steady rfl rfl ⟨rfl, rfl⟩ ⟨rfl, rfl, rfl⟩ rfl

theorem linkSilent_keepsTables (s : State) : s.KeepsTables (linkSilent s) :=
  after (holdTest_keepsTables _) (after (setLinkCause_keepsTables _ _) (after (condition_keepsTables _ _ _)
    (of_sameQueues _ rfl rfl rfl)))

theorem linkHeard_keepsTables (s : State) : s.KeepsTables (linkHeard s) := by
  have restarted := of_sameQueues (s := s) { s.li with linkTimer := some (s.timer (s.par .linkSilenceTime)) } rfl rfl rfl
  unfold linkHeard
  dsimp only
  split
  · exact after (holdTest_keepsTables _) (after (setLinkCause_keepsTables _ _) (after (condition_keepsTables _ _ _)
      restarted))
  · exact restarted

theorem admitRequest_keepsTables (r : Request) (s : State) : s.KeepsTables (admitRequest r s) := by
  unfold admitRequest
  split
  · refine of_li _ (fun _ => ?_) id (.refl _)
    simpa
  · split
    · exact after (State.count_keepsTables 3 _) (of_sameQueues _ rfl rfl rfl)
    · exact State.count_keepsTables 2 s

theorem discardFrame_keepsTables (s : State) : s.KeepsTables (discardFrame s) :=
  after (State.count_keepsTables 1 _) (of_sameQueues _ rfl rfl rfl)

theorem receiveByte_keepsTables (s : State) (b : Byte) : s.KeepsTables (receiveByte s b) := by
  unfold receiveByte
  split
  · split
    · exact of_sameQueues _ rfl rfl rfl
    · exact refl s
  · split
    · exact discardFrame_keepsTables s
    · dsimp only
      split
      · unfold frameComplete
        split
        · exact after (admitRequest_keepsTables _ _) (after (linkHeard_keepsTables _) (of_sameQueues _ rfl rfl rfl))
        · exact discardFrame_keepsTables s
      · exact of_sameQueues _ rfl rfl rfl

theorem receiveBytes_keepsTables (bytes : List Byte) (s : State) : s.KeepsTables (bytes.foldl receiveByte s) :=
  foldl_preserves s.KeepsTables _ (fun t b h => h.trans (receiveByte_keepsTables t b)) bytes s (refl s)

theorem startFrame_keepsTables (s : State) : s.KeepsTables (startFrame s) := by
  unfold startFrame
  split
  · exact refl s
  · exact refl s
  · split
    · exact of_sameQueues _ rfl rfl rfl
    · exact of_sameQueues _ rfl rfl rfl
    · exact refl s

theorem completeFrame_keepsTables (s : State) : s.KeepsTables (completeFrame s) := by
  unfold completeFrame
  split
  · exact refl s
  · exact of_sameQueues _ rfl rfl rfl
  · split
    · rename_i hq
      refine of_li _ id ?_ (.refl _)
      rw [hq]
      exact Nat.le_trans (Nat.le_succ _)
    · exact of_sameQueues _ rfl rfl rfl

theorem streamPart_keepsTables (st : Stream) (s : State) : s.KeepsTables (streamPart st s) := by
  unfold streamPart
  exact after (grantSlots_keepsTables _) (after (putHandler_keepsTables _ _) (grantSlots_keepsTables s))

theorem nextPart_keepsTables (s : State) : s.KeepsTables (nextPart s) := by
  unfold nextPart
  split
  · split
    · exact streamPart_keepsTables _ s
    · exact refl s
  all_goals exact refl s

/-! ### The field side and the timers -/

/-- The plan load goes without a trace but for a count (R113). -/
theorem dropLoad_keepsTables (s : State) : s.KeepsTables (setLoad none s) :=
  { refl s with
    plans := fun h => ⟨h.1, by simp⟩ }

theorem startBackflush_keepsTables (s : State) : s.KeepsTables (startBackflush s) :=
  of_emptied (by simp) (by simp) (by simp) (by simp [startBackflush, emptyLine]) (by simp [startBackflush, emptyLine])
    startBackflush_bounded

theorem blockagePresent_keepsTables (s : State) : s.KeepsTables (blockagePresent s) := by
  have present : s.KeepsTables (condition Source.returnBlocked true
      { s with sr := { s.sr with blockTimer := none, returnBlocked := true } }) :=
    after (condition_keepsTables _ _ _) (of_steady rfl rfl ⟨rfl, rfl⟩ ⟨rfl, rfl, rfl⟩ rfl)
  simp only [blockagePresent]
  split
  · exact present.trans (startBackflush_keepsTables _)
  · exact present

theorem failMove_keepsTables (p : Plate) (s : State) : s.KeepsTables (failMove p s) :=
  of_frame (by simp) (by simp) (by simp) (by simp) (failMove_bounded p)

theorem endStart_keepsTables (s : State) : s.KeepsTables (endStart s) :=
  of_steady (by simp) (by simp) (by simp) (by simp) (by simp)

theorem announceWheel_keepsTables (w : WheelId) (s : State) : s.KeepsTables (announceWheel w s) :=
  of_steady (by simp) (by simp) (by simp) (by simp) (by simp)

theorem pauseEnd_keepsTables (w : WheelId) (s : State) : s.KeepsTables (pauseEnd w s) := by
  unfold pauseEnd
  split
  · exact after (announceWheel_keepsTables w _)
      (of_frame (by simp) (by simp) (by simp) (by simp) (reverseEntry_bounded w))
  · exact after (condition_keepsTables _ _ _) (after (announceWheel_keepsTables w _)
      (of_steady (by simp) (by simp) (by simp) (by simp) (by simp)))

/-- An arrival on a channel that is not one of the return line (R48). -/
theorem arrival_keepsTables (c : Channel) (v : Int) (hf : c ≠ .retFlow) (hd : c ≠ .retDens) (s : State) :
    s.KeepsTables (arrival c v s) := by
  have passed : ∀ u : State, (passValue c v u).sr.line = u.sr.line ∧ (passValue c v u).sr.vPump = u.sr.vPump ∧
      (passValue c v u).sr.flowResidue = u.sr.flowResidue := by
    intro u
    cases c with
    | retFlow => exact absurd rfl hf
    | retDens => exact absurd rfl hd
    | _ => simp [passValue]
  refine of_frame (by simp) (by simp) (by simp) ?_ (arrival_bounded c v)
  unfold arrival
  dsimp only
  split <;> simp [passed]

/-- A sample that is no arrival of the return line (R47). -/
theorem sample_keepsTables (n : Nat) (v : Int)
    (h : ∀ c, Channel.ofNumber n = some c → c ≠ .retFlow ∧ c ≠ .retDens) (s : State) : s.KeepsTables (sample n v s) := by
  unfold sample
  split
  · rename_i c hc
    split
    · exact (arrival_keepsTables c v (h c hc).1 (h c hc).2 s).trans
        (of_steady (by simp) (by simp) (by simp) (by simp) (by simp) : State.KeepsTables _ (startTest _))
    · exact State.count_keepsTables 6 s
  · exact State.count_keepsTables 6 s

/-! ### The owners of the requests -/

theorem wheelSetTests_keepsTables (w : WheelId) (d : Direction) (v : Int) (s : State) :
    s.KeepsTables (wheelSetTests w d v s).1 := by
  unfold wheelSetTests
  split
  · exact refl s
  · split
    · exact refl s
    · split
      · exact refl s
      · exact of_steady (by simp [doneStored]) (by simp [doneStored]) (by simp [doneStored]) (by simp [doneStored])
          (by simp [doneStored])

theorem ownWheelSet_keepsTables (r : Request) (s : State) : s.KeepsTables (ownWheelSet r s).1 := by
  unfold ownWheelSet
  split
  · exact wheelSetTests_keepsTables _ _ _ s
  · exact refl s

theorem ownWheelClear_keepsTables (r : Request) (s : State) : s.KeepsTables (ownWheelClear r s).1 := by
  unfold ownWheelClear
  split
  · exact refl s
  · dsimp only [done]
    split
    · exact after (condition_keepsTables _ _ _) (of_steady (by simp) (by simp) (by simp) (by simp) (by simp))
    · exact refl s

theorem ownPumpSet_keepsTables (r : Request) (s : State) : s.KeepsTables (ownPumpSet r s).1 := by
  unfold ownPumpSet
  split
  · exact refl s
  · split
    · exact refl s
    · exact of_steady (by simp [doneStored]) (by simp [doneStored]) (by simp [doneStored]) (by simp [doneStored])
        (by simp [doneStored])

theorem ownBackflush_keepsTables (r : Request) (s : State) : s.KeepsTables (ownBackflush r s).1 := by
  unfold ownBackflush
  split
  · exact refl s
  · split
    · exact startBackflush_keepsTables s
    · exact refl s

theorem plateMoveTests_keepsTables (p : Plate) (n : Nat) (s : State) : s.KeepsTables (plateMoveTests p n s).1 := by
  unfold plateMoveTests
  split
  · exact refl s
  · split
    · exact refl s
    · split
      · exact refl s
      · exact of_frame (by simp [doneStored]) (by simp [doneStored]) (by simp [doneStored]) (by simp [doneStored])
          (plateRequest_bounded p _ _)

theorem ownPlateMove_keepsTables (r : Request) (s : State) : s.KeepsTables (ownPlateMove r s).1 := by
  unfold ownPlateMove
  split
  · exact refl s
  · exact plateMoveTests_keepsTables _ _ s

theorem ownPlateClear_keepsTables (r : Request) (s : State) : s.KeepsTables (ownPlateClear r s).1 := by
  unfold ownPlateClear
  split
  · exact refl s
  · exact of_steady rfl rfl ⟨rfl, rfl⟩ ⟨rfl, rfl, rfl⟩ rfl

theorem ownModeSet_keepsTables (r : Request) (s : State) : s.KeepsTables (ownModeSet r s).1 := by
  have changed : ∀ m, s.KeepsTables (changeMode m s) := fun m =>
    of_steady (by simp) (by simp) (by simp) (by simp) (by simp)
  have held : s.KeepsTables (changeMode .hold (s.count 17)) :=
    (State.count_keepsTables 17 s).trans (of_steady (by simp) (by simp) (by simp) (by simp) (by simp))
  unfold ownModeSet
  split
  · exact refl s
  · unfold modeSet
    split
    · exact refl s
    · split
      · exact refl s
      · split
        · exact refl s
        · split
          · split
            · exact changed _
            · exact refl s
          · split
            · dsimp only [done]
              split
              · exact held
              · exact changed _
            · exact refl s
          all_goals exact changed _

/-- PANEL_OPEN empties counter 7 and counts the parcels that go (R40, R197). -/
theorem openPanel_counters (n : Nat) (a i : Int) (s : State) :
    (openPanel n a i s).counters = ((s.zeroCounter 7).addCounter 9 s.sr.line.length).counters := by
  simp [openPanel, resetOpenAtDepth, emptyLine, State.addCounter, State.zeroCounter]

theorem openPanel_keepsTables (n : Nat) (a i : Int) (s : State) : s.KeepsTables (openPanel n a i s) :=
  of_emptied (by simp [openPanel, resetOpenAtDepth]) (by simp [openPanel, resetOpenAtDepth])
    (by simp [openPanel, resetOpenAtDepth]) (by simp [openPanel, resetOpenAtDepth, emptyLine])
    (by simp [openPanel, resetOpenAtDepth, emptyLine])
    (fun h => .of_eq (openPanel_counters n a i s) (State.addCounter_bounded _ _ (State.zeroCounter_bounded _ h)))

theorem ownPanelOpen_keepsTables (r : Request) (s : State) : s.KeepsTables (ownPanelOpen r s).1 := by
  unfold ownPanelOpen
  split
  · exact refl s
  · dsimp only [doneStored]
    exact openPanel_keepsTables _ _ _ s

theorem emptyLine_keepsTables (s : State) : s.KeepsTables (emptyLine s) :=
  of_emptied (by simp) (by simp) (by simp) (by simp [emptyLine]) (by simp [emptyLine]) emptyLine_bounded

theorem closePanel_keepsTables (s : State) : s.KeepsTables (closePanel s) := by
  have closed : ∀ u : State, u.KeepsTables { u with
      sr := { u.sr with cutter := none }, mp := { u.mp with panel := .closed } } := fun u =>
    of_steady rfl rfl ⟨rfl, rfl⟩ ⟨rfl, rfl, rfl⟩ rfl
  have emptied : s.KeepsTables (emptyLine (setOpen none (cancelWaits s))) :=
    after (emptyLine_keepsTables _) (after (of_steady (by simp) (by simp) (by simp) (by simp) (by simp))
      (cancelWaits_keepsTables s))
  unfold closePanel
  dsimp only
  generalize emptyLine (setOpen none (cancelWaits s)) = u at emptied ⊢
  split
  case h_4 | h_5 => exact after (closed u) emptied
  all_goals exact after (of_steady (by simp) (by simp) (by simp) (by simp) (by simp)) (after (closed u) emptied)

theorem ownPanelClose_keepsTables (r : Request) (s : State) : s.KeepsTables (ownPanelClose r s).1 := by
  unfold ownPanelClose
  split
  · dsimp only [done]
    exact closePanel_keepsTables s
  · exact refl s

theorem ownDepthZero_keepsTables (r : Request) (s : State) : s.KeepsTables (ownDepthZero r s).1 := by
  have zeroed : ∀ d oX oY raw, s.KeepsTables (zeroDepth d oX oY raw s) := fun d oX oY raw => by
    refine of_steady ?_ ?_ ?_ ?_ ?_ <;> simp [zeroDepth, resetOpenAtDepth]
  unfold ownDepthZero
  dsimp only
  split
  · exact refl s
  · split
    · split
      · exact zeroed _ _ _ _
      · exact refl s
    · exact refl s

theorem ownLogRead_keepsTables (r : Request) (s : State) : s.KeepsTables (ownLogRead r s).1 := by
  unfold ownLogRead
  dsimp only
  split
  · exact refl s
  · dsimp only [noReply]
    exact streamPart_keepsTables _ s

theorem ownAwait_keepsTables (r : Request) (s : State) : s.KeepsTables (ownAwait r s).1 := by
  have posted : ∀ c arg timeout, ¬(s.li.waits.any fun e => e.tag == r.tag) = true →
      ¬Config.waitTableSize ≤ s.li.waits.length → s.KeepsTables (postWait r.tag c arg timeout s) := by
    intro c arg timeout fresh room
    refine { refl s with waits := fun _ => ?_, tags := fun h => ?_ }
    · simpa [postWait] using Nat.lt_of_not_le room
    · have other : ∀ e ∈ s.li.waits, e.tag ≠ r.tag := by simpa using fresh
      simp only [State.TagsDistinct, postWait, State.putLi_keeps, List.map_append, List.map_cons, List.map_nil]
      refine List.nodup_append.mpr ⟨h, by simp, ?_⟩
      intro t ht u hu
      obtain ⟨e, he, rfl⟩ := List.mem_map.mp ht
      rw [List.mem_singleton.mp hu]
      exact other e he
  unfold ownAwait
  split
  · exact refl s
  · unfold postTests
    split
    · exact refl s
    · split
      · exact refl s
      · split
        · exact refl s
        · rename_i fresh
          split
          · exact refl s
          · split
            · exact refl s
            · rename_i room
              exact posted _ _ _ fresh room

theorem ownAwaitCancel_keepsTables (r : Request) (s : State) : s.KeepsTables (ownAwaitCancel r s).1 := by
  unfold ownAwaitCancel
  dsimp only
  split
  · dsimp only [done]
    exact endWaits_keepsTables _ s
  · exact refl s

theorem ownCountersRead_keepsTables (r : Request) (s : State) : s.KeepsTables (ownCountersRead r s).1 :=
  { refl s with counters := fun _ i => by simp [ownCountersRead, doneWith, Vector.get_eq_getElem] }

theorem ownRestart_keepsTables (r : Request) (s : State) : s.KeepsTables (ownRestart r s).1 := by
  unfold ownRestart
  split
  · exact refl s
  · dsimp only [noReply]
    exact after (grantSlots_keepsTables _) (after (putHandler_keepsTables _ _) (cancelWaits_keepsTables s))

theorem ownTripClear_keepsTables (r : Request) (s : State) : s.KeepsTables (ownTripClear r s).1 := by
  unfold ownTripClear
  split
  · exact refl s
  · unfold tripClear
    split
    · exact of_steady (by simp [done]) (by simp [done]) (by simp [done]) (by simp [done]) (by simp [done])
    all_goals exact refl s

theorem ownTripForce_keepsTables (r : Request) (s : State) : s.KeepsTables (ownTripForce r s).1 := by
  unfold ownTripForce
  split
  · exact refl s
  · exact of_steady (by simp [done]) (by simp [done]) (by simp [done]) (by simp [done]) (by simp [done])

theorem ownTripMapSet_keepsTables (r : Request) (s : State) : s.KeepsTables (ownTripMapSet r s).1 := by
  unfold ownTripMapSet
  split
  · exact refl s
  · split
    · unfold tripMapSet
      split
      · exact refl s
      · split
        · exact refl s
        · exact of_steady (by simp [done]) (by simp [done]) (by simp [done]) (by simp [done]) (by simp [done])
    · exact refl s

end Sys2Proof.Machine
end

section
/-! SUPPORT. The requests that write the bounded tables themselves: PARAM_SET and the plan load. -/

namespace Sys2Proof.Machine

open State.KeepsTables

/-! ### Parameters (R20, R21, R179) -/

theorem ParamId.lo_le_hi (p : ParamId) : p.lo ≤ p.hi := by
  cases p <;> decide

theorem clamp_mem {lo hi : Int} (h : lo ≤ hi) (v : Int) : lo ≤ clamp lo hi v ∧ clamp lo hi v ≤ hi := by
  unfold clamp
  split
  · exact ⟨Int.le_refl _, h⟩
  · split <;> omega

/-- Any parameter after one has been stored. -/
theorem State.par_setPar (s : State) (p q : ParamId) (v : Int) :
    (s.setPar p v).par q = if p = q then v else s.par q := by
  split
  · rename_i h
    rw [← h, State.par_setPar_same]
  · rename_i h
    exact State.par_setPar_other s p q v h

/-- The value that PARAM_SET stores lies in its parameter's range (R21, R179). -/
theorem State.storedValue_mem {s : State} (h : s.ParamsInRange) (p : ParamId) (sent : Int) :
    p.lo ≤ s.storedValue p sent ∧ s.storedValue p sent ≤ p.hi := by
  have range := clamp_mem p.lo_le_hi sent
  have soft := h.1 .softLimit
  have hard := h.1 .hardLimit
  simp only [ParamId.lo, ParamId.hi] at soft hard
  cases p with
  | softLimit =>
    simp only [State.storedValue, ParamId.lo, ParamId.hi] at range ⊢
    omega
  | hardLimit =>
    simp only [State.storedValue, ParamId.lo, ParamId.hi] at range ⊢
    omega
  | _ => exact range

/-- Storing what PARAM_SET stores keeps the parameters in range (R21, R179). -/
theorem State.setPar_inRange {s : State} (h : s.ParamsInRange) (p : ParamId) (sent : Int) :
    (s.setPar p (s.storedValue p sent)).ParamsInRange := by
  obtain ⟨range, tied⟩ := h
  refine ⟨fun q => ?_, ?_⟩
  · rw [State.par_setPar]
    split
    · rename_i e
      exact e ▸ State.storedValue_mem ⟨range, tied⟩ p sent
    · exact range q
  · rw [State.par_setPar, State.par_setPar]
    split
    · rename_i e
      subst e
      simp [State.storedValue]
    · split
      · rename_i e
        subst e
        simp [State.storedValue]
      · exact tied

/-- What an owner does at the storing of its parameter leaves all tables alone (R131, R157, R187). -/
@[simp] theorem parameterStored_keeps (p : ParamId) (old : Int) (s : State) :
    (parameterStored p old s).runTime = s.runTime ∧ (parameterStored p old s).params = s.params ∧
    (parameterStored p old s).counters = s.counters ∧ (parameterStored p old s).li = s.li ∧
    (parameterStored p old s).mp = s.mp ∧ (parameterStored p old s).fc = s.fc ∧ (parameterStored p old s).di = s.di ∧
    (parameterStored p old s).pm = s.pm ∧ (parameterStored p old s).tu = s.tu ∧
    (parameterStored p old s).sent = s.sent ∧ (parameterStored p old s).reports = s.reports ∧
    (parameterStored p old s).plateBusy = s.plateBusy ∧ (parameterStored p old s).pending = s.pending := by
  unfold parameterStored
  split
  case h_3 => split <;> simp
  all_goals simp

@[simp] theorem parameterStored_plan (p : ParamId) (old : Int) (s : State) :
    (parameterStored p old s).sl.plan = s.sl.plan ∧ (parameterStored p old s).sl.load = s.sl.load := by
  unfold parameterStored
  split
  case h_3 => split <;> simp
  all_goals simp

@[simp] theorem parameterStored_line (p : ParamId) (old : Int) (s : State) :
    (parameterStored p old s).sr.line = s.sr.line ∧ (parameterStored p old s).sr.vPump = s.sr.vPump ∧
    (parameterStored p old s).sr.flowResidue = s.sr.flowResidue := by
  unfold parameterStored
  split
  case h_3 => split <;> simp
  all_goals simp

theorem ownParamSet_keepsTables (r : Request) (s : State) : s.KeepsTables (ownParamSet r s).1 := by
  unfold ownParamSet
  dsimp only
  split
  · exact refl s
  · rename_i p _
    have stored : s.KeepsTables (s.setPar p (s.storedValue p (signedAt r.body 2 4))) :=
      { refl s with params := fun h => State.setPar_inRange h p _ }
    exact stored.trans (of_steady (by simp) (by simp) (by simp) (by simp) (by simp) : State.KeepsTables _
      (parameterStored p _ _))

/-! ### The plan load (R99, R104 to R113) -/

theorem planWf_nil : planWf [] := by
  simp [planWf]

/-- The bands of a plan stand apart from all that follows its last one. -/
theorem planWf.bottom_le {plan : List Band} (h : planWf plan) {last : Band} (hl : plan.getLast? = some last) :
    ∀ b ∈ plan, b.bottom ≤ last.bottom := by
  obtain ⟨-, -, extent, apart⟩ := h
  obtain ⟨front, rfl⟩ := List.getLast?_eq_some_iff.mp hl
  intro b hb
  rcases List.mem_append.mp hb with hf | hl
  · have below := (List.pairwise_append.mp apart).2.2 b hf last (by simp)
    have := extent last (by simp)
    omega
  · rw [List.mem_singleton.mp hl]

/-- A band accepted behind a plan extends the plan (R106). -/
theorem planWf.append {plan : List Band} (h : planWf plan) (room : plan.length < Config.planSize) {b : Band}
    (index : b.index = plan.length) (order : b.orderAllowed plan = true) : planWf (plan ++ [b]) := by
  have ends := fun last hl => h.bottom_le (last := last) hl
  obtain ⟨-, indices, extent, apart⟩ := h
  simp only [Band.orderAllowed, Bool.and_eq_true, decide_eq_true_eq] at order
  obtain ⟨positive, behind⟩ := order
  refine ⟨by simpa using room, ?_, ?_, ?_⟩
  · simp [indices, index, List.range_succ]
  · intro c hc
    rcases List.mem_append.mp hc with hc | hc
    · exact extent c hc
    · rw [List.mem_singleton.mp hc]
      exact positive
  · refine List.pairwise_append.mpr ⟨apart, List.pairwise_singleton _ _, fun c hc d hd => ?_⟩
    rw [List.mem_singleton.mp hd]
    cases hl : plan.getLast? with
    | none => simp [List.getLast?_eq_none_iff.mp hl] at hc
    | some last =>
      rw [hl] at behind
      exact Int.le_trans (ends last hl c hc) (by simpa using behind)

/-- A change of the plan load that leaves it in form. -/
theorem setLoad_keepsTables {s : State} (l : Option PlanLoad)
    (h : s.PlansWf → ∀ k, l = some k →
      planWf k.staged ∧ k.staged.length ≤ k.declared ∧ 1 ≤ k.declared ∧ k.declared ≤ Config.planSize) :
    s.KeepsTables (setLoad l s) :=
  { refl s with plans := fun wf => ⟨wf.1, h wf⟩ }

theorem restartLoad_keepsTables (s : State) : s.KeepsTables (restartLoad s) := by
  refine setLoad_keepsTables _ (fun wf k hk => ?_)
  obtain ⟨l, hl, rfl⟩ := Option.map_eq_some_iff.mp hk
  exact wf.2 l hl

theorem ownPlanOpen_keepsTables (r : Request) (s : State) : s.KeepsTables (ownPlanOpen r s).1 := by
  unfold ownPlanOpen
  dsimp only
  split
  · exact restartLoad_keepsTables s
  · rename_i hn
    have counted : s.KeepsTables (if s.sl.load.isSome = true then s.count 4 else s) := by
      split
      · exact State.count_keepsTables 4 s
      · exact refl s
    refine counted.trans (setLoad_keepsTables _ (fun _ k hk => ?_))
    rw [← Option.some.inj hk]
    exact ⟨planWf_nil, Nat.zero_le _, Nat.one_le_iff_ne_zero.mpr fun e => hn (.inl e), Nat.le_of_not_lt fun e => hn (.inr e)⟩

theorem ownPlanBand_keepsTables (r : Request) (s : State) : s.KeepsTables (ownPlanBand r s).1 := by
  unfold ownPlanBand
  split
  · exact refl s
  · rename_i l hl
    refine (restartLoad_keepsTables s).trans ?_
    have loading : (restartLoad s).sl.load = some { l with timer := s.loadTimer } := by
      simp [restartLoad, hl]
    unfold bandTests
    split
    · exact refl _
    · rename_i notAll
      split
      · exact refl _
      · rename_i next
        split
        · exact refl _
        · rename_i k _
          dsimp only
          split
          · rename_i order
            refine setLoad_keepsTables _ (fun wf j hj => ?_)
            rw [← Option.some.inj hj]
            obtain ⟨staged, most, least, size⟩ := wf.2 _ loading
            dsimp only at staged most least size notAll next order ⊢
            refine ⟨staged.append (by omega) ?_ order, ?_, least, size⟩
            · exact not_not.mp next
            · simp only [List.length_append, List.length_singleton]
              omega
          · exact refl _

theorem ownPlanGet_keepsTables (r : Request) (s : State) : s.KeepsTables (ownPlanGet r s).1 := by
  unfold ownPlanGet
  dsimp only [noReply]
  exact streamPart_keepsTables _ s

theorem ownPlanClose_keepsTables (r : Request) (s : State) : s.KeepsTables (ownPlanClose r s).1 := by
  unfold ownPlanClose
  split
  · exact refl s
  · rename_i l hl
    split
    · exact { refl s with plans := fun wf => ⟨(wf.2 l hl).1, fun k hk => by simp [doneWith] at hk⟩ }
    · exact after (State.count_keepsTables 4 _) (dropLoad_keepsTables s)

end Sys2Proof.Machine
end

section
/-! SUPPORT. The transit line (R188 to R194): what placing litres and arrivals at the meter leave of the parcels, their
form and their order. -/

namespace Sys2Proof.Machine

/-! ### Placing litres -/

/-- A parcel but for the litres that it holds. -/
def Parcel.unfilled (p : Parcel) : Parcel := { p with volume := 0 }

/-- Litres that join the youngest parcel change its volume alone (R191). -/
theorem growYoungest_unfilled (l : List Parcel) (n : Nat) :
    (growYoungest l n).map Parcel.unfilled = l.map Parcel.unfilled := by
  induction l with
  | nil => rfl
  | cons p l ih =>
    cases l with
    | nil => rfl
    | cons q rest => simpa [growYoungest] using ih

/-- The youngest parcel takes the litres (R191). -/
theorem growYoungest_append (older : List Parcel) (y : Parcel) (n : Nat) :
    growYoungest (older ++ [y]) n = older ++ [{ y with volume := y.volume + BitVec.ofNat 32 n }] := by
  induction older with
  | nil => rfl
  | cons p older ih =>
    cases older with
    | nil => rfl
    | cons q rest => simpa [growYoungest] using ih

/-- Placing litres leaves the line's parcels but for their volumes, or opens a parcel behind them where there is room or
the youngest is at the meter (R191). -/
theorem placeLitres_line (vIn : Litres) (n : Nat) (s : State) :
    (placeLitres vIn n s).sr.line.map Parcel.unfilled = s.sr.line.map Parcel.unfilled ∨
    ∃ c, (placeLitres vIn n s).sr.line = s.sr.line ++ [s.openedParcel c vIn n] ∧
      (s.sr.line.length < Config.lineSize ∨ ∃ y, s.sr.line.getLast? = some y ∧ y.atMeter = true) := by
  unfold placeLitres
  split
  · exact .inl rfl
  · rename_i c hp
    refine .inr ⟨c, rfl, ?_⟩
    unfold placement at hp
    split at hp
    · cases hp
    · split at hp
      · rename_i hl
        rw [List.getLast?_eq_none_iff.mp hl]
        exact .inl (by decide)
      · rename_i y hl
        split at hp
        · rename_i hm
          exact .inr ⟨y, hl, hm⟩
        · split at hp
          · split at hp
            · rename_i room
              exact .inl room
            · cases hp
          · cases hp
  · exact .inl (by simpa using growYoungest_unfilled _ _)
  · exact .inl (growYoungest_unfilled _ _)

/-- Placing litres leaves V_pump and the residue. -/
@[simp] theorem placeLitres_volume (vIn : Litres) (n : Nat) (s : State) :
    (placeLitres vIn n s).sr.vPump = s.sr.vPump ∧ (placeLitres vIn n s).sr.flowResidue = s.sr.flowResidue := by
  unfold placeLitres
  split <;> simp

/-! ### Arrival at the meter -/

/-- The line that arrivals leave is the one before without some of its oldest parcels, its head perhaps AT_METER (R194). -/
theorem arrivals_split (v : Litres) (rest : List Parcel) : ∀ head : Option Parcel, head.toList ++ rest ≠ [] →
    ∃ gone h tl b, head.toList ++ rest = gone ++ h :: tl ∧ (arrivals v head rest).1 = { h with atMeter := b } :: tl := by
  induction rest with
  | nil =>
    intro head hne
    cases head with
    | none => simp at hne
    | some h => exact ⟨[], h, [], h.atMeter, rfl, rfl⟩
  | cons p rest ih =>
    intro head _
    unfold arrivals
    split
    · obtain ⟨gone, h, tl, b, split, line⟩ := ih (some { p with atMeter := true }) (by simp)
      cases gone with
      | nil =>
        obtain ⟨rfl, rfl⟩ : { p with atMeter := true } = h ∧ rest = tl := by simpa using split
        exact ⟨head.toList, p, rest, b, rfl, line⟩
      | cons g gone =>
        have behind : rest = gone ++ h :: tl := by simpa using And.right (by simpa using split)
        exact ⟨head.toList ++ p :: gone, h, tl, b, by simp [behind], line⟩
    · cases head with
      | none => exact ⟨[], p, rest, p.atMeter, rfl, rfl⟩
      | some h => exact ⟨[], h, p :: rest, h.atMeter, rfl, rfl⟩

theorem lineArrivals_split (v : Litres) (line : List Parcel) (hne : line ≠ []) :
    ∃ gone h tl b, line = gone ++ h :: tl ∧ (lineArrivals v line).1 = { h with atMeter := b } :: tl := by
  cases line with
  | nil => exact absurd rfl hne
  | cons p rest =>
    unfold lineArrivals
    dsimp only
    split
    · exact arrivals_split v rest (some p) (by simp)
    · exact arrivals_split v (p :: rest) none (by simp)

/-- The test for arrivals changes the line of SR, and nothing else of it. -/
theorem testArrivals_sr (s : State) : (testArrivals s).sr = { s.sr with line := (lineArrivals s.sr.vPump s.sr.line).1 } := by
  unfold testArrivals
  exact foldl_keeps _ State.sr (by simp) _ _

/-! ### The form of the line (R188, R189) -/

/-- The part of the line's form that speaks of the parcels alone. -/
def lineForm (line : List Parcel) : Prop :=
  line.length ≤ Config.lineSize ∧ (∀ p ∈ line.tail, p.atMeter = false) ∧
    ∀ p ∈ line, p.vArrive = p.vIn + BitVec.ofNat 32 p.vline ∧ p.densityCount ≤ Config.densityCap

theorem State.lineWf_iff (s : State) : s.LineWf ↔ lineForm s.sr.line ∧ 0 ≤ s.sr.flowResidue ∧ s.sr.flowResidue ≤ 59999 := by
  unfold State.LineWf lineForm
  exact ⟨fun ⟨a, b, c, d, e⟩ => ⟨⟨a, b, c⟩, d, e⟩, fun ⟨⟨a, b, c⟩, d, e⟩ => ⟨a, b, c, d, e⟩⟩

/-- The form of the line does not speak of volumes. -/
theorem lineForm_unfilled (line : List Parcel) : lineForm (line.map Parcel.unfilled) ↔ lineForm line := by
  have tail : (line.map Parcel.unfilled).tail = line.tail.map Parcel.unfilled := by cases line <;> rfl
  unfold lineForm
  rw [tail]
  simp only [List.length_map, List.forall_mem_map, Parcel.unfilled]

theorem lineForm_of_unfilled {l m : List Parcel} (h : m.map Parcel.unfilled = l.map Parcel.unfilled) (hl : lineForm l) :
    lineForm m :=
  (lineForm_unfilled m).mp (h ▸ (lineForm_unfilled l).mpr hl)

/-- A parcel opened behind a line in form. -/
theorem lineForm_opened {line : List Parcel} (h : lineForm line) (s : State) (c : CutterCopy) (vIn : Litres) (n : Nat)
    (room : line.length < Config.lineSize ∨ ∃ y, line.getLast? = some y ∧ y.atMeter = true) :
    lineForm (line ++ [s.openedParcel c vIn n]) := by
  obtain ⟨size, inLine, parcels⟩ := h
  have short : line.length < Config.lineSize := by
    rcases room with room | ⟨y, hy, hm⟩
    · exact room
    · cases line with
      | nil => decide
      | cons p rest =>
        cases rest with
        | nil => exact (by decide : 1 < Config.lineSize)
        | cons q rest =>
          have hmem : y ∈ q :: rest := List.mem_of_getLast? (by simpa [List.getLast?_cons_cons] using hy)
          have := inLine y hmem
          rw [hm] at this
          cases this
  refine ⟨by simpa using short, ?_, ?_⟩
  · cases line with
    | nil => simp
    | cons p rest =>
      intro q hq
      rcases List.mem_append.mp hq with hq | hq
      · exact inLine q hq
      · rw [List.mem_singleton.mp hq]
        rfl
  · intro q hq
    rcases List.mem_append.mp hq with hq | hq
    · exact parcels q hq
    · rw [List.mem_singleton.mp hq]
      exact ⟨rfl, Nat.zero_le _⟩

/-- What remains of a line in form after arrivals is in form. -/
theorem lineForm_arrivals {line : List Parcel} (h : lineForm line) (v : Litres) : lineForm (lineArrivals v line).1 := by
  by_cases hne : line = []
  · rw [hne]
    simp [lineArrivals, lineForm]
  · obtain ⟨gone, p, tl, b, split, left⟩ := lineArrivals_split v line hne
    obtain ⟨size, inLine, parcels⟩ := h
    rw [left]
    subst split
    have behind : ∀ q ∈ tl, q ∈ (gone ++ p :: tl).tail := fun q hq => by cases gone <;> simp [hq]
    refine ⟨?_, fun q hq => inLine q (behind q hq), fun q hq => ?_⟩
    · simp only [List.length_append, List.length_cons] at size ⊢
      omega
    · rcases List.mem_cons.mp hq with rfl | hq
      · exact parcels p (by simp)
      · exact parcels q (by simp [hq])

/-! ### The order of the line (R188, R189) -/

/-- The first counts of the parcels, oldest first, stand in order below V_pump, as differences against the oldest. -/
def inOrder (counts : List Litres) (vPump : Litres) : Prop :=
  ∀ base, counts.head? = some base →
    (counts.Pairwise fun p q => (p - base).toNat < (q - base).toNat) ∧
      ∀ p ∈ counts, (p - base).toNat < (vPump - base).toNat

theorem State.lineOrdered_iff (s : State) : s.LineOrdered ↔ inOrder (s.sr.line.map Parcel.vIn) s.sr.vPump := by
  unfold State.LineOrdered inOrder
  cases s.sr.line with
  | nil => simp
  | cons p rest => simp [List.pairwise_map]

/-- Litres pumped behind a line in order, as long as V_pump does not come around to the oldest. -/
theorem inOrder_pumped {counts : List Litres} {v : Litres} (h : inOrder counts v) {n : Nat}
    (room : ∀ base, counts.head? = some base → (v - base).toNat + n < 2 ^ 32) : inOrder counts (v + BitVec.ofNat 32 n) := by
  intro base hb
  obtain ⟨apart, below⟩ := h base hb
  have far := room base hb
  refine ⟨apart, fun p hp => ?_⟩
  have := below p hp
  bv_omega

/-- A parcel opened behind a line in order at the V_pump before its litres. -/
theorem inOrder_opened {counts : List Litres} {v : Litres} (h : inOrder counts v) {n : Nat} (pos : 1 ≤ n) (small : n < 2 ^ 32)
    (room : ∀ base, counts.head? = some base → (v - base).toNat + n < 2 ^ 32) :
    inOrder (counts ++ [v]) (v + BitVec.ofNat 32 n) := by
  intro base hb
  cases counts with
  | nil =>
    obtain rfl : v = base := by simpa using hb
    refine ⟨List.pairwise_singleton _ _, fun p hp => ?_⟩
    rw [List.mem_singleton.mp hp]
    bv_omega
  | cons c rest =>
    have hc : (c :: rest).head? = some base := hb
    obtain ⟨apart, below⟩ := h base hc
    have far := room base hc
    refine ⟨List.pairwise_append.mpr ⟨apart, List.pairwise_singleton _ _, fun p hp q hq => ?_⟩, fun p hp => ?_⟩
    · rw [List.mem_singleton.mp hq]
      exact below p hp
    · rcases List.mem_append.mp hp with hp | hp
      · have := below p hp
        bv_omega
      · rw [List.mem_singleton.mp hp]
        bv_omega

/-- A line in order stays in order when its oldest parcels leave. -/
theorem inOrder_suffix {gone counts : List Litres} {v : Litres} (h : inOrder (gone ++ counts) v) : inOrder counts v := by
  cases gone with
  | nil => exact h
  | cons g gone =>
    intro base hb
    obtain ⟨apart, below⟩ := h g rfl
    have split := List.pairwise_append.mp (show List.Pairwise _ ((g :: gone) ++ counts) from apart)
    obtain ⟨rest, rfl⟩ : ∃ rest, counts = base :: rest := by
      cases counts with
      | nil => cases hb
      | cons c rest => exact ⟨rest, by rw [Option.some.inj hb]⟩
    have least : ∀ p ∈ base :: rest, (base - g).toNat ≤ (p - g).toNat := by
      intro p hp
      rcases List.mem_cons.mp hp with rfl | hp
      · exact Nat.le_refl _
      · exact Nat.le_of_lt ((List.pairwise_cons.mp split.2.1).1 p hp)
    have shift : ∀ p : Litres, (base - g).toNat ≤ (p - g).toNat → (p - base).toNat = (p - g).toNat - (base - g).toNat := by
      intro p hp
      bv_omega
    have baseBelow := below base (by simp)
    refine ⟨split.2.1.imp_of_mem fun {p q} hp hq hpq => ?_, fun p hp => ?_⟩
    · rw [shift p (least p hp), shift q (least q hq)]
      have := least p hp
      omega
    · have hpv := below p (List.mem_append_right _ hp)
      have := least p hp
      rw [shift p this, shift v (by omega)]
      omega

theorem inOrder_arrivals {line : List Parcel} {v : Litres} (h : inOrder (line.map Parcel.vIn) v) (w : Litres) :
    inOrder ((lineArrivals w line).1.map Parcel.vIn) v := by
  by_cases hne : line = []
  · rw [hne]
    simp [lineArrivals, inOrder]
  · obtain ⟨gone, p, tl, b, split, left⟩ := lineArrivals_split w line hne
    rw [left]
    subst split
    rw [List.map_append] at h
    exact inOrder_suffix h

/-! ### A return flow sample (R188) and a density sample (R195) -/

/-- The V_in of the parcels of lines that differ in volumes alone. -/
theorem vIns_of_unfilled {l m : List Parcel} (h : m.map Parcel.unfilled = l.map Parcel.unfilled) :
    m.map Parcel.vIn = l.map Parcel.vIn := by
  have := congrArg (List.map Parcel.vIn) h
  simpa [Function.comp_def, Parcel.unfilled] using this

/-- Litres placed behind V_pump keep the line's form. -/
theorem placeLitres_form (vIn : Litres) (n : Nat) {s : State} (h : lineForm s.sr.line) :
    lineForm (placeLitres vIn n s).sr.line := by
  rcases placeLitres_line vIn n s with e | ⟨c, e, room⟩
  · exact lineForm_of_unfilled e h
  · rw [e]
    exact lineForm_opened h s c vIn n room

/-- Litres placed behind V_pump keep the line's order. -/
theorem placeLitres_order {vIn : Litres} {n : Nat} {s : State} (h : inOrder (s.sr.line.map Parcel.vIn) vIn) (pos : 1 ≤ n)
    (small : n < 2 ^ 32) (room : ∀ head, s.sr.line.head? = some head → (vIn - head.vIn).toNat + n < 2 ^ 32) :
    inOrder ((placeLitres vIn n s).sr.line.map Parcel.vIn) (vIn + BitVec.ofNat 32 n) := by
  have far : ∀ base, (s.sr.line.map Parcel.vIn).head? = some base → (vIn - base).toNat + n < 2 ^ 32 := by
    intro base hb
    rw [List.head?_map] at hb
    obtain ⟨head, hh, rfl⟩ := Option.map_eq_some_iff.mp hb
    exact room head hh
  rcases placeLitres_line vIn n s with e | ⟨c, e, -⟩
  · rw [vIns_of_unfilled e]
    exact inOrder_pumped h far
  · rw [e, List.map_append]
    exact inOrder_opened h pos small far

/-- The litres that one arrival adds: at most 167 at the highest flow of the channel (R188). -/
theorem litres_le {flow residue : Int} (elapsed : Nat) (hf : 0 < flow) (top : flow ≤ 10000) (he : elapsed ≤ 1000)
    (hr : 0 ≤ residue ∧ residue ≤ 59999) : (floorDiv (flow * elapsed + residue) 60000).toNat ≤ 167 := by
  have low : 0 ≤ flow * (elapsed : Int) := Int.mul_nonneg (by omega) (by omega)
  have high : flow * (elapsed : Int) ≤ 10000 * 1000 := Int.mul_le_mul top (by omega) (by omega) (by omega)
  unfold floorDiv
  omega

theorem elapsedSince_le (now : RunTime) (prev : Option RunTime) : elapsedSince now prev ≤ 1000 := by
  unfold elapsedSince
  split
  · exact Nat.min_le_right _ _
  · exact Nat.zero_le _

/-- A return flow sample keeps the line's form. -/
theorem pumpedVolume_lineWf (flow : Int) {s : State} (h : s.LineWf) : (pumpedVolume flow s).LineWf := by
  rw [State.lineWf_iff] at h ⊢
  obtain ⟨form, low, high⟩ := h
  have residue : ∀ total : Int, 0 ≤ keptRemainder total 60000 ∧ keptRemainder total 60000 ≤ 59999 := by
    intro total
    unfold keptRemainder
    omega
  simp only [pumpedVolume]
  split
  · split
    · rw [testArrivals_sr]
      refine ⟨lineForm_arrivals ?_ _, by simpa using residue _⟩
      refine placeLitres_form _ _ ?_
      exact form
    · exact ⟨form, residue _⟩
  · exact ⟨form, low, high⟩

/-- A return flow sample keeps the line's order, 167 L below the wrap (R188). -/
theorem pumpedVolume_lineOrdered {flow : Int} (top : flow ≤ 10000) {s : State} (h : s.LineWf) (ordered : s.LineOrdered)
    (room : ∀ head, s.sr.line.head? = some head → (s.sr.vPump - head.vIn).toNat + 167 < 2 ^ 32) :
    (pumpedVolume flow s).LineOrdered := by
  rw [State.lineWf_iff] at h
  rw [State.lineOrdered_iff] at ordered ⊢
  simp only [pumpedVolume]
  split
  · rename_i pumps
    have most := litres_le (elapsedSince s.runTime s.sr.prevFlow) pumps.1 top (elapsedSince_le _ _) h.2
    split
    · rename_i pos
      rw [testArrivals_sr]
      refine inOrder_arrivals ?_ _
      simp only [placeLitres_volume]
      refine placeLitres_order ?_ pos (by omega) (fun head hh => ?_)
      · exact ordered
      · have := room head hh
        omega
    · rename_i none
      have zero : (floorDiv (flow * (elapsedSince s.runTime s.sr.prevFlow : Int) + s.sr.flowResidue) 60000).toNat = 0 := by
        omega
      simpa [zero] using ordered
  · exact ordered

/-- A density sample changes the sums of the head alone (R195). -/
theorem densitySample_line (v : Int) (s : State) : (densitySample v s).sr = s.sr ∨
    ∃ p rest, s.sr.line = p :: rest ∧ (densitySample v s).sr = { s.sr with line := p.addDensity v :: rest } := by
  unfold densitySample
  split
  · rename_i p rest hl
    split
    · exact .inr ⟨p, rest, hl, rfl⟩
    · exact .inl rfl
  · exact .inl rfl

theorem Parcel.addDensity_keeps (p : Parcel) (v : Int) : (p.addDensity v).vIn = p.vIn ∧
    (p.addDensity v).vArrive = p.vArrive ∧ (p.addDensity v).vline = p.vline ∧ (p.addDensity v).atMeter = p.atMeter ∧
    (p.densityCount ≤ Config.densityCap → (p.addDensity v).densityCount ≤ Config.densityCap) := by
  unfold Parcel.addDensity
  split
  · rename_i below
    exact ⟨rfl, rfl, rfl, rfl, fun _ => below⟩
  · exact ⟨rfl, rfl, rfl, rfl, id⟩

theorem densitySample_lineWf (v : Int) {s : State} (h : s.LineWf) : (densitySample v s).LineWf := by
  rw [State.lineWf_iff] at h ⊢
  rcases densitySample_line v s with e | ⟨p, rest, hl, e⟩
  · rwa [e]
  · rw [e]
    rw [hl] at h
    obtain ⟨⟨size, inLine, parcels⟩, residue⟩ := h
    obtain ⟨vIn, vArrive, vline, -, capped⟩ := p.addDensity_keeps v
    refine ⟨⟨size, inLine, fun q hq => ?_⟩, residue⟩
    rcases List.mem_cons.mp hq with rfl | hq
    · have hp := parcels p (by simp)
      rw [vIn, vArrive, vline]
      exact ⟨hp.1, capped hp.2⟩
    · exact parcels q (by simp [hq])

theorem densitySample_lineOrdered (v : Int) {s : State} (h : s.LineOrdered) : (densitySample v s).LineOrdered := by
  rw [State.lineOrdered_iff] at h ⊢
  rcases densitySample_line v s with e | ⟨p, rest, hl, e⟩
  · rwa [e]
  · rw [e]
    rw [hl] at h
    simpa [(p.addDensity_keeps v).1] using h

end Sys2Proof.Machine
end

section
/-! The tables keep their form at every event (O54). -/

namespace Sys2Proof.Machine

open State.KeepsTables

/-- The tables with a bounded form are in form (R3, R4, R7, R13, R20, R23, R99, R188, R189). -/
def State.TablesInForm (s : State) : Prop :=
  s.ParamsInRange ∧ s.CountersBounded ∧ s.QueuesBounded ∧ s.TagsDistinct ∧ s.PlansWf ∧ s.LineWf

/-- V_pump lies 167 L or more before the wrap against the oldest parcel (R188). -/
def State.LineRoom (s : State) : Prop :=
  ∀ head, s.sr.line.head? = some head → (s.sr.vPump - head.vIn).toNat + 167 < 2 ^ 32

namespace State.KeepsTables

theorem lineWf {s t : State} (h : s.KeepsTables t) (hs : s.LineWf) : t.LineWf := by
  rw [State.lineWf_iff] at hs ⊢
  rw [h.residue]
  refine ⟨?_, hs.2⟩
  rcases h.line with e | e
  · rw [e]
    exact hs.1
  · rw [e]
    simp [lineForm]

theorem inForm {s t : State} (h : s.KeepsTables t) (hs : s.TablesInForm) : t.TablesInForm := by
  obtain ⟨params, counters, ⟨requests, replies, waits⟩, tags, plans, line⟩ := hs
  exact ⟨h.params params, h.counters counters, ⟨h.requests requests, h.replies replies, h.waits waits⟩, h.tags tags,
    h.plans plans, h.lineWf line⟩

theorem lineOrdered {s t : State} (h : s.KeepsTables t) (hs : s.LineOrdered) : t.LineOrdered := by
  rw [State.lineOrdered_iff] at hs ⊢
  rw [h.vPump]
  rcases h.line with e | e
  · rwa [e]
  · rw [e]
    simp [inOrder]

theorem lineRoom {s t : State} (h : s.KeepsTables t) (hs : s.LineRoom) : t.LineRoom := by
  unfold State.LineRoom
  rw [h.vPump]
  rcases h.line with e | e
  · rwa [e]
  · simp [e]

end State.KeepsTables

/-! ### Commands that add nothing to the line -/

/-- Every command but power-on, restart and a sample of the return line. -/
def Instr.OffLine : Instr → Prop
  | .powerOn _ _ _ | .moduleRestart => False
  | .sampleArrival n _ _ => ∀ c, Channel.ofNumber n = some c → c ≠ .retFlow ∧ c ≠ .retDens
  | _ => True

theorem linkExpiry_keepsTables (s : State) : s.KeepsTables (linkExpiry s) := by
  unfold linkExpiry
  split
  · exact linkSilent_keepsTables s
  · exact refl s

theorem gapExpiry_keepsTables (s : State) : s.KeepsTables (gapExpiry s) := by
  unfold gapExpiry
  split
  · exact refl s
  · split
    · exact discardFrame_keepsTables s
    · exact refl s

theorem badCharacter_keepsTables (s : State) : s.KeepsTables (badCharacter s) := by
  unfold badCharacter
  split
  · exact refl s
  · exact discardFrame_keepsTables s

theorem startExpiry_keepsTables (s : State) : s.KeepsTables (startExpiry s) := by
  unfold startExpiry
  split
  · exact endStart_keepsTables s
  · exact refl s

theorem windowExpiry_keepsTables (s : State) : s.KeepsTables (windowExpiry s) := by
  unfold windowExpiry
  split
  · exact of_frame (by simp) (by simp) (by simp) (by simp) windowEnd_bounded
  · exact refl s

theorem inputChange_keepsTables (i : InputId) (l : Level) (s : State) : s.KeepsTables (inputChange i l s) :=
  of_steady (by simp) (by simp) (by simp) (by simp) (by simp)

theorem filterExpiry_keepsTables (i : InputId) (s : State) : s.KeepsTables (filterExpiry i s) := by
  unfold filterExpiry
  split
  · exact of_steady (by simp) (by simp) (by simp) (by simp) (by simp)
  · exact refl s

theorem disagreementExpiry_keepsTables (a : Axis) (s : State) : s.KeepsTables (disagreementExpiry a s) := by
  unfold disagreementExpiry
  split
  · exact of_steady (by simp) (by simp) (by simp) (by simp) (by simp)
  · exact refl s

theorem moveExpiry_keepsTables (s : State) : s.KeepsTables (moveExpiry s) := by
  unfold moveExpiry
  split
  · split
    · exact failMove_keepsTables _ s
    · exact refl s
  · exact refl s

theorem stallExpiry_keepsTables (w : WheelId) (s : State) : s.KeepsTables (stallExpiry w s) := by
  unfold stallExpiry
  split
  · exact after (announceWheel_keepsTables w _) (of_frame (by simp) (by simp) (by simp) (by simp) (stall_bounded w))
  · exact refl s

theorem pauseExpiry_keepsTables (w : WheelId) (s : State) : s.KeepsTables (pauseExpiry w s) := by
  unfold pauseExpiry
  split
  · exact pauseEnd_keepsTables w s
  · exact refl s

theorem reverseExpiry_keepsTables (w : WheelId) (s : State) : s.KeepsTables (reverseExpiry w s) := by
  unfold reverseExpiry
  split
  · exact of_steady (by simp) (by simp) (by simp) (by simp) (by simp)
  · exact refl s

theorem blockageExpiry_keepsTables (s : State) : s.KeepsTables (blockageExpiry s) := by
  unfold blockageExpiry
  split
  · exact blockagePresent_keepsTables s
  · exact refl s

theorem backflushExpiry_keepsTables (s : State) : s.KeepsTables (backflushExpiry s) := by
  unfold backflushExpiry
  split
  · exact of_steady (by simp) (by simp) (by simp) (by simp) (by simp)
  · exact refl s

theorem loadExpiry_keepsTables (s : State) : s.KeepsTables (loadExpiry s) := by
  unfold loadExpiry
  split
  · split
    · exact after (State.count_keepsTables 4 _) (dropLoad_keepsTables s)
    · exact refl s
  · exact refl s

/-- The owners of requests that answer without changing the state. -/
theorem unchanged_keepsTables {owner : Request → State → Answer} (h : ∀ r u, (owner r u).1 = u) (r : Request) (s : State) :
    s.KeepsTables (owner r s).1 := by
  rw [h]
  exact refl s

theorem ownParamGet_unchanged (r : Request) (s : State) : (ownParamGet r s).1 = s := by
  unfold ownParamGet
  dsimp only
  split <;> rfl

/-- Every command but power-on, restart and a sample of the return line keeps the tables. -/
theorem exec_keepsTables {c : Instr} (h : Instr.OffLine c) {s t : State} (e : exec c s = .next t) : s.KeepsTables t := by
  have event : ∀ {now : RunTime} {f : State → State}, (∀ u : State, u.KeepsTables (f u)) →
      (Host.Outcome.next (event now f s) : Host.Outcome State Fault Refusal) = .next t → s.KeepsTables t :=
    fun hf he => by cases he; exact event_keepsTables (hf _)
  have request : ∀ {kind length : Nat} {now : RunTime} {owner : Request → State → Answer},
      (∀ (r : Request) (u : State), u.KeepsTables (owner r u).1) →
      (Host.Outcome.next (takeRequest kind length now owner s) : Host.Outcome State Fault Refusal) = .next t →
      s.KeepsTables t := fun hf he => by cases he; exact takeRequest_keepsTables (fun r u _ => hf r u) s
  cases c with
  | powerOn | moduleRestart => cases h
  | frameReceived bytes now => exact event (receiveBytes_keepsTables bytes) e
  | frameBadLength length now => exact event (fun u => receiveByte_keepsTables u length) e
  | badCharacter now => exact event badCharacter_keepsTables e
  | gapTimerExpiry now => exact event gapExpiry_keepsTables e
  | linkSilenceExpiry now => exact event linkExpiry_keepsTables e
  | transmitFrameStart now => exact event startFrame_keepsTables e
  | transmitComplete now => exact event completeFrame_keepsTables e
  | replySlotGranted now => exact event grantSlot_keepsTables e
  | streamNextPart now => exact event nextPart_keepsTables e
  | requestUnknownKind now => cases e; exact takeUnknown_keepsTables now s
  | statusGet now => exact request (unchanged_keepsTables (owner := ownStatusGet) fun _ _ => rfl) e
  | paramSet now => exact request ownParamSet_keepsTables e
  | paramGet now => exact request (unchanged_keepsTables ownParamGet_unchanged) e
  | modeSet now => exact request ownModeSet_keepsTables e
  | panelOpen now => exact request ownPanelOpen_keepsTables e
  | panelClose now => exact request ownPanelClose_keepsTables e
  | depthZero now => exact request ownDepthZero_keepsTables e
  | wheelSet now => exact request ownWheelSet_keepsTables e
  | wheelClear now => exact request ownWheelClear_keepsTables e
  | pumpSet now => exact request ownPumpSet_keepsTables e
  | backflush now => exact request ownBackflush_keepsTables e
  | plateMove now => exact request ownPlateMove_keepsTables e
  | plateClear now => exact request ownPlateClear_keepsTables e
  | planOpen now => exact request ownPlanOpen_keepsTables e
  | planBand now => exact request ownPlanBand_keepsTables e
  | planClose now => exact request ownPlanClose_keepsTables e
  | planGet now => exact request ownPlanGet_keepsTables e
  | logRead now => exact request ownLogRead_keepsTables e
  | transitGet now => exact request (unchanged_keepsTables (owner := ownTransitGet) fun _ _ => rfl) e
  | await now => exact request ownAwait_keepsTables e
  | awaitCancel now => exact request ownAwaitCancel_keepsTables e
  | countersRead now => exact request ownCountersRead_keepsTables e
  | tripGet now => exact request (unchanged_keepsTables (owner := ownTripGet) fun _ _ => rfl) e
  | tripClear now => exact request ownTripClear_keepsTables e
  | tripForce now => exact request ownTripForce_keepsTables e
  | tripMapSet now => exact request ownTripMapSet_keepsTables e
  | restart now => exact request ownRestart_keepsTables e
  | waitDeadlineExpiry tag now => exact event (fun u => endWaits_keepsTables _ u) e
  | sampleArrival n v now => exact event (sample_keepsTables n v h) e
  | startWindowExpiry now => exact event startExpiry_keepsTables e
  | windowEnd now => exact event windowExpiry_keepsTables e
  | discreteInputChange i l now => exact event (inputChange_keepsTables i l) e
  | filterTimerExpiry i now => exact event (filterExpiry_keepsTables i) e
  | disagreementTimerExpiry a now => exact event (disagreementExpiry_keepsTables a) e
  | plateMoveDeadline now => exact event moveExpiry_keepsTables e
  | stallTimerExpiry w now => exact event (stallExpiry_keepsTables w) e
  | stallPauseEnd w now => exact event (pauseExpiry_keepsTables w) e
  | reverseTimeExpiry w now => exact event (reverseExpiry_keepsTables w) e
  | blockageTimerExpiry now => exact event blockageExpiry_keepsTables e
  | backflushEnd now => exact event backflushExpiry_keepsTables e
  | loadTimerExpiry now => exact event loadExpiry_keepsTables e
  | frameLeadByte now => exact event (fun u => receiveByte_keepsTables u Config.leadByte) e

/-! ### Samples of the return line -/

/-- The watches of an arrival, before its value is passed on, keep the tables. -/
theorem arrival_before (c : Channel) (v : Int) (s : State) :
    ∃ u, s.KeepsTables u ∧ arrival c v s = passValue c v u := by
  unfold arrival
  dsimp only
  split
  · exact ⟨_, of_frame (by simp) (by simp) (by simp) (by simp) (fun h => .of_eq (sensorStaleWatch_keeps _).2.2.1
      (holdTest_bounded (channelReport_bounded c (h.of_eq (by simp))))), rfl⟩
  · exact ⟨_, of_steady (by simp) (by simp) (by simp) (by simp) (by simp), rfl⟩

/-- A return flow value reaches SR's line last, after the watches (R48). -/
theorem passRetFlow_before (v : Int) (s : State) :
    ∃ u, s.KeepsTables u ∧ passValue .retFlow v s = pumpedVolume v u :=
  ⟨_, of_steady (by simp) (by simp) (by simp) (by simp) (by simp), rfl⟩

/-- A return density value reaches SR's line last, after the watch (R48). -/
theorem passRetDens_before (v : Int) (s : State) :
    ∃ u, s.KeepsTables u ∧ passValue .retDens v s = densitySample v u :=
  ⟨_, of_steady (by simp) (by simp) (by simp) (by simp) (by simp), rfl⟩

/-- What an operation of the return line keeps: the form of the tables, and the line's order with room for its litres. -/
structure State.KeepsLine (s t : State) : Prop where
  inForm : s.TablesInForm → t.TablesInForm
  ordered : s.TablesInForm → s.LineOrdered → s.LineRoom → t.LineOrdered

theorem State.KeepsTables.keepsLine {s t : State} (h : s.KeepsTables t) : s.KeepsLine t :=
  ⟨h.inForm, fun _ ordered _ => h.lineOrdered ordered⟩

theorem State.KeepsLine.within {s t u v : State} (before : s.KeepsTables t) (h : t.KeepsLine u) (after : u.KeepsTables v) :
    s.KeepsLine v :=
  ⟨fun form => after.inForm (h.inForm (before.inForm form)), fun form ordered room =>
    after.lineOrdered (h.ordered (before.inForm form) (before.lineOrdered ordered) (before.lineRoom room))⟩

/-- An operation of SR's line alone keeps the other tables. -/
theorem State.TablesInForm.of_line {s t : State} (hs : s.TablesInForm) (params : t.params = s.params) (li : t.li = s.li)
    (plan : t.sl = s.sl) (counters : s.CountersBounded → t.CountersBounded) (line : t.LineWf) : t.TablesInForm := by
  obtain ⟨range, bounded, queues, tags, plans, -⟩ := hs
  unfold State.TablesInForm State.ParamsInRange State.par State.QueuesBounded State.TagsDistinct State.PlansWf
  rw [params, li, plan]
  exact ⟨range, counters bounded, queues, tags, plans, line⟩

theorem pumpedVolume_keepsLine {flow : Int} (top : flow ≤ 10000) (s : State) : s.KeepsLine (pumpedVolume flow s) where
  inForm h := h.of_line (by simp) (by simp) (by simp) (pumpedVolume_bounded flow)
    (pumpedVolume_lineWf flow h.2.2.2.2.2)
  ordered h := pumpedVolume_lineOrdered top h.2.2.2.2.2

theorem densitySample_keepsLine (v : Int) (s : State) : s.KeepsLine (densitySample v s) where
  inForm h := h.of_line (by simp) (by simp) (by simp) (State.CountersBounded.of_eq (by simp))
    (densitySample_lineWf v h.2.2.2.2.2)
  ordered _ ordered _ := densitySample_lineOrdered v ordered

theorem arrival_keepsLine (c : Channel) (v : Int) (high : v ≤ c.range.2) (s : State) : s.KeepsLine (arrival c v s) := by
  by_cases hf : c = .retFlow
  · subst hf
    obtain ⟨u, before, e⟩ := arrival_before .retFlow v s
    obtain ⟨w, watched, e'⟩ := passRetFlow_before v u
    rw [e, e']
    exact .within (before.trans watched) (pumpedVolume_keepsLine high w) (refl _)
  · by_cases hd : c = .retDens
    · subst hd
      obtain ⟨u, before, e⟩ := arrival_before .retDens v s
      obtain ⟨w, watched, e'⟩ := passRetDens_before v u
      rw [e, e']
      exact .within (before.trans watched) (densitySample_keepsLine v w) (refl _)
    · exact (arrival_keepsTables c v hf hd s).keepsLine

theorem sample_keepsLine (n : Nat) (v : Int) (s : State) : s.KeepsLine (sample n v s) := by
  unfold sample
  split
  · split
    · rename_i c _ range
      exact .within (refl s) (arrival_keepsLine c v range.2 s)
        (of_steady (by simp) (by simp) (by simp) (by simp) (by simp))
    · exact (State.count_keepsTables 6 s).keepsLine
  · exact (State.count_keepsTables 6 s).keepsLine

/-! ### Power-on and restart -/

/-- The tables of the state after reset are in form, whatever the inputs and a bounded counter set (R43, R44). -/
theorem State.initial_inForm (e g o : Level) {counters : Vector Nat 17} (h : ∀ i : Fin 17, counters.get i ≤ Config.counterCap)
    (pending : List Instr) : { State.initial e g o with counters := counters, pending := pending }.TablesInForm := by
  have defaults : ∀ p : ParamId, (State.initial e g o).par p = p.default := by
    intro p
    cases p <;> rfl
  refine ⟨⟨fun p => ?_, ?_⟩, h, ⟨Nat.zero_le _, Nat.zero_le _, Nat.zero_le _⟩, List.nodup_nil, ⟨?_, ?_⟩, ?_⟩
  · show p.lo ≤ (State.initial e g o).par p ∧ (State.initial e g o).par p ≤ p.hi
    rw [defaults]
    cases p <;> decide
  · show (State.initial e g o).par .softLimit ≤ (State.initial e g o).par .hardLimit
    rw [defaults, defaults]
    decide
  · simp [State.initial, Steering.initial, planWf]
  · simp [State.initial, Steering.initial]
  · simp [State.LineWf, State.initial, Slurry.initial]

theorem reportInputs_keepsTables (s : State) : s.KeepsTables (reportInputs s) :=
  of_steady (by simp [reportInputs]) (by simp [reportInputs]) (by simp [reportInputs]) (by simp [reportInputs])
    (by simp [reportInputs])

/-- A state with an empty line is in order. -/
theorem State.lineOrdered_of_empty {s : State} (h : s.sr.line = []) : s.LineOrdered := by
  rw [State.lineOrdered_iff, h]
  simp [inOrder]

theorem powerOn_inForm (e g o : Level) (s : State) : (powerOn e g o s).TablesInForm ∧ (powerOn e g o s).LineOrdered := by
  have kept := after (finish_keepsTables _) (reportInputs_keepsTables { State.initial e g o with pending := s.pending })
  exact ⟨kept.inForm (State.initial_inForm e g o (fun i => by simp [State.initial, Vector.get_eq_getElem]) s.pending),
    kept.lineOrdered (State.lineOrdered_of_empty rfl)⟩

theorem restartModule_inForm (k : Bool) {s : State} (h : s.CountersBounded) :
    (restartModule k s).TablesInForm ∧ (restartModule k s).LineOrdered := by
  have initial : (restartState s).TablesInForm := State.initial_inForm _ _ _ (State.addCounter_bounded 9 _ h) s.pending
  have record : (restartState s).KeepsTables (reopenStation (keepRecord s (restartState s))) := by
    unfold reopenStation
    split
    · exact of_steady (by simp [resetOpenAtDepth, keepRecord]) (by simp [resetOpenAtDepth, keepRecord])
        (by simp [resetOpenAtDepth, keepRecord]) (by simp [resetOpenAtDepth, keepRecord])
        (by simp [resetOpenAtDepth, keepRecord])
    · exact of_steady rfl rfl ⟨rfl, rfl⟩ ⟨rfl, rfl, rfl⟩ rfl
  have chosen : (restartState s).KeepsTables
      (if k = true then reopenStation (keepRecord s (restartState s)) else restartState s) := by
    split
    · exact record
    · exact refl _
  have kept := after (finish_keepsTables _) (after (reportInputs_keepsTables _) chosen)
  exact ⟨kept.inForm initial, kept.lineOrdered (State.lineOrdered_of_empty rfl)⟩

/-- Every command keeps the tables in form, and the order of the line while it has room (O54). -/
theorem exec_keepsLine (c : Instr) {s t : State} (e : exec c s = .next t) : s.KeepsLine t := by
  cases c with
  | powerOn a b d =>
    cases e
    exact ⟨fun _ => (powerOn_inForm a b d s).1, fun _ _ _ => (powerOn_inForm a b d s).2⟩
  | moduleRestart =>
    unfold exec execModuleRestart at e
    dsimp only at e
    split at e
    · rename_i k _
      cases e
      exact ⟨fun h => (restartModule_inForm k h.2.1).1, fun h _ _ => (restartModule_inForm k h.2.1).2⟩
    · cases e
      exact (refl s).keepsLine
  | sampleArrival n v now =>
    cases e
    exact .within (State.begin_keepsTables now s) (sample_keepsLine n v _) (finish_keepsTables _)
  | _ =>
    refine (exec_keepsTables ?_ e).keepsLine
    exact trivial

end Sys2Proof.Machine

open Sys2Proof Sys2Proof.Machine in
/-- Settles O54: a step is `exec` of the front command on the rest of the queue, and every command keeps the tables. -/
theorem tablesKept : Obligations.TablesKept := by
  unfold Obligations.TablesKept
  intro kept room s t hs hstep
  unfold step at hstep
  split at hstep
  · cases hstep
    exact ⟨hs, fun ordered _ => ordered⟩
  · have line := exec_keepsLine _ hstep
    exact ⟨line.inForm hs, line.ordered hs⟩
end

section
/-! SUPPORT. The granting of slots and the ending of waits as equations (R9, R14, R16): the held replies fill the free
slots in posting order, and what the wait table and the reply queue become depends on nothing else. -/

namespace Sys2Proof.Machine

/-! ### Held replies in posting order -/

/-- The parts of the held replies of a table, in posting order. -/
def heldParts (l : List WaitEntry) : List ReplyPart :=
  l.filterMap fun e =>
    match e.state with
    | .held r => some (e.part r)
    | .waiting => none

/-- A table without its first `n` held entries. -/
def dropHeld : Nat → List WaitEntry → List WaitEntry
  | 0, l => l
  | _ + 1, [] => []
  | n + 1, e :: l =>
    match e.state with
    | .held _ => dropHeld n l
    | .waiting => e :: dropHeld (n + 1) l

@[simp] theorem dropHeld_zero (l : List WaitEntry) : dropHeld 0 l = l := by
  simp [dropHeld]

theorem heldParts_cons_held {e : WaitEntry} {r : Reply} (h : e.state = .held r) (l : List WaitEntry) :
    heldParts (e :: l) = e.part r :: heldParts l := by
  simp [heldParts, h]

theorem heldParts_cons_waiting {e : WaitEntry} (h : e.state = .waiting) (l : List WaitEntry) :
    heldParts (e :: l) = heldParts l := by
  simp [heldParts, h]

theorem dropHeld_cons_held {e : WaitEntry} {r : Reply} (h : e.state = .held r) (n : Nat) (l : List WaitEntry) :
    dropHeld (n + 1) (e :: l) = dropHeld n l := by
  simp [dropHeld, h]

theorem dropHeld_cons_waiting {e : WaitEntry} (h : e.state = .waiting) (n : Nat) (l : List WaitEntry) :
    dropHeld n (e :: l) = e :: dropHeld n l := by
  cases n with
  | zero => simp [dropHeld]
  | succ n => simp [dropHeld, h]

@[simp] theorem dropHeld_nil (n : Nat) : dropHeld n [] = [] := by
  cases n <;> rfl

theorem heldParts_dropHeld (n : Nat) (l : List WaitEntry) : heldParts (dropHeld n l) = (heldParts l).drop n := by
  induction l generalizing n with
  | nil => simp [heldParts]
  | cons e l ih =>
    cases h : e.state with
    | waiting => rw [dropHeld_cons_waiting h, heldParts_cons_waiting h, heldParts_cons_waiting h, ih]
    | held r =>
      cases n with
      | zero => rfl
      | succ n => rw [dropHeld_cons_held h, heldParts_cons_held h, List.drop_succ_cons, ih]

theorem dropHeld_dropHeld (m n : Nat) (l : List WaitEntry) : dropHeld m (dropHeld n l) = dropHeld (n + m) l := by
  induction l generalizing n with
  | nil => simp
  | cons e l ih =>
    cases h : e.state with
    | waiting => rw [dropHeld_cons_waiting h, dropHeld_cons_waiting h, dropHeld_cons_waiting h, ih]
    | held r =>
      cases n with
      | zero => rw [Nat.zero_add]; rfl
      | succ n => rw [dropHeld_cons_held h, Nat.succ_add, dropHeld_cons_held h, ih]

/-- Dropping beyond the last held entry drops no more. -/
theorem dropHeld_of_le {n m : Nat} {l : List WaitEntry} (hn : (heldParts l).length ≤ n) (hm : (heldParts l).length ≤ m) :
    dropHeld n l = dropHeld m l := by
  induction l generalizing n m with
  | nil => simp
  | cons e l ih =>
    cases h : e.state with
    | waiting =>
      rw [heldParts_cons_waiting h] at hn hm
      rw [dropHeld_cons_waiting h, dropHeld_cons_waiting h, ih hn hm]
    | held r =>
      rw [heldParts_cons_held h] at hn hm
      obtain ⟨n, rfl⟩ : ∃ k, n = k + 1 := Nat.exists_eq_succ_of_ne_zero (by simp at hn; omega)
      obtain ⟨m, rfl⟩ : ∃ k, m = k + 1 := Nat.exists_eq_succ_of_ne_zero (by simp at hm; omega)
      rw [dropHeld_cons_held h, dropHeld_cons_held h]
      exact ih (by simpa using hn) (by simpa using hm)

/-- A table holds no reply exactly if all its entries wait. -/
theorem heldParts_eq_nil {l : List WaitEntry} : heldParts l = [] ↔ ∀ e ∈ l, e.state = .waiting := by
  induction l with
  | nil => simp [heldParts]
  | cons e l ih =>
    cases h : e.state with
    | waiting => simp [heldParts_cons_waiting h, ih, h]
    | held r => simp [heldParts_cons_held h, h]

/-- Without a held entry nothing is dropped. -/
theorem dropHeld_of_waiting {l : List WaitEntry} (h : heldParts l = []) (n : Nat) : dropHeld n l = l :=
  (dropHeld_of_le (m := 0) (by rw [h]; exact Nat.zero_le _) (by rw [h]; exact Nat.le_refl _)).trans (by simp)

theorem heldParts_length_le (l : List WaitEntry) : (heldParts l).length ≤ l.length :=
  List.length_filterMap_le _ _

/-- The first held entry is the first of the held parts, and the table without it is the table that it leaves. -/
theorem takeHeld_eq (l : List WaitEntry) : takeHeld l = (heldParts l).head?.map fun p => (p, dropHeld 1 l) := by
  induction l with
  | nil => rfl
  | cons e l ih =>
    cases h : e.state with
    | waiting =>
      rw [heldParts_cons_waiting h, dropHeld_cons_waiting h]
      simp only [takeHeld, h, ih]
      cases (heldParts l).head? <;> rfl
    | held r =>
      rw [heldParts_cons_held h, dropHeld_cons_held h]
      simp [takeHeld, h]

theorem dropHeld_sublist (n : Nat) (l : List WaitEntry) : (dropHeld n l).Sublist l := by
  induction l generalizing n with
  | nil => simp
  | cons e l ih =>
    cases h : e.state with
    | waiting => rw [dropHeld_cons_waiting h]; exact (ih n).cons_cons e
    | held r =>
      cases n with
      | zero => exact .refl _
      | succ n => rw [dropHeld_cons_held h]; exact (ih n).cons e

theorem dropHeld_filter_waiting (n : Nat) (l : List WaitEntry) :
    (dropHeld n l).filter (fun e => e.state == .waiting) = l.filter fun e => e.state == .waiting := by
  induction l generalizing n with
  | nil => simp
  | cons e l ih =>
    cases h : e.state with
    | waiting => simp [dropHeld_cons_waiting h, h, ih]
    | held r =>
      cases n with
      | zero => rfl
      | succ n => simp [dropHeld_cons_held h, h, ih]

theorem dropHeld_filter_held (n : Nat) (l : List WaitEntry) :
    (dropHeld n l).filter (fun e => e.state != .waiting) = (l.filter fun e => e.state != .waiting).drop n := by
  induction l generalizing n with
  | nil => simp
  | cons e l ih =>
    cases h : e.state with
    | waiting => simp [dropHeld_cons_waiting h, h, ih]
    | held r =>
      cases n with
      | zero => rfl
      | succ n => simp [dropHeld_cons_held h, h, ih]

/-! ### Granting -/

/-- The free slots of the reply queue. -/
def State.freeSlots (s : State) : Nat := Config.replyQueueSize - s.li.replyQueue.length

/-- The state after the first `n` held replies have been placed. -/
def placeHeld (n : Nat) (s : State) : State :=
  s.putLi { s.li with
    waits := dropHeld n s.li.waits
    replyQueue := s.li.replyQueue ++ (heldParts s.li.waits).take n }

@[simp] theorem placeHeld_zero (s : State) : placeHeld 0 s = s := by
  simp [placeHeld, State.putLi]

theorem placeHeld_of_waiting {s : State} (h : heldParts s.li.waits = []) (n : Nat) : placeHeld n s = s := by
  simp [placeHeld, dropHeld_of_waiting h, h, State.putLi]

theorem State.slotFree_iff (s : State) : s.slotFree = true ↔ 0 < s.freeSlots := by
  simp [State.slotFree, State.freeSlots]

/-- With a slot free and a reply held, the first held reply is placed (R9). -/
theorem grantSlot_held {s : State} (free : s.slotFree = true) (h : heldParts s.li.waits ≠ []) :
    grantSlot s = placeHeld 1 s := by
  obtain ⟨p, rest, hp⟩ := List.exists_cons_of_ne_nil h
  have taken : takeHeld s.li.waits = some (p, dropHeld 1 s.li.waits) := by simp [takeHeld_eq, hp]
  simp [grantSlot, free, taken, placePart, placeHeld, hp, State.putLi]

/-- With none held and no claimant in the handler, or no slot, nothing is granted (R9). -/
theorem grantSlot_idle {s : State}
    (h : s.slotFree = true → heldParts s.li.waits = [] ∧ s.li.handler.claim = none) : grantSlot s = s := by
  unfold grantSlot
  split
  · rename_i free
    obtain ⟨none, claim⟩ := h free
    simp [takeHeld_eq, none, claim]
  · rfl

/-- With none held, the handler's claim is placed in a free slot (R9). -/
theorem grantSlot_claim {s : State} (free : s.slotFree = true) (h : heldParts s.li.waits = []) {p : ReplyPart} {k : Handler}
    (claim : s.li.handler.claim = some (p, k)) :
    grantSlot s = s.putLi { s.li with replyQueue := s.li.replyQueue ++ [p], handler := k } := by
  simp [grantSlot, free, takeHeld_eq, h, claim, placePart, State.putLi]

theorem placeHeld_placeHeld (m n : Nat) (s : State) : placeHeld m (placeHeld n s) = placeHeld (n + m) s := by
  simp only [placeHeld, State.putLi_keeps, dropHeld_dropHeld, heldParts_dropHeld, List.append_assoc]
  rw [← List.take_add]
  rfl

/-- The rounds of granting place held replies while slots are free, the handler claiming none. -/
theorem grantSlot_iterate (k : Nat) : ∀ s : State, (s.slotFree = true → s.li.handler.claim = none) →
    grantSlot^[k] s = placeHeld (min k s.freeSlots) s := by
  induction k with
  | zero => simp
  | succ k ih =>
    intro s claim
    rw [Function.iterate_succ_apply]
    by_cases free : s.slotFree = true
    · by_cases held : heldParts s.li.waits = []
      · rw [grantSlot_idle fun _ => ⟨held, claim free⟩, ih s claim, placeHeld_of_waiting held, placeHeld_of_waiting held]
      · have room := s.slotFree_iff.mp free
        have less : (placeHeld 1 s).freeSlots = s.freeSlots - 1 := by
          obtain ⟨p, rest, hp⟩ := List.exists_cons_of_ne_nil held
          simp [placeHeld, hp, State.freeSlots]
          omega
        have still : (placeHeld 1 s).slotFree = true → (placeHeld 1 s).li.handler.claim = none := fun _ => claim free
        rw [grantSlot_held free held, ih _ still, placeHeld_placeHeld, less]
        congr 1
        omega
    · have none : s.freeSlots = 0 := by
        have := mt s.slotFree_iff.mpr free
        omega
      rw [grantSlot_idle fun h => absurd h free, ih s claim, none]
      simp

theorem grantSlots_eq_iterate (s : State) : grantSlots s = grantSlot^[9] s := by
  simp only [grantSlots, Function.iterate_succ_apply', Function.iterate_zero, id]

/-- Granting places as many held replies as slots are free, unless more than 9 of both are waiting (R9). -/
theorem grantSlots_eq_of {s : State} (claim : s.slotFree = true → s.li.handler.claim = none)
    (most : s.freeSlots ≤ 9 ∨ (heldParts s.li.waits).length ≤ 9) : grantSlots s = placeHeld s.freeSlots s := by
  rw [grantSlots_eq_iterate, grantSlot_iterate 9 s claim]
  by_cases h : s.freeSlots ≤ 9
  · rw [Nat.min_eq_right h]
  · have most := most.resolve_left h
    rw [Nat.min_eq_left (by omega)]
    unfold placeHeld
    rw [dropHeld_of_le (n := 9) (m := s.freeSlots) (by omega) (by omega), List.take_of_length_le (by omega),
      List.take_of_length_le (by omega)]

theorem State.granted_iff (s : State) :
    s.Granted ↔ (s.slotFree = true → heldParts s.li.waits = [] ∧ s.li.handler.claim = none) := by
  simp [State.Granted, State.slotFree, heldParts_eq_nil]

/-- Where no claimant waits for a free slot, granting changes nothing. -/
theorem grantSlots_of_granted {s : State} (h : s.Granted) : grantSlots s = s := by
  have idle := grantSlot_idle ((State.granted_iff s).mp h)
  rw [grantSlots_eq_iterate]
  exact Function.iterate_fixed idle 9

/-- Granting leaves no claimant with a free slot. -/
theorem placeHeld_granted {s : State} (claim : s.slotFree = true → s.li.handler.claim = none) :
    (placeHeld s.freeSlots s).Granted := by
  rw [State.granted_iff]
  intro free
  have room := (State.slotFree_iff _).mp free
  simp only [State.freeSlots, placeHeld, State.putLi_keeps, List.length_append, List.length_take] at room
  refine ⟨?_, claim ((State.slotFree_iff s).mpr (by unfold State.freeSlots; omega))⟩
  have all : (heldParts s.li.waits).length ≤ Config.replyQueueSize - s.li.replyQueue.length := by omega
  simpa [placeHeld, heldParts_dropHeld, State.freeSlots] using all

/-! ### The ending of waits -/

/-- The wait table after the entries that `f` ends hold their replies. -/
def endedWaits (f : WaitEntry → Option Reply) (s : State) : List WaitEntry := s.li.waits.map (WaitEntry.endBy f)

/-- The state in which the entries that `f` ends hold their replies, before any is placed. -/
def endAll (f : WaitEntry → Option Reply) (s : State) : State := s.putLi { s.li with waits := endedWaits f s }

theorem endWaits_def (f : WaitEntry → Option Reply) (s : State) :
    endWaits f s = grantSlots (endAll f (grantSlots s)) := rfl

/-- Waits end with the held replies in the free slots, in posting order, unless more than 9 of both are waiting (R14,
R16). -/
theorem endWaits_eq_of {s : State} (h : s.Granted) {f : WaitEntry → Option Reply}
    (most : s.freeSlots ≤ 9 ∨ (heldParts (endedWaits f s)).length ≤ 9) :
    endWaits f s = placeHeld s.freeSlots (endAll f s) := by
  have claim : s.slotFree = true → s.li.handler.claim = none := fun free => ((State.granted_iff s).mp h free).2
  rw [endWaits_def, grantSlots_of_granted h]
  exact grantSlots_eq_of (s := endAll f s) claim most

/-- Waits end with the held replies in the free slots, in posting order (R14, R16). -/
theorem endWaits_eq {s : State} (h : s.Granted) (few : s.li.waits.length ≤ Config.waitTableSize)
    (f : WaitEntry → Option Reply) : endWaits f s = placeHeld s.freeSlots (endAll f s) :=
  endWaits_eq_of h (.inr (Nat.le_trans (heldParts_length_le _) (Nat.le_trans (List.length_map _).le (Nat.le_succ_of_le few))))

/-- After waits have ended, no claimant waits for a free slot. -/
theorem endWaits_granted_of {s : State} (h : s.Granted) {f : WaitEntry → Option Reply}
    (most : s.freeSlots ≤ 9 ∨ (heldParts (endedWaits f s)).length ≤ 9) : (endWaits f s).Granted := by
  rw [endWaits_eq_of h most]
  exact placeHeld_granted (s := endAll f s) fun free => ((State.granted_iff s).mp h free).2

theorem endWaits_granted {s : State} (h : s.Granted) (few : s.li.waits.length ≤ Config.waitTableSize)
    (f : WaitEntry → Option Reply) : (endWaits f s).Granted := by
  rw [endWaits_eq h few]
  exact placeHeld_granted (s := endAll f s) fun free => ((State.granted_iff s).mp h free).2

/-! ### What LI makes of the reports of an event -/

/-- All reports of the event, with PM's own behind them if it has become idle (R14, R143). -/
def State.allReports (s : State) : List Report :=
  s.reports ++ if s.plateBusy && !s.pm.busy then [.platesIdle] else []

/-- The state with other reports waiting for LI. -/
def State.reporting (s : State) (l : List Report) : State := { s with reports := l }

theorem grantSlot_reporting (s : State) (l : List Report) : grantSlot (s.reporting l) = (grantSlot s).reporting l := by
  have free : (s.reporting l).slotFree = s.slotFree := rfl
  unfold grantSlot
  rw [free]
  cases s.slotFree with
  | false => rfl
  | true =>
    show (match takeHeld s.li.waits with
      | some (p, rest) => placePart p ((s.reporting l).putLi { s.li with waits := rest })
      | none => match s.li.handler.claim with
        | some (p, h) => placePart p ((s.reporting l).putLi { s.li with handler := h })
        | none => s.reporting l) = _
    cases takeHeld s.li.waits with
    | some q => rfl
    | none => cases s.li.handler.claim <;> rfl

/-- The ending of waits does not look at the reports of the event. -/
theorem endWaits_reporting (f : WaitEntry → Option Reply) (s : State) (l : List Report) :
    endWaits f (s.reporting l) = (endWaits f s).reporting l := by
  have slots : ∀ u : State, grantSlots (u.reporting l) = (grantSlots u).reporting l := fun u => by
    simp only [grantSlots, grantSlot_reporting]
  have ended : ∀ u : State, endAll f (u.reporting l) = (endAll f u).reporting l := fun _ => rfl
  rw [endWaits_def, endWaits_def, slots, ended, slots]

theorem takeReports_eq (s : State) : takeReports s =
    { (if s.allReports.isEmpty then s else endWaits (fun e => e.firstMet s.allReports) s) with
      reports := [], plateBusy := false } := by
  have idle : idleReport s = s.reporting s.allReports := by
    unfold idleReport State.allReports
    split <;> simp [State.report, State.reporting]
  have reports : (s.reporting s.allReports).reports = s.allReports := rfl
  unfold takeReports
  rw [idle]
  dsimp only
  rw [reports, endWaits_reporting]
  generalize endWaits _ s = w
  cases s.allReports.isEmpty <;> rfl

/-- The wait table and the reply queue that the reports of an event leave, from those before, as `takeReports` makes
them. -/
theorem takeReports_waits {s : State} (h : s.Granted) (few : s.li.waits.length ≤ Config.waitTableSize) :
    (takeReports s).li.waits = dropHeld s.freeSlots (endedWaits (fun e => e.firstMet s.allReports) s) ∧
      (takeReports s).li.replyQueue =
        s.li.replyQueue ++ (heldParts (endedWaits (fun e => e.firstMet s.allReports) s)).take s.freeSlots ∧
      (takeReports s).Granted ∧ (takeReports s).li.handler = s.li.handler := by
  rw [takeReports_eq]
  split
  · rename_i none
    have all : s.allReports = [] := List.isEmpty_iff.mp none
    have unmet : endedWaits (fun e => e.firstMet s.allReports) s = s.li.waits := by
      unfold endedWaits
      rw [all]
      refine (List.map_congr_left fun e _ => ?_).trans (List.map_id _)
      unfold WaitEntry.endBy
      cases e.state <;> rfl
    rw [unmet]
    by_cases free : s.slotFree = true
    · have held := ((State.granted_iff s).mp h free).1
      rw [dropHeld_of_waiting held, held]
      exact ⟨rfl, by simp, h, rfl⟩
    · have full : s.freeSlots = 0 := by
        have := mt s.slotFree_iff.mpr free
        omega
      rw [full]
      exact ⟨by simp, by simp, h, rfl⟩
  · have granted := endWaits_granted h few fun e => e.firstMet s.allReports
    rw [endWaits_eq h few] at granted ⊢
    exact ⟨rfl, rfl, granted, rfl⟩

end Sys2Proof.Machine
end

section
/-! The occupied handler (O9), the transmitter (O10) and the granting of slots (O11). -/

namespace Sys2Proof.Machine

/-! ### The request commands -/

/-- The command of each row takes the request of its kind and length for some owner (R5, R8). -/
theorem requestRows_owner {row : (RunTime → Instr) × Nat × Nat} (h : row ∈ requestRows) :
    ∃ owner, ∀ now s, exec (row.1 now) s = .next (takeRequest row.2.1 row.2.2 now owner s) := by
  simp only [requestRows, List.mem_cons, List.not_mem_nil, or_false] at h
  rcases h with h | h | h | h | h | h | h | h | h | h | h | h | h | h | h | h | h | h | h | h | h | h | h | h | h | h | h <;>
    exact h ▸ ⟨_, fun _ _ => rfl⟩

/-! ### The transmitter -/

theorem startFrame_refusal {s : State} {p : ReplyPart} (free : s.li.line = .free) (h : s.li.refusal = some p) :
    startFrame s = s.putLi { s.li with line := .busy p.frame } := by
  simp [startFrame, free, h]

theorem startFrame_part {s : State} {p : ReplyPart} {rest : List ReplyPart} (free : s.li.line = .free)
    (h : s.li.refusal = none) (hq : s.li.replyQueue = p :: rest) :
    startFrame s = s.putLi { s.li with line := .part p.frame } := by
  simp [startFrame, free, h, hq]

theorem startFrame_idle {s : State} (h : s.li.line ≠ .free ∨ s.li.refusal = none ∧ s.li.replyQueue = []) :
    startFrame s = s := by
  cases hl : s.li.line with
  | busy f => simp [startFrame, hl]
  | part f => simp [startFrame, hl]
  | free =>
    obtain ⟨none, empty⟩ := h.resolve_left fun k => k hl
    simp [startFrame, hl, none, empty]

theorem completeFrame_busy {s : State} {f : List Byte} (h : s.li.line = .busy f) :
    completeFrame s = s.putLi { s.li with line := .free, refusal := none } := by
  simp [completeFrame, h]

theorem completeFrame_part {s : State} {f : List Byte} {p : ReplyPart} {rest : List ReplyPart} (h : s.li.line = .part f)
    (hq : s.li.replyQueue = p :: rest) :
    completeFrame s =
      s.putLi { s.li with line := .free, replyQueue := rest, handler := s.li.handler.partLeft p.origin } := by
  simp [completeFrame, h, hq]

/-! ### LI after power-on and restart -/

/-- With an empty wait table and an idle handler, the end of an event leaves LI as it is, whatever it reports (R14). -/
theorem finish_li_of_empty {s : State} (empty : s.li.waits = []) (idle : s.li.handler.claim = none) :
    (finish s).li = s.li := by
  have few : s.li.waits.length ≤ Config.waitTableSize := by simp [empty]
  have granted : s.Granted := (State.granted_iff s).mpr fun _ => ⟨by simp [empty, heldParts], idle⟩
  show (sendRecords (takeReports s)).li = _
  rw [(sendRecords_keeps _).2.2.2.1, takeReports_eq]
  split
  · rfl
  · rw [endWaits_eq granted few]
    simp [placeHeld, endAll, endedWaits, empty, heldParts]
    rw [← empty]

@[simp] theorem reportInputs_li (s : State) : (reportInputs s).li = s.li := by
  simp [reportInputs]

/-- LI at power-on (R43). -/
theorem powerOn_li (e g o : Level) (s : State) : (powerOn e g o s).li = .initial :=
  (finish_li_of_empty (by simp; rfl) (by simp; rfl)).trans (reportInputs_li _)

theorem reopenStation_li (s : State) : (reopenStation s).li = s.li := by
  unfold reopenStation
  split <;> simp [resetOpenAtDepth]

/-- LI after a restart is as at power-on (R44, R45). -/
theorem restartModule_li (k : Bool) (s : State) : (restartModule k s).li = .initial := by
  have li : (if k = true then reopenStation (keepRecord s (restartState s)) else restartState s).li = .initial := by
    split
    · exact (reopenStation_li _).trans rfl
    · rfl
  unfold restartModule
  rw [finish_li_of_empty] <;> simp only [reportInputs_li, li] <;> rfl

/-- The restart follows its reply's leaving (R26). -/
theorem exec_moduleRestart {s : State} {k : Bool} (h : s.li.handler = .restarting k .left) :
    exec .moduleRestart s = .next (restartModule k s) := by
  simp [exec, execModuleRestart, h]

/-- Every command keeps the bound of the reply queue (R7). -/
theorem exec_replyQueue (c : Instr) {s t : State} (e : exec c s = .next t)
    (h : s.li.replyQueue.length ≤ Config.replyQueueSize) : t.li.replyQueue.length ≤ Config.replyQueueSize := by
  cases c with
  | powerOn a b d =>
    cases e
    rw [powerOn_li]
    exact Nat.zero_le _
  | moduleRestart =>
    unfold exec execModuleRestart at e
    dsimp only at e
    split at e
    · cases e
      rw [restartModule_li]
      exact Nat.zero_le _
    · cases e
      exact h
  | sampleArrival n v now =>
    cases e
    exact (finish_keepsTables _).replies (by simpa using h)
  | _ =>
    refine (exec_keepsTables ?_ e).replies h
    exact trivial

/-! ### The granted slot -/

/-- The first held entry of a table, and the table without it (R9). -/
theorem takeHeld_first {older newer : List WaitEntry} {e : WaitEntry} {r : Reply}
    (waiting : ∀ d ∈ older, d.state = .waiting) (held : e.state = .held r) :
    takeHeld (older ++ e :: newer) = some (e.part r, older ++ newer) := by
  induction older with
  | nil => simp [takeHeld, held]
  | cons d older ih =>
    have hd : d.state = .waiting := waiting d (List.mem_cons_self ..)
    simp [takeHeld, hd, ih fun d' h => waiting d' (List.mem_cons_of_mem _ h)]

/-- Granting a slot is an event of LI alone (R9). -/
theorem replySlotGranted_becomes {s : State} (now : RunTime) {li : LineInterface}
    (h : grantSlot (s.begin now) = (s.begin now).putLi li) :
    ∃ t, exec (.replySlotGranted now) s = .next t ∧ s.LineBecomes t now li :=
  ⟨_, rfl, event_lineBecomes h⟩

end Sys2Proof.Machine

open Sys2Proof Sys2Proof.Machine in
/-- Settles O9: every request command is the taking of a request, which finds none. -/
theorem handlerOccupied : Obligations.HandlerOccupied := by
  unfold Obligations.HandlerOccupied
  intro s now row hrow h
  obtain ⟨owner, he⟩ := requestRows_owner hrow
  exact ⟨_, he now s, takeRequest_idle h ▸ event_idle rfl⟩

open Sys2Proof Sys2Proof.Machine in
/-- Settles O10: the transmitter by the cases of the line, the bound of the reply queue by the tables that every command
keeps. -/
theorem transmitterSends : Obligations.TransmitterSends := by
  unfold Obligations.TransmitterSends
  refine ⟨fun s now => ⟨fun p free refusal => ?_, fun p rest free refusal hq => ?_, fun h => ?_, fun f h => ?_,
    fun f p rest h hq => ?_⟩, fun c s t h e => exec_replyQueue c e h, fun s e g o => ?_, fun s k h => ?_⟩
  · exact ⟨_, rfl, event_lineBecomes (startFrame_refusal free refusal)⟩
  · exact ⟨_, rfl, event_lineBecomes (startFrame_part free refusal hq)⟩
  · exact ⟨_, rfl, event_idle (startFrame_idle h)⟩
  · exact ⟨_, rfl, event_lineBecomes (completeFrame_busy h)⟩
  · exact ⟨_, rfl, event_lineBecomes (completeFrame_part h hq)⟩
  · exact ⟨_, rfl, by rw [powerOn_li]; exact ⟨rfl, rfl⟩⟩
  · exact ⟨_, exec_moduleRestart h, by rw [restartModule_li]; exact ⟨rfl, rfl⟩⟩

open Sys2Proof Sys2Proof.Machine in
/-- Settles O11: `grantSlot` in the cases of the slot, the wait table and the handler. -/
theorem slotGranted : Obligations.SlotGranted := by
  unfold Obligations.SlotGranted
  intro s now granted placed
  have idle : (s.slotFree = true → heldParts s.li.waits = [] ∧ s.li.handler.claim = none) → granted s.li :=
    fun h => replySlotGranted_becomes now (grantSlot_idle h)
  refine ⟨fun full => idle fun free => ?_, fun room => ⟨fun older e newer r split waiting held => ?_, fun waiting => ?_⟩⟩
  · have room : s.li.replyQueue.length < 16 := of_decide_eq_true free
    exact absurd full (Nat.not_le_of_lt room)
  · have free : (s.begin now).slotFree = true := decide_eq_true room
    have taken : takeHeld (s.begin now).li.waits = some (e.part r, older ++ newer) := split ▸ takeHeld_first waiting held
    refine replySlotGranted_becomes now ?_
    unfold grantSlot
    rw [if_pos free, taken]
    rfl
  · have free : (s.begin now).slotFree = true := decide_eq_true room
    have none : heldParts s.li.waits = [] := heldParts_eq_nil.mpr waiting
    have claim : ∀ p h, s.li.handler.claim = some (p, h) → placed p h := fun p h hc =>
      replySlotGranted_becomes now (grantSlot_claim free none hc)
    refine ⟨fun h => idle fun _ => ⟨none, h⟩, fun p h => claim _ _ (by rw [h]; rfl), fun st p h phase => ?_,
      fun k p h => claim _ _ (by rw [h]; rfl)⟩
    exact claim _ _ (by rw [h]; simp [Handler.claim, phase])
end

section
/-! The reports that an event takes to LI, and the wait table: the order of the replies (O12), AWAIT (O14), the ends of
waits (O15) and RESTART (O19). -/

namespace Sys2Proof.Machine

/-! ### What LI takes -/

theorem Manifold.busy_iff (m : Manifold) : m.busy = true ↔ m.move ≠ none ∨ ∃ p : Plate, m.table.get p ≠ none := by
  have all : ∀ p : Plate, p ∈ Plate.all := by decide
  simp [Manifold.busy, all, Option.isSome_iff_ne_none]

/-- States whose LI holds the same waits, parts and handler, and that report the same, have the same waits and parts after
the reports (R14). -/
theorem takeReports_congr {x y : State} (granted : x.Granted) (few : x.li.waits.length ≤ Config.waitTableSize)
    (waits : y.li.waits = x.li.waits) (replies : y.li.replyQueue = x.li.replyQueue)
    (handler : y.li.handler = x.li.handler) (reports : y.allReports = x.allReports) :
    (takeReports y).li.waits = (takeReports x).li.waits ∧
      (takeReports y).li.replyQueue = (takeReports x).li.replyQueue := by
  have slots : y.freeSlots = x.freeSlots := by simp only [State.freeSlots, replies]
  have grantedY : y.Granted := by
    unfold State.Granted
    rw [waits, replies, handler]
    exact granted
  have ended : ∀ f, endedWaits f y = endedWaits f x := fun f => by simp only [endedWaits, waits]
  obtain ⟨wx, qx, -, -⟩ := takeReports_waits granted few
  obtain ⟨wy, qy, -, -⟩ := takeReports_waits grantedY (waits ▸ few)
  exact ⟨by rw [wy, wx, slots, ended, reports], by rw [qy, qx, slots, ended, reports, replies]⟩

/-- An event whose LI takes `reports` from the waits, parts and handler that it found has reported them (R9, R14). -/
theorem State.Reported.of_takeReports {s x t : State} {reports : List Report} (waits : x.li.waits = s.li.waits)
    (replies : x.li.replyQueue = s.li.replyQueue) (handler : x.li.handler = s.li.handler) (hr : x.reports = reports)
    (hb : x.plateBusy = s.pm.busy) (hm : t.pm.busy = x.pm.busy)
    (taken : x.Granted → x.li.waits.length ≤ Config.waitTableSize →
      t.li.waits = (takeReports x).li.waits ∧ (takeReports x).li.replyQueue <+: t.li.replyQueue) :
    s.Reported t reports := by
  intro granted few
  dsimp only
  have busy : decide (s.pm.move ≠ none ∨ ∃ p : Plate, s.pm.table.get p ≠ none) = s.pm.busy := by
    rw [Bool.eq_iff_iff, decide_eq_true_eq, Manifold.busy_iff]
  have grantedX : x.Granted := by
    unfold State.Granted
    rw [waits, replies, handler]
    exact granted
  have fewX : x.li.waits.length ≤ Config.waitTableSize := waits ▸ few
  rw [busy]
  generalize hy : ({ t with li := s.li, reports := reports, plateBusy := s.pm.busy } : State) = y
  have li : y.li = s.li := by rw [← hy]
  have all : y.allReports = x.allReports := by
    rw [← hy]
    simp only [State.allReports, hr, hb, hm]
  obtain ⟨w, q⟩ := takeReports_congr grantedX fewX (by rw [li, waits]) (by rw [li, replies]) (by rw [li, handler]) all
  rw [w, q]
  exact taken grantedX fewX

/-- The records on the field line leave PM as idle as it was (R135, R143). -/
@[simp] theorem sendRecords_busy (s : State) : (sendRecords s).pm.busy = s.pm.busy := by
  have same : (sendRecords s).pm.unsent = s.pm.unsent := congrArg Blocks.pm (sendRecords_blocks s)
  exact (congrArg Manifold.busy same : (sendRecords s).pm.unsent.busy = s.pm.unsent.busy)

@[simp] theorem finish_busy (s : State) : (finish s).pm.busy = s.pm.busy := by
  simp [finish]

/-- The end of an event takes its reports (R14). -/
theorem finish_reported {s x : State} {reports : List Report} (waits : x.li.waits = s.li.waits)
    (replies : x.li.replyQueue = s.li.replyQueue) (handler : x.li.handler = s.li.handler) (hr : x.reports = reports)
    (hb : x.plateBusy = s.pm.busy) : s.Reported (finish x) reports :=
  .of_takeReports waits replies handler hr hb (finish_busy x) fun _ _ => by
    unfold finish
    rw [(sendRecords_keeps _).2.2.2.1]
    exact ⟨rfl, List.prefix_rfl⟩

/-- As `finish_reported`, of an action that keeps LI (R14). -/
theorem event_reported {s : State} {now : RunTime} {f : State → State} {reports : List Report}
    (li : (f (s.begin now)).li = s.li) (hr : (f (s.begin now)).reports = reports)
    (hb : (f (s.begin now)).plateBusy = s.pm.busy) : s.Reported (event now f s) reports :=
  finish_reported (by rw [li]) (by rw [li]) (by rw [li]) hr hb

/-- Where no claimant waits for a free slot, the handler's reply takes one, or the handler waits for it (R8, R9). -/
theorem handlerReply_eq {s : State} (h : s.Granted) (p : ReplyPart) :
    handlerReply p s = if s.slotFree then placePart p s else s.putLi { s.li with handler := .placing p } := by
  unfold handlerReply
  rw [grantSlots_of_granted h]

/-- A request's reports are taken before its reply is placed (R8, R14, log entry 7). -/
theorem answerPlaced_reported {s x : State} {r : Request} {reply : Reply} {reports : List Report}
    (waits : x.li.waits = s.li.waits) (replies : x.li.replyQueue = s.li.replyQueue)
    (handler : x.li.handler = s.li.handler) (hr : x.reports = reports) (hb : x.plateBusy = s.pm.busy) :
    s.Reported (answerPlaced r (x, some reply)) reports := by
  have placed : answerPlaced r (x, some reply) =
      sendRecords (handlerReply (singlePart r.kind r.tag reply) (takeReports x)) := rfl
  obtain ⟨u, -, taken⟩ := takeReports_line x
  have pm : (handlerReply (singlePart r.kind r.tag reply) (takeReports x)).pm = x.pm := by
    have keep : ∀ (p : ReplyPart) (v : State), (handlerReply p v).pm = v.pm := fun p v => by
      have li := (grantSlots_lineOnly v).1
      unfold handlerReply
      generalize grantSlots v = g at li ⊢
      dsimp only
      split
      · exact (congrArg State.pm li :)
      · exact (congrArg State.pm li :)
    rw [keep]
    simp
  refine .of_takeReports waits replies handler hr hb ?_ fun granted few => ?_
  · rw [placed, sendRecords_busy, pm]
  · rw [placed, (sendRecords_keeps _).2.2.2.1, handlerReply_eq (takeReports_waits granted few).2.2.1]
    split
    · exact ⟨rfl, List.prefix_append _ _⟩
    · exact ⟨rfl, List.prefix_rfl⟩

/-! ### The reports that meet a wait -/

/-- An entry that WAITS ends with the reply that `f` gives it; any other stays (R14 to R16). -/
theorem WaitEntry.endBy_eq (f : WaitEntry → Option Reply) (e : WaitEntry) : e.endBy f =
    match e.state, f e with
    | .waiting, some r => { e with state := .held r }
    | _, _ => e := by
  unfold WaitEntry.endBy
  cases e.state <;> cases f e <;> rfl

/-- No report that fails to meet a wait ends it (R14). -/
theorem WaitEntry.firstMet_none {e : WaitEntry} {reports : List Report} (h : ∀ r ∈ reports, e.metBy r = none) :
    e.firstMet reports = none := by
  rw [WaitEntry.firstMet, List.findSome?_eq_none_iff.mpr h]
  rfl

/-- The first report that meets a wait gives its reply (R14). -/
theorem WaitEntry.firstMet_split {e : WaitEntry} {earlier later : List Report} {r : Report} {data : List Byte}
    (h : ∀ q ∈ earlier, e.metBy q = none) (met : e.metBy r = some data) :
    e.firstMet (earlier ++ r :: later) = some ⟨.done, data⟩ := by
  rw [WaitEntry.firstMet, List.findSome?_append, List.findSome?_eq_none_iff.mpr h, List.findSome?_cons, met]
  rfl

/-! ### AWAIT and its ends -/

/-- A request whose owner changes LI alone and places no reply yet (R8). -/
theorem answerPlaced_none {s : State} {now : RunTime} {r : Request} {rest : List Request} (li : LineInterface) :
    s.LineBecomes (answerPlaced r ((s.taken now rest).putLi li, none)) now li := by
  have finished : answerPlaced r ((s.taken now rest).putLi li, none) = finish ((s.taken now rest).putLi li) := rfl
  rw [finished]
  refine ⟨by simp, by simp, (finish_blocks _).trans rfl, ?_⟩
  exact finish_li ((State.taken_noReport s now rest).of_eq rfl rfl rfl)

/-- The argument test of AWAIT (R13 step 2). -/
theorem WaitCond.argAllowed_iff (c : WaitCond) (arg : Int) : c.argAllowed arg = false ↔
    c = .station ∧ arg ≠ -1 ∧ ¬(0 ≤ arg ∧ arg ≤ 511) ∨ c = .attributed ∧ ¬(0 ≤ arg ∧ arg ≤ 511) := by
  have top : (Config.logTop : Int) = 511 := rfl
  cases c <;> simp [WaitCond.argAllowed, top]

/-- The conditions that hold already at posting (R13 step 4). -/
theorem State.alreadyMet_iff (s : State) (c : WaitCond) (arg : Int) : s.alreadyMet c arg = true ↔
    c = .depth ∧ arg ≤ s.di.depth ∨ c = .platesIdle ∧ s.pm.move = none ∧ ∀ p : Plate, s.pm.table.get p = none := by
  have busy : (s.pm.busy = false) ↔ s.pm.move = none ∧ ∀ p : Plate, s.pm.table.get p = none := by
    rw [← Bool.not_eq_true, Manifold.busy_iff]
    simp
  cases c <;> simp [State.alreadyMet, busy]

end Sys2Proof.Machine

open Sys2Proof Sys2Proof.Machine in
/-- Settles O12: the ending of waits as the placing of held parts, the first report met, and `takeReports` as one ending of
waits. -/
theorem waitRepliesInOrder : Obligations.WaitRepliesInOrder := by
  unfold Obligations.WaitRepliesInOrder
  refine ⟨fun f s granted few room => ?_, fun e reports => ?_, fun s => ?_⟩
  · intro ended due slots t
    have hended : ended = endedWaits f s := List.map_congr_left fun e _ => (WaitEntry.endBy_eq f e).symm
    have hdue : due = heldParts ended := rfl
    have ht : t = placeHeld s.freeSlots (endAll f s) := endWaits_eq granted few f
    rw [ht, hdue, hended]
    exact ⟨rfl, rfl, dropHeld_sublist _ _, dropHeld_filter_waiting _ _, dropHeld_filter_held _ _⟩
  · intro meets
    have met : ∀ r, meets r = e.metBy r := by
      intro r
      cases r with
      | station q => cases h : e.cond <;> simp [meets, WaitEntry.metBy, h]
      | depth d => cases h : e.cond <;> simp [meets, WaitEntry.metBy, h]
      | trip i => cases h : e.cond <;> simp [meets, WaitEntry.metBy, h, encode]; rfl
      | mode m => cases h : e.cond <;> cases m <;> simp [meets, WaitEntry.metBy, h] <;> rfl
      | platesIdle => cases h : e.cond <;> simp [meets, WaitEntry.metBy, h]
      | attributed k => cases h : e.cond <;> simp [meets, WaitEntry.metBy, h]
    simp only [met]
    exact ⟨WaitEntry.firstMet_none, fun earlier r later data split none some => split ▸ WaitEntry.firstMet_split none some⟩
  · have busy : (s.pm.move = none ∧ ∀ p : Plate, s.pm.table.get p = none) ↔ s.pm.busy = false := by
      rw [← Bool.not_eq_true, Manifold.busy_iff]
      simp
    have all : (s.reports ++ if s.plateBusy = true ∧ s.pm.move = none ∧ (∀ p : Plate, s.pm.table.get p = none) then
        [Report.platesIdle] else []) = s.allReports := by
      simp [State.allReports, busy]
    dsimp only
    rw [all, takeReports_eq]
    simp only [List.isEmpty_iff]

open Sys2Proof Sys2Proof.Machine in
/-- Settles O14: the tests of `postTests` in their order. -/
theorem awaitPosted : Obligations.AwaitPosted := by
  unfold Obligations.AwaitPosted
  intro s now r rest c takes cond arg timeout answered inLog
  have hc : waitCondOf (byteAt r.body 0) = some c := by
    simp only [List.mem_cons, Prod.mk.injEq, List.not_mem_nil, or_false] at cond
    rcases cond with ⟨e, rfl⟩ | ⟨e, rfl⟩ | ⟨e, rfl⟩ | ⟨e, rfl⟩ | ⟨e, rfl⟩ | ⟨e, rfl⟩ <;> rw [e] <;> rfl
  have taken : exec (.await now) s = .next (answerPlaced r (postTests r.tag c arg timeout (s.taken now rest))) := by
    have owner : ownAwait r (s.taken now rest) = postTests r.tag c arg timeout (s.taken now rest) := by
      simp only [ownAwait, hc]
      rfl
    rw [← owner, ← takeRequest_taken takes]
    rfl
  have refused : ∀ res, postTests r.tag c arg timeout (s.taken now rest) = refuse res (s.taken now rest) → answered res :=
    fun res h => ⟨_, taken.trans (by rw [h]; rfl), answerPlaced_only (Reply.refuse res) takes.1 takes.2.1⟩
  have posted : (s.taken now rest).li.waits = s.li.waits := rfl
  unfold postTests at taken refused
  split
  · rename_i long
    exact refused _ (if_pos long)
  rename_i short
  rw [if_neg short] at taken refused
  split
  · rename_i bad
    exact refused _ (if_pos (by rw [(c.argAllowed_iff arg).mpr bad]; rfl))
  rename_i good
  have allowed : c.argAllowed arg = true := by
    rw [← Bool.not_eq_false]
    exact mt (c.argAllowed_iff arg).mp good
  rw [if_neg (by simp [allowed])] at taken refused
  split
  · rename_i used
    exact refused _ (if_pos (by simpa using used))
  rename_i unused
  rw [if_neg (by simpa using unused)] at taken refused
  split
  · rename_i met
    have holds : (s.taken now rest).alreadyMet c arg = true := ((s.taken now rest).alreadyMet_iff c arg).mpr met
    exact refused .done (if_pos holds)
  rename_i unmet
  have fails : ¬(s.taken now rest).alreadyMet c arg = true := mt ((s.taken now rest).alreadyMet_iff c arg).mp unmet
  rw [if_neg fails] at taken refused
  split
  · rename_i full
    exact refused _ (if_pos full)
  · rename_i room
    have room : ¬Config.waitTableSize ≤ (s.taken now rest).li.waits.length := room
    rw [if_neg room] at taken
    exact ⟨_, taken, answerPlaced_none _⟩
end

section
/-! The ends of waits (O15) and RESTART (O19). -/

namespace Sys2Proof.Machine

/-! ### The end of one wait -/

theorem WaitEntry.endBy_none {f : WaitEntry → Option Reply} {e : WaitEntry} (h : e.state = .waiting → f e = none) :
    e.endBy f = e := by
  rw [WaitEntry.endBy_eq]
  cases hs : e.state with
  | waiting => simp [h hs]
  | held r => rfl

theorem endedWaits_of_none {f : WaitEntry → Option Reply} {s : State}
    (h : ∀ e ∈ s.li.waits, e.state = .waiting → f e = none) : endedWaits f s = s.li.waits :=
  (List.map_congr_left fun e he => WaitEntry.endBy_none (h e he)).trans (List.map_id _)

/-- The end of one wait leaves the others as they are (R16). -/
theorem endedWaits_one {f : WaitEntry → Option Reply} {s : State} {older newer : List WaitEntry} {e : WaitEntry} {r : Reply}
    (split : s.li.waits = older ++ e :: newer) (waiting : e.state = .waiting) (ends : f e = some r)
    (others : ∀ d ∈ older ++ newer, f d = none) :
    endedWaits f s = older ++ { e with state := .held r } :: newer := by
  have same : ∀ l : List WaitEntry, (∀ d ∈ l, f d = none) → l.map (WaitEntry.endBy f) = l := fun l h =>
    (List.map_congr_left fun d hd => WaitEntry.endBy_none fun _ => h d hd).trans (List.map_id _)
  have ended : e.endBy f = { e with state := .held r } := by simp [WaitEntry.endBy_eq, waiting, ends]
  rw [endedWaits, split, List.map_append, List.map_cons, ended,
    same older fun d h => others d (List.mem_append_left _ h),
    same newer fun d h => others d (List.mem_append_right _ h)]

/-- A full reply queue has no free slot, and only a wait that ends holds a reply (R9, R16). -/
theorem one_held {f : WaitEntry → Option Reply} {s : State} {older newer : List WaitEntry} {e : WaitEntry} {r : Reply}
    (granted : s.Granted) (split : s.li.waits = older ++ e :: newer) (waiting : e.state = .waiting) (ends : f e = some r)
    (others : ∀ d ∈ older ++ newer, f d = none) :
    s.freeSlots ≤ 9 ∨ (heldParts (endedWaits f s)).length ≤ 9 := by
  by_cases free : s.slotFree = true
  · have held := ((State.granted_iff s).mp granted free).1
    rw [split, heldParts, List.filterMap_append, List.append_eq_nil_iff] at held
    have old : heldParts older = [] := held.1
    have new : heldParts newer = [] := by
      have h : heldParts (e :: newer) = [] := held.2
      rwa [heldParts_cons_waiting waiting] at h
    refine .inr ?_
    rw [endedWaits_one split waiting ends others]
    have parts : heldParts (older ++ { e with state := .held r } :: newer) =
        heldParts older ++ heldParts ({ e with state := .held r } :: newer) := List.filterMap_append
    rw [parts, old, heldParts_cons_held (r := r) rfl, new]
    simp
  · exact .inl (by have := mt s.slotFree_iff.mpr free; omega)

theorem heldParts_append (l m : List WaitEntry) : heldParts (l ++ m) = heldParts l ++ heldParts m :=
  List.filterMap_append

/-- The one held entry of a table leaves it. -/
theorem dropHeld_one {older newer : List WaitEntry} {e : WaitEntry} {r : Reply} (old : heldParts older = [])
    (held : e.state = .held r) (new : heldParts newer = []) (n : Nat) :
    dropHeld (n + 1) (older ++ e :: newer) = older ++ newer := by
  induction older with
  | nil =>
    rw [List.nil_append, dropHeld_cons_held held, dropHeld_of_waiting new]
    rfl
  | cons d older ih =>
    have waiting := heldParts_eq_nil.mp old
    have hd : d.state = .waiting := waiting d (List.mem_cons_self ..)
    rw [List.cons_append, dropHeld_cons_waiting hd, ih (heldParts_eq_nil.mpr fun d h => waiting d (List.mem_cons_of_mem _ h)),
      List.cons_append]

/-- The wait that ends gets its reply: placed in a free slot, or held in the table (R16). -/
theorem endWaits_one {f : WaitEntry → Option Reply} {s : State} {older newer : List WaitEntry} {e : WaitEntry} {r : Reply}
    (granted : s.Granted) (split : s.li.waits = older ++ e :: newer) (waiting : e.state = .waiting) (ends : f e = some r)
    (others : ∀ d ∈ older ++ newer, f d = none) :
    endWaits f s = s.putLi (if s.slotFree
      then { s.li with waits := older ++ newer, replyQueue := s.li.replyQueue ++ [e.part r] }
      else { s.li with waits := older ++ { e with state := .held r } :: newer }) ∧ (endWaits f s).Granted := by
  have most := one_held granted split waiting ends others
  refine ⟨?_, endWaits_granted_of granted most⟩
  have ended := endedWaits_one split waiting ends others
  rw [endWaits_eq_of granted most]
  show s.putLi { s.li with
    waits := dropHeld s.freeSlots (endedWaits f s)
    replyQueue := s.li.replyQueue ++ (heldParts (endedWaits f s)).take s.freeSlots } = _
  rw [ended]
  by_cases free : s.slotFree = true
  · obtain ⟨n, hn⟩ : ∃ n, s.freeSlots = n + 1 := Nat.exists_eq_succ_of_ne_zero (Nat.ne_of_gt (s.slotFree_iff.mp free))
    have held := ((State.granted_iff s).mp granted free).1
    rw [split, heldParts_append, heldParts_cons_waiting waiting, List.append_eq_nil_iff] at held
    obtain ⟨old, new⟩ := held
    rw [if_pos free, hn, dropHeld_one old rfl new, heldParts_append, heldParts_cons_held rfl, old, new, List.nil_append,
      List.take_succ_cons, List.take_nil]
    rfl
  · have full : s.freeSlots = 0 := by
      have := mt s.slotFree_iff.mpr free
      omega
    rw [if_neg free, full]
    simp

/-- LI after the reply of a request whose owner reports nothing (R8). -/
theorem answerPlaced_li {u : State} {r : Request} {reply : Reply} (quiet : u.NoReport) (granted : u.Granted) :
    (answerPlaced r (u, some reply)).li = if u.slotFree
      then { u.li with replyQueue := u.li.replyQueue ++ [singlePart r.kind r.tag reply] }
      else { u.li with handler := .placing (singlePart r.kind r.tag reply) } := by
  have li : (takeReports u).li = u.li := takeReports_waiting u quiet.1 quiet.2
  have grantedT : (takeReports u).Granted := by
    unfold State.Granted
    rw [li]
    exact granted
  show (sendRecords (handlerReply (singlePart r.kind r.tag reply) (takeReports u))).li = _
  rw [(sendRecords_keeps _).2.2.2.1, handlerReply_eq grantedT]
  have free : (takeReports u).slotFree = u.slotFree := by simp only [State.slotFree, li]
  rw [free]
  split <;> simp [placePart, li]

/-! ### AWAIT_CANCEL -/

/-- The end of the waits with this tag (R17). -/
def cancelled (tag : Byte) (e : WaitEntry) : Option Reply := if e.tag = tag then some (Reply.refuse .cancelled) else none

/-- The end of the wait with this tag at its deadline (R15). -/
def timedOut (tag : Byte) (now : RunTime) (e : WaitEntry) : Option Reply :=
  if e.tag = tag ∧ timerDue e.deadline now then some (Reply.refuse .timedOut) else none

theorem waitExpiry_eq (tag : Byte) (s : State) : waitExpiry tag s = endWaits (timedOut tag s.runTime) s := rfl

/-- AWAIT_CANCEL of a tag with a WAITING entry (R17). -/
theorem ownAwaitCancel_found {r : Request} {tag : Byte} {s : State} (body : r.body = [tag])
    (h : ∃ e ∈ s.li.waits, e.tag = tag ∧ e.state = .waiting) : ownAwaitCancel r s = done (endWaits (cancelled tag) s) := by
  have any : (s.li.waits.any fun e => e.waitsWith tag) = true := by simpa [WaitEntry.waitsWith] using h
  unfold ownAwaitCancel
  rw [body]
  exact if_pos any

/-- AWAIT_CANCEL of a tag without a WAITING entry (R17). -/
theorem ownAwaitCancel_absent {r : Request} {tag : Byte} {s : State} (body : r.body = [tag])
    (h : ∀ e ∈ s.li.waits, e.tag = tag → e.state ≠ .waiting) : ownAwaitCancel r s = refuse .notFound s := by
  have none : ¬(s.li.waits.any fun e => e.waitsWith tag) = true := by simpa [WaitEntry.waitsWith] using h
  unfold ownAwaitCancel
  rw [body]
  exact if_neg none

/-- Without an entry that ends, nothing changes (R16). -/
theorem endWaits_of_none {f : WaitEntry → Option Reply} {s : State} (granted : s.Granted)
    (h : ∀ e ∈ s.li.waits, e.state = .waiting → f e = none) : endWaits f s = s := by
  have same : endAll f s = s := by
    unfold endAll
    rw [endedWaits_of_none h]
    rfl
  rw [endWaits_def, grantSlots_of_granted granted, same, grantSlots_of_granted granted]

/-- A request whose owner ends waits and reports nothing is answered, and the blocks outside LI stay (R8, R17). -/
theorem answerPlaced_ending {s : State} {now : RunTime} {r : Request} {rest : List Request} (f : WaitEntry → Option Reply)
    (reply : Reply) (hidle : s.li.handler = .idle) (hq : s.li.requestQueue = r :: rest) :
    s.Replied (answerPlaced r (endWaits f (s.taken now rest), some reply)) now r rest reply.result reply.data ∧
      (answerPlaced r (endWaits f (s.taken now rest), some reply)).blocks = s.blocks ∧
      (endWaits f (s.taken now rest)).NoReport := by
  have lineOnly := endWaits_lineOnly f (s.taken now rest)
  generalize endWaits f (s.taken now rest) = u at lineOnly ⊢
  have eq : u = (s.taken now rest).putLi u.li := lineOnly.1
  have quiet : u.NoReport := (State.taken_noReport s now rest).of_eq (congrArg State.reports eq :) (congrArg State.plateBusy eq :)
    (congrArg State.pm eq :)
  obtain ⟨replied, blocks, -⟩ := answerPlaced_replied (now := now) (u := u) (reply := reply) hidle hq
    ⟨(congrArg State.runTime eq :), (congrArg State.pending eq :)⟩ (by rw [← State.putLi, ← eq]; exact lineOnly)
  exact ⟨replied, blocks.trans (congrArg State.blocks eq :), quiet⟩

/-! ### RESTART -/

/-- A table of held entries gives up its oldest first (R9). -/
theorem dropHeld_of_held {l : List WaitEntry} (h : ∀ e ∈ l, e.state ≠ .waiting) (n : Nat) : dropHeld n l = l.drop n := by
  induction l generalizing n with
  | nil => simp
  | cons e l ih =>
    cases n with
    | zero => simp
    | succ n =>
      cases hs : e.state with
      | waiting => exact absurd hs (h e (List.mem_cons_self ..))
      | held r => rw [dropHeld_cons_held hs, ih fun d hd => h d (List.mem_cons_of_mem _ hd), List.drop_succ_cons]

/-- Every WAITING entry ends CANCELLED (R26). -/
def cancelEntry (e : WaitEntry) : WaitEntry :=
  if e.state = .waiting then { e with state := .held ⟨.cancelled, []⟩ } else e

/-- The wait table after every WAITING entry has ended CANCELLED (R26). -/
theorem endedWaits_cancelled (s : State) :
    endedWaits (fun _ => some (Reply.refuse .cancelled)) s = s.li.waits.map cancelEntry := by
  refine List.map_congr_left fun e _ => ?_
  rw [WaitEntry.endBy_eq]
  cases h : e.state <;> simp [cancelEntry, h, Reply.refuse]

theorem cancelEntry_held (e : WaitEntry) : (cancelEntry e).state ≠ .waiting := by
  unfold cancelEntry
  split
  · simp
  · assumption

/-- The parts of the cancelled waits, in posting order (R26). -/
theorem heldParts_cancelled {l : List WaitEntry} (h : ∀ e ∈ l, e.state = .waiting) :
    heldParts (l.map cancelEntry) = l.map fun e => ⟨0x94, e.tag, .cancelled, 0, true, [], .plain⟩ := by
  induction l with
  | nil => rfl
  | cons e l ih =>
    have waiting : e.state = .waiting := h e (List.mem_cons_self ..)
    have held : (cancelEntry e).state = .held ⟨.cancelled, []⟩ := by simp [cancelEntry, waiting]
    rw [List.map_cons, heldParts_cons_held held, ih fun d hd => h d (List.mem_cons_of_mem _ hd)]
    simp [cancelEntry, waiting]
    rfl

/-- With a slot free and no reply held, the handler's part is placed and nothing else (R9). -/
theorem grantSlots_claim {s : State} (free : s.slotFree = true) (none : heldParts s.li.waits = []) {p : ReplyPart}
    {k : Handler} (claim : s.li.handler.claim = some (p, k)) (idle : k.claim = Option.none) :
    grantSlots s = s.putLi { s.li with replyQueue := s.li.replyQueue ++ [p], handler := k } := by
  rw [grantSlots_eq_iterate, Function.iterate_succ_apply, grantSlot_claim free none claim]
  generalize hx : s.putLi { s.li with replyQueue := s.li.replyQueue ++ [p], handler := k } = x
  refine Function.iterate_fixed (grantSlot_idle fun _ => ?_) 8
  rw [← hx]
  exact ⟨none, idle⟩

/-- With no slot free nothing is granted (R9). -/
theorem grantSlots_full {s : State} (full : ¬s.slotFree = true) : grantSlots s = s := by
  rw [grantSlots_eq_iterate]
  exact Function.iterate_fixed (grantSlot_idle fun free => absurd free full) 9

/-- The state after the waits of a RESTART have been cancelled, with its DONE reply claiming a slot (R26). -/
def restartClaiming (k : Bool) (p : ReplyPart) (s : State) : State :=
  s.putLi { s.li with
    waits := (s.li.waits.map cancelEntry).drop s.freeSlots
    replyQueue := s.li.replyQueue ++ (heldParts (s.li.waits.map cancelEntry)).take s.freeSlots
    handler := .restarting k (.claiming p) }

/-- The replies that the cancelled waits hold are no more than the waits (R26). -/
theorem heldParts_cancelled_le (s : State) : (heldParts (s.li.waits.map cancelEntry)).length ≤ s.li.waits.length :=
  Nat.le_trans (heldParts_length_le _) (List.length_map _).le

/-- With more free slots than waits, the DONE reply of the RESTART takes the slot behind theirs (R9, R26). -/
theorem restartClaiming_room {s : State} (k : Bool) (p : ReplyPart) (room : s.li.waits.length < s.freeSlots) :
    grantSlots (restartClaiming k p s) = s.putLi { s.li with
      waits := [], replyQueue := s.li.replyQueue ++ heldParts (s.li.waits.map cancelEntry) ++ [p]
      handler := .restarting k .sending } := by
  have few := heldParts_cancelled_le s
  have empty : (s.li.waits.map cancelEntry).drop s.freeSlots = [] := by
    rw [List.drop_eq_nil_iff, List.length_map]
    omega
  have all : (heldParts (s.li.waits.map cancelEntry)).take s.freeSlots = heldParts (s.li.waits.map cancelEntry) :=
    List.take_of_length_le (by omega)
  have free : (restartClaiming k p s).slotFree = true := by
    refine decide_eq_true ?_
    unfold State.freeSlots at room
    show (s.li.replyQueue ++ (heldParts (s.li.waits.map cancelEntry)).take s.freeSlots).length < _
    rw [all, List.length_append]
    omega
  have none : heldParts (restartClaiming k p s).li.waits = [] := by
    show heldParts ((s.li.waits.map cancelEntry).drop s.freeSlots) = []
    rw [empty]
    rfl
  rw [grantSlots_claim free none (p := p) (k := .restarting k .sending) rfl rfl]
  unfold restartClaiming
  rw [all, empty]
  rfl

/-- With no more free slots than waits, the DONE reply of the RESTART waits behind theirs (R9, R26). -/
theorem restartClaiming_full {s : State} (k : Bool) (p : ReplyPart) (granted : s.Granted)
    (full : ¬s.li.waits.length < s.freeSlots) : grantSlots (restartClaiming k p s) = restartClaiming k p s := by
  refine grantSlots_full fun free => ?_
  have slot : (s.li.replyQueue ++ (heldParts (s.li.waits.map cancelEntry)).take s.freeSlots).length <
      Config.replyQueueSize := of_decide_eq_true free
  rw [List.length_append, List.length_take] at slot
  have room : s.li.replyQueue.length < Config.replyQueueSize := by omega
  have count : (heldParts (s.li.waits.map cancelEntry)).length = s.li.waits.length := by
    rw [heldParts_cancelled (granted room).1, List.length_map]
  unfold State.freeSlots at full slot
  omega

theorem ownRestart_eq {r : Request} {k : Bool} {s : State} (body : r.body = [if k then 1 else 0]) (granted : s.Granted)
    (few : s.li.waits.length ≤ Config.waitTableSize) :
    ownRestart r s = noReply (grantSlots (restartClaiming k (restartPart r) s)) := by
  have switch : switchOf (byteAt r.body 0) = some k := by
    rw [body]
    cases k <;> rfl
  have ended : cancelWaits s = s.putLi { s.li with
      waits := (s.li.waits.map cancelEntry).drop s.freeSlots
      replyQueue := s.li.replyQueue ++ (heldParts (s.li.waits.map cancelEntry)).take s.freeSlots } := by
    unfold cancelWaits
    rw [endWaits_eq granted few]
    unfold placeHeld endAll
    rw [endedWaits_cancelled]
    dsimp only [State.putLi]
    rw [dropHeld_of_held fun e he => by
      obtain ⟨d, -, rfl⟩ := List.mem_map.mp he
      exact cancelEntry_held d]
  unfold ownRestart
  rw [switch]
  dsimp only
  rw [ended]
  rfl

end Sys2Proof.Machine

open Sys2Proof Sys2Proof.Machine in
/-- Settles O15: one wait ends, by `endWaits_one`, or none. -/
theorem waitsEnd : Obligations.WaitsEnd := by
  unfold Obligations.WaitsEnd
  intro s now granted
  have room : ∀ u : State, u.li.replyQueue = s.li.replyQueue → (u.slotFree = true ↔ s.li.replyQueue.length < 16) :=
    fun u h => by rw [← h]; exact decide_eq_true_iff
  refine ⟨fun older e newer split waiting distinct => ?_, fun tag absent => ⟨?_, fun r rest takes body => ?_⟩⟩
  intro ends
  refine ⟨fun g deadline due => ?_, fun r rest takes body => ?_⟩
  · have endsE : timedOut e.tag now e = some (Reply.refuse .timedOut) := if_pos ⟨rfl, by
      rw [deadline]
      exact decide_eq_true due⟩
    have others : ∀ d ∈ older ++ newer, timedOut e.tag now d = none := fun d h => if_neg fun k => distinct d h k.1
    obtain ⟨eq, -⟩ := endWaits_one (s := s.begin now) granted split waiting endsE others
    obtain ⟨time, pending, blocks, li⟩ := event_lineBecomes (f := waitExpiry e.tag) eq
    have line : s.sameLine (event now (waitExpiry e.tag) s) ∧
        (event now (waitExpiry e.tag) s).li.handler = s.li.handler ∧
        (event now (waitExpiry e.tag) s).li.requestQueue = s.li.requestQueue := by
      unfold State.sameLine
      rw [li]
      split <;> exact ⟨⟨rfl, rfl, rfl, rfl, rfl⟩, rfl, rfl⟩
    refine ⟨_, rfl, ⟨time, pending, blocks, line.1, fun slot => ?_, fun full => ?_⟩, line.2⟩
    · rw [li, if_pos ((room (s.begin now) rfl).mpr slot)]
      exact ⟨rfl, [], List.nil_prefix, rfl⟩
    · rw [li, if_neg fun h => Nat.not_lt_of_le full ((room (s.begin now) rfl).mp h)]
      exact ⟨rfl, rfl⟩
  · have endsE : cancelled e.tag e = some (Reply.refuse .cancelled) := if_pos rfl
    have others : ∀ d ∈ older ++ newer, cancelled e.tag d = none := fun d h => if_neg (distinct d h)
    have found : ∃ d ∈ (s.taken now rest).li.waits, d.tag = e.tag ∧ d.state = .waiting :=
      ⟨e, by show e ∈ s.li.waits; simp [split], rfl, waiting⟩
    have step : exec (.awaitCancel now) s =
        .next (answerPlaced r (endWaits (cancelled e.tag) (s.taken now rest), some (Reply.ok []))) := by
      have owner := ownAwaitCancel_found body found
      rw [done] at owner
      rw [← owner, ← takeRequest_taken takes]
      rfl
    obtain ⟨eq, grantedU⟩ := endWaits_one (s := s.taken now rest) granted split waiting endsE others
    obtain ⟨replied, blocks, quiet⟩ := answerPlaced_ending (now := now) (cancelled e.tag) (Reply.ok []) takes.1 takes.2.1
    have li := answerPlaced_li (r := r) (reply := Reply.ok []) quiet grantedU
    refine ⟨_, step, replied, replied.1, replied.2.1, blocks, replied.2.2.2.1, fun slot => ?_, fun full => ?_⟩
    · rw [li, eq, if_pos ((room (s.taken now rest) rfl).mpr slot)]
      split
      · refine ⟨rfl, [⟨0x95, r.tag, .done, 0, true, [], .plain⟩], List.prefix_rfl, ?_⟩
        have kind : r.kind = 0x15 := BitVec.eq_of_toNat_eq takes.2.2.1
        refine (List.append_assoc ..).trans ?_
        rw [kind]
        rfl
      · exact ⟨rfl, [], List.nil_prefix, rfl⟩
    · have none : ¬(s.taken now rest).slotFree = true := fun h => Nat.not_lt_of_le full ((room (s.taken now rest) rfl).mp h)
      rw [li, eq, if_neg none]
      split
      · rename_i h
        exact absurd h none
      · exact ⟨rfl, rfl⟩
  · refine ⟨_, rfl, event_idle (endWaits_of_none (s := s.begin now) granted fun e he waiting => if_neg fun k => ?_)⟩
    exact absent e he k.1 waiting
  · obtain ⟨only, blocks⟩ := answerPlaced_only (now := now) (Reply.refuse .notFound) takes.1 takes.2.1
    have step : exec (.awaitCancel now) s =
        .next (answerPlaced r (s.taken now rest, some (Reply.refuse .notFound))) := by
      have owner := ownAwaitCancel_absent (s := s.taken now rest) body absent
      rw [refuse] at owner
      rw [← owner, ← takeRequest_taken takes]
      rfl
    refine ⟨_, step, only, blocks, ?_⟩
    rw [answerPlaced_li (State.taken_noReport s now rest) granted]
    split <;> rfl

open Sys2Proof Sys2Proof.Machine in
/-- Settles O19: the cancelled replies fill the free slots, and the reply of the RESTART the next one. -/
theorem restartTaken : Obligations.RestartTaken := by
  unfold Obligations.RestartTaken
  intro s now r rest k takes granted body few cancelled own free
  have kind : r.kind = 0x1B := BitVec.eq_of_toNat_eq takes.2.2.1
  have part : restartPart r = own := by
    unfold restartPart
    rw [kind]
    rfl
  have step : exec (.restart now) s =
      .next (answerPlaced r (noReply (grantSlots (restartClaiming k own (s.taken now rest))))) := by
    have owner := ownRestart_eq (s := s.taken now rest) body granted few
    rw [part] at owner
    rw [← owner, ← takeRequest_taken takes]
    rfl
  have parts : s.li.replyQueue.length < 16 → heldParts (s.li.waits.map cancelEntry) = cancelled := fun slot =>
    heldParts_cancelled (granted slot).1
  have noWait : ∀ e ∈ (s.li.waits.map cancelEntry).drop free, e.state ≠ .waiting := fun e he => by
    obtain ⟨d, -, rfl⟩ := List.mem_map.mp (List.mem_of_mem_drop he)
    exact cancelEntry_held d
  have noRestart : ∀ (t : State) phase, t.li.handler = .restarting k phase → phase ≠ .left →
      exec .moduleRestart t = .next t := fun t phase h left => by
    cases phase with
    | left => exact absurd rfl left
    | claiming | sending => simp [exec, execModuleRestart, h]
  have count : cancelled.length = s.li.waits.length := List.length_map _
  obtain ⟨w, q, phase, granting, hq, hw, hphase⟩ : ∃ w q phase,
      grantSlots (restartClaiming k own (s.taken now rest)) = (s.taken now rest).putLi
        { s.li with requestQueue := rest, waits := w, replyQueue := q, handler := .restarting k phase } ∧
      q = s.li.replyQueue ++ (cancelled ++ [own]).take free ∧ w = (s.li.waits.map cancelEntry).drop free ∧
      phase = if s.li.waits.length < free then .sending else .claiming own := by
    by_cases room : s.li.waits.length < free
    · refine ⟨_, _, _, restartClaiming_room (s := s.taken now rest) k own room, ?_, ?_, (if_pos room).symm⟩
      · have slot : s.li.replyQueue.length < 16 := by omega
        rw [List.take_of_length_le (by simp [count]; omega), ← List.append_assoc, ← parts slot]
        rfl
      · rw [eq_comm, List.drop_eq_nil_iff, List.length_map]
        omega
    · refine ⟨_, _, _, restartClaiming_full (s := s.taken now rest) k own granted room, ?_, rfl, (if_neg room).symm⟩
      by_cases slot : s.li.replyQueue.length < 16
      · rw [List.take_append_of_le_length (by omega), ← parts slot]
        rfl
      · have none : free = 0 := by omega
        rw [none]
        exact congrArg (s.li.replyQueue ++ ·) (congrArg (List.take · _) none)
  rw [granting] at step
  obtain ⟨time, pending, blocks, li⟩ := answerPlaced_none (s := s) (now := now) (r := r) (rest := rest)
    { s.li with requestQueue := rest, waits := w, replyQueue := q, handler := .restarting k phase }
  refine ⟨_, step, time, pending, blocks, ?_⟩
  unfold State.sameLine
  rw [noReply]
  generalize answerPlaced r ((s.taken now rest).putLi _, none) = t at li ⊢
  rw [li]
  refine ⟨rfl, ⟨rfl, rfl, rfl, rfl, rfl⟩, hw ▸ noWait, hq, hw.trans List.map_drop.symm, by rw [hphase], fun phase' h => ?_⟩
  cases h
  refine noRestart t phase (by rw [li]) ?_
  rw [hphase]
  split <;> simp
end

section
/-! The encodings of the operator line: what a field of encoded bytes reads, and the frames and fields of a reply (O6),
of the reads (O17) and of the status body (O18). -/

namespace Sys2Proof.Machine

/-! ### Values in bytes -/

@[simp] theorem encode_length (n : Nat) (v : Int) : (encode n v).length = n := by
  induction n generalizing v with
  | zero => rfl
  | succ n ih => simp [encode, ih]

@[simp] theorem encodeBits_length {w : Nat} (n : Nat) (v : BitVec w) : (encodeBits n v).length = n :=
  encode_length n _

/-- The byte behind other bytes. -/
theorem byteAt_append (before : List Byte) (b : Byte) (after : List Byte) :
    byteAt (before ++ b :: after) before.length = b.toNat := by
  simp [byteAt]

/-- Division by a product in two steps, of the remainder. -/
theorem emod_mul_eq (v M : Int) : v % (256 * M) = v % 256 + 256 * (v / 256 % M) := by
  have quotient : v / (256 * M) = v / 256 / M := by rw [Int.ediv_ediv_of_nonneg (by decide)]
  have whole := Int.mul_ediv_add_emod v (256 * M)
  have first := Int.mul_ediv_add_emod v 256
  have second := Int.mul_ediv_add_emod (v / 256) M
  rw [quotient] at whole
  linarith [mul_assoc 256 M (v / 256 / M)]

/-- A value encoded in `n` bytes reads, as an unsigned field, as itself modulo 256^n (00_scope.md, Units and encodings). -/
theorem unsignedAt_encode (n : Nat) : ∀ (before after : List Byte) (v : Int),
    ((unsignedAt (before ++ encode n v ++ after) before.length n : Nat) : Int) = v % 256 ^ n := by
  induction n with
  | zero => simp [unsignedAt]
  | succ n ih =>
    intro before after v
    have byte : ((BitVec.ofInt 8 v).toNat : Int) = v % 256 := by
      simp [BitVec.toNat_ofInt]
      omega
    have shape : before ++ encode (n + 1) v ++ after = before ++ BitVec.ofInt 8 v :: (encode n (v / 256) ++ after) := by
      simp [encode]
    have next : before ++ BitVec.ofInt 8 v :: (encode n (v / 256) ++ after) =
        (before ++ [BitVec.ofInt 8 v]) ++ encode n (v / 256) ++ after := by simp
    have rest := ih (before ++ [BitVec.ofInt 8 v]) after (v / 256)
    rw [List.length_append, List.length_singleton] at rest
    rw [shape]
    unfold unsignedAt
    rw [byteAt_append, next]
    push_cast
    rw [rest, byte, pow_succ', emod_mul_eq]

/-- A value of n bytes reads back as itself, unsigned. -/
theorem unsignedAt_encode_of_lt (before after : List Byte) (n : Nat) {v : Int} (low : 0 ≤ v) (high : v < 256 ^ n) :
    unsignedAt (before ++ encode n v ++ after) before.length n = v.toNat := by
  have h := unsignedAt_encode n before after v
  rw [Int.emod_eq_of_lt low high] at h
  omega

/-- A value of n bytes reads back as itself in two's complement. -/
theorem signedAt_encode (before after : List Byte) (n : Nat) {v : Int} (low : -(256 ^ n) ≤ 2 * v)
    (high : 2 * v < 256 ^ n) : signedAt (before ++ encode n v ++ after) before.length n = v := by
  have h := unsignedAt_encode n before after v
  unfold signedAt
  dsimp only
  generalize unsignedAt (before ++ encode n v ++ after) before.length n = u at h ⊢
  have cast : ((256 ^ n : Nat) : Int) = (256 : Int) ^ n := by push_cast; rfl
  by_cases sign : 0 ≤ v
  · rw [Int.emod_eq_of_lt sign (by omega)] at h
    rw [if_pos (by zify; rw [h]; exact high), h]
  · have wrapped : v % 256 ^ n = v + 256 ^ n := by
      rw [← Int.add_emod_right, Int.emod_eq_of_lt (by omega) (by omega)]
    rw [wrapped] at h
    rw [if_neg (by zify; rw [h]; omega), h, cast]
    omega

/-! ### Fields -/

/-- A field behind other bytes. -/
theorem field_skip {a : List Byte} {off : Nat} (h : a.length ≤ off) (b : List Byte) (n : Nat) :
    field (a ++ b) off n = field b (off - a.length) n := by
  simp [field, List.drop_append, List.drop_eq_nil_iff.mpr h]

/-- The first field. -/
theorem field_first {a : List Byte} {n : Nat} (h : a.length = n) (b : List Byte) : field (a ++ b) 0 n = a := by
  simp [field, ← h]

/-- The only field. -/
theorem field_only {a : List Byte} {n : Nat} (h : a.length = n) : field a 0 n = a := by
  simp [field, ← h]

/-- A field of equal pieces. -/
theorem field_flatMap {α : Type} {f : α → List Byte} {k : Nat} (hf : ∀ a, (f a).length = k) {l : List α} {i : Nat} {a : α}
    (h : l[i]? = some a) (b : List Byte) : field (l.flatMap f ++ b) (k * i) k = f a := by
  induction l generalizing i with
  | nil => simp at h
  | cons c l ih =>
    rw [List.flatMap_cons, List.append_assoc]
    cases i with
    | zero =>
      obtain rfl : c = a := by simpa using h
      exact field_first (hf c) _
    | succ i =>
      rw [field_skip (by rw [hf, Nat.mul_succ]; omega), hf, Nat.mul_succ, Nat.add_sub_cancel]
      exact ih (by simpa using h)

theorem flatMap_length {α : Type} {f : α → List Byte} {k : Nat} (hf : ∀ a, (f a).length = k) (l : List α) :
    (l.flatMap f).length = k * l.length := by
  simp [List.length_flatMap, hf, Nat.mul_comm]

/-- A number reads from its field alone. -/
theorem unsignedAt_of_field {data : List Byte} {off n : Nat} {v : Int} (h : field data off n = encode n v) (low : 0 ≤ v)
    (high : v < 256 ^ n) : unsignedAt data off n = v.toNat := by
  cases n with
  | zero =>
    have : v = 0 := by
      rw [pow_zero] at high
      omega
    simp [this, unsignedAt]
  | succ n =>
    have inside : (data.take off).length = off := by
      have len := congrArg List.length h
      simp [field] at len
      simp
      omega
    have shape : data = data.take off ++ encode (n + 1) v ++ (data.drop off).drop (n + 1) := by
      rw [← h, List.append_assoc, field, List.take_append_drop, List.take_append_drop]
    have := unsignedAt_encode_of_lt (data.take off) ((data.drop off).drop (n + 1)) (n + 1) low high
    rwa [← shape, inside] at this

/-! ### Flags -/

/-- The bits of a number made of flags. -/
theorem testBit_bitsToNat (l : List Bool) (i : Nat) : (bitsToNat l).testBit i = l.getD i false := by
  induction l generalizing i with
  | nil => simp [bitsToNat]
  | cons b l ih =>
    have value : bitsToNat (b :: l) = Nat.bit b (bitsToNat l) := by
      cases b with
      | false => simp [bitsToNat, Nat.bit]
      | true => simp [bitsToNat, Nat.bit, Nat.add_comm]
    rw [value]
    cases i with
    | zero => simp
    | succ i => rw [Nat.testBit_bit_succ, ih, List.getD_cons_succ]

/-- Flags fill no more bits than they are. -/
theorem bitsToNat_lt (l : List Bool) : bitsToNat l < 2 ^ l.length := by
  induction l with
  | nil => decide
  | cons b l ih =>
    rw [List.length_cons, Nat.pow_succ, bitsToNat]
    split <;> omega

/-- A field of flags reads its flags, and 0 in the bits above them (01 section 1.12). -/
theorem testBit_field {data : List Byte} {off n : Nat} {l : List Bool} (h : field data off n = encode n (bitsToNat l))
    (fits : l.length ≤ 8 * n) (i : Nat) : (unsignedAt data off n).testBit i = l.getD i false := by
  have bound : bitsToNat l < 256 ^ n := by
    calc bitsToNat l < 2 ^ l.length := bitsToNat_lt l
      _ ≤ 2 ^ (8 * n) := Nat.pow_le_pow_right (by decide) fits
      _ = 256 ^ n := by rw [Nat.pow_mul]
  rw [unsignedAt_of_field h (by omega) (by exact_mod_cast bound), Int.toNat_natCast, testBit_bitsToNat]

/-! ### Frames -/

/-- The check of a frame compares its last two bytes with those of the bytes between the lead and them (R2). -/
theorem frameChecks_eq (lead : Byte) (inner : List Byte) {check : List Byte} (two : check.length = 2) :
    frameChecks (lead :: (inner ++ check)) = (check == checkBytes inner) := by
  have split : (lead :: (inner ++ check)).length - 2 = (lead :: inner).length := by simp [two]
  have whole : lead :: (inner ++ check) = (lead :: inner) ++ check := rfl
  unfold frameChecks
  dsimp only
  rw [split, whole, List.drop_left, List.take_left]
  rfl

theorem checkBytes_length (bytes : List Byte) : (checkBytes bytes).length = 2 := rfl

/-- The first check byte is the high byte (R2). -/
theorem checkBytes_value (c : BitVec 16) :
    ((c >>> 8).truncate 8).toNat * 256 + (c.truncate 8 : Byte).toNat = c.toNat := by
  have bound := c.isLt
  simp [Nat.shiftRight_eq_div_pow]
  omega

/-- Every frame passes its check (R2). -/
theorem frameChecks_frame (kind tag : Byte) (body : List Byte) : frameChecks (frame kind tag body) = true := by
  unfold frame
  dsimp only
  rw [frameChecks_eq _ _ (checkBytes_length _), beq_self_eq_true]

end Sys2Proof.Machine

open Sys2Proof Sys2Proof.Machine in
/-- Settles O6: the frame by its definition, the numbers by the round trip of `encode`. -/
theorem framesAndFields : Obligations.FramesAndFields := by
  unfold Obligations.FramesAndFields
  refine ⟨by decide, fun p short => ?_, fun p small => ?_, fun kind tag r => ⟨?_, rfl, rfl⟩, fun before after n v =>
    ⟨unsignedAt_encode_of_lt before after n, signedAt_encode before after n⟩⟩
  · refine ⟨_, _, rfl, ?_, frameChecks_frame ..⟩
    rw [checkBytes_value]
    have counted : ∀ inner : List Byte, inner.length = p.data.length + 5 →
        ((Config.leadByte :: (inner ++ checkBytes inner)).drop 1).take (p.data.length + 5) = inner := fun inner h =>
      List.take_left' h
    exact congrArg (fun l => (crc16 l).toNat) (counted _ rfl).symm
  · cases h : p.final <;> simp [ReplyPart.partByte, h] <;> omega
  · simp [singlePart, replyKind]
end

section
/-! The reads that answer with what stands (O17) and the status body (O18). -/

namespace Sys2Proof.Machine

/-- An identifier that names no parameter (R21, R22). -/
theorem ParamId.ofNumber_none {n : Nat} (h : ∀ p : ParamId, p.number ≠ n) : ParamId.ofNumber n = none := by
  simp [ParamId.ofNumber, h]

/-- A parameter's identifier reads back from a body that begins with it. -/
theorem ParamId.ofNumber_body (p : ParamId) (after : List Byte) :
    unsignedAt (encode 2 p.number ++ after) 0 2 = p.number := by
  have bound : (p.number : Int) < 256 ^ 2 := by cases p <;> decide
  have h := unsignedAt_encode_of_lt [] after 2 (Int.natCast_nonneg p.number) bound
  simpa using h

/-- A request whose owner answers without changing the state (R6, R22). -/
theorem takeRequest_reads {s : State} {kind length : Nat} {now : RunTime} {owner : Request → State → Answer}
    {r : Request} {rest : List Request} {reply : Reply} (takes : s.Takes kind length r rest)
    (h : owner r (s.taken now rest) = (s.taken now rest, some reply)) :
    s.RepliedOnly (takeRequest kind length now owner s) now r rest reply.result reply.data ∧
      (takeRequest kind length now owner s).blocks = s.blocks := by
  rw [takeRequest_taken takes, h]
  exact answerPlaced_only reply takes.1 takes.2.1

theorem counter_replicate (s : State) (n : Nat) : { s with counters := Vector.replicate 17 0 }.counter n = 0 := by
  simp only [State.counter]
  cases h : (Vector.replicate 17 0)[n - 1]? with
  | none => rfl
  | some v => exact (Vector.mem_replicate.mp (Vector.mem_of_getElem? h)).2

/-- Numbers sent one after the other are those of the list, as integers. -/
theorem flatMap_cast (n : Nat) (l : List Nat) :
    ((do let a ← l; pure (a : Int) : List Int).flatMap fun v => encode n v) = l.flatMap fun a : Nat => encode n a := by
  have cast : (do let a ← l; pure (a : Int) : List Int) = l.map fun a : Nat => (a : Int) := List.flatMap_pure_eq_map _ l
  rw [cast, List.flatMap_map]

theorem counterData_eq (s : State) : s.counterData = s.counters.toList.flatMap fun n : Nat => encode 2 n :=
  flatMap_cast 2 _

/-- COUNTERS_READ answers counter n at its place (R24). -/
theorem counterData_field (s : State) {n : Nat} (low : 1 ≤ n) (high : n ≤ 17) :
    field s.counterData (2 * (n - 1)) 2 = encode 2 (s.counter n) := by
  have at_ : s.counters.toList[n - 1]? = some (s.counter n) := by
    have inside : n - 1 < 17 := by omega
    simp [State.counter, inside]
  rw [counterData_eq]
  have h := field_flatMap (f := fun n : Nat => encode 2 n) (fun n => encode_length 2 n) at_ []
  rwa [List.append_nil] at h

/-! ### The status body -/

/-- The channels that are not FRESH, in ascending order (R25). -/
theorem missingChannels_eq (s : State) : s.missingChannels =
    ((List.range 21).filter fun n => ((s.fc.channels[n]?).map ChannelEntry.state) != some .fresh).map (· + 1) := by
  have numbers : List.range 21 = Channel.all.map fun c => c.idx.val := by decide
  have state : ∀ c : Channel, (s.fc.channels[c.idx.val]?).map ChannelEntry.state = some (s.chan c).state := fun c => by
    simp [State.chan, Vector.get_eq_getElem]
  rw [numbers, List.filter_map, List.map_map]
  unfold State.missingChannels
  refine congrArg (List.map _) (List.filter_congr fun c _ => ?_)
  rw [Function.comp, state]
  rfl

/-- A piece of joined pieces is the field at the lengths before it. -/
theorem field_flatten {pieces : List (List Byte)} {lens : List Nat} (h : pieces.map List.length = lens) {i off n : Nat}
    {p : List Byte} (piece : pieces[i]? = some p) (before : (lens.take i).sum = off) (len : p.length = n)
    (rest : List Byte) : field (pieces.flatten ++ rest) off n = p := by
  subst h before len
  have inside : i < pieces.length := (List.getElem?_eq_some_iff.mp piece).1
  have shape : pieces.flatten = (pieces.take i).flatten ++ (p ++ (pieces.drop (i + 1)).flatten) := by
    rw [← List.flatten_cons, ← List.flatten_append, ← (List.getElem?_eq_some_iff.mp piece).2,
      ← List.drop_eq_getElem_cons, List.take_append_drop]
  have len : (pieces.take i).flatten.length = ((pieces.map List.length).take i).sum := by
    rw [List.length_flatten, List.map_take]
  rw [shape, List.append_assoc, field_skip (by rw [len]), len, Nat.sub_self, List.append_assoc, field_first rfl]

/-- The fields of the status body in their order, before the numbers of the missing channels (01 section 1.12). -/
def State.statusPieces (s : State) : List (List Byte) :=
  [encode 1 s.mp.mode.code, encode 1 s.mp.panel.code, encode 2 s.mp.panelNumber, encodeBits 4 s.runTime,
    encode 4 s.di.depth, encode 4 s.di.path.x.offset, encode 4 s.di.path.y.offset,
    encode 2 s.fc.slopes.x.slope, encode 2 s.fc.slopes.y.slope, encode 2 (s.value .twist),
    encode 1 s.pathFlags, encode 2 s.openStationField, encode 2 s.di.feedRate,
    encode 1 (s.wheel .a).state.code, encode 1 (s.wheel .b).state.code,
    encode 2 (s.wheel .a).commanded, encode 2 (s.wheel .b).commanded,
    encode 2 (s.value (.speed .a)), encode 2 (s.value (.speed .b)), encode 2 s.wd.applied,
    encode 1 s.pumpFlags, encode 2 s.sr.command, encode 1 (if s.sr.feedPermit then 1 else 0),
    encode 2 s.sr.feedLimit, encodeBits 1 s.tu.groups, encode 2 (s.sourceBits .active),
    encode 2 (s.sourceBits .latched), encodeBits 2 s.sl.version, encode 1 s.missingChannels.length]

/-- The lengths of the fields of the status body (01 section 1.12). -/
def statusLengths : List Nat :=
  [1, 1, 2, 4, 4, 4, 4, 2, 2, 2, 1, 2, 2, 1, 1, 2, 2, 2, 2, 2, 1, 2, 1, 2, 1, 2, 2, 2, 1]

theorem State.statusData_eq (s : State) :
    s.statusData = s.statusPieces.flatten ++ s.missingChannels.flatMap fun n : Nat => encode 1 n := by
  unfold State.statusData State.statusPieces
  simp only [List.flatten_cons, List.flatten_nil, List.append_assoc, List.append_nil, ← flatMap_cast]

theorem State.statusPieces_lengths (s : State) : s.statusPieces.map List.length = statusLengths := by
  unfold State.statusPieces statusLengths
  simp only [List.map_cons, List.map_nil, encode_length, encodeBits_length]

theorem State.statusPieces_length (s : State) : s.statusPieces.flatten.length = 57 := by
  rw [List.length_flatten, s.statusPieces_lengths]
  rfl

/-- A field of the status body, at the offset that counts its result and part bytes (01 section 1.12). -/
theorem State.statusData_field (s : State) (i : Nat) {p : List Byte} {n off : Nat} (piece : s.statusPieces[i]? = some p)
    (len : p.length = n) (before : 2 + (statusLengths.take i).sum = off) : field s.statusData (off - 2) n = p := by
  rw [s.statusData_eq]
  exact field_flatten s.statusPieces_lengths piece (by omega) len _

/-- The tripped groups as flags, group by bit (01 section 1.12). -/
theorem groups_toNat (s : State) : (s.tu.groups.toNat : Int) = bitsToNat [s.tripped (.wheel .a), s.tripped (.wheel .b),
    s.tripped .plates, s.tripped .pump, s.tripped .feed] := by
  refine congrArg Nat.cast (Nat.eq_of_testBit_eq fun i => ?_)
  rw [testBit_bitsToNat, ← BitVec.getLsbD]
  by_cases h : i < 5
  · interval_cases i <;> rfl
  · rw [BitVec.getLsbD_of_ge _ _ (by omega), List.getD_eq_default _ _ (by simpa using h)]

/-- The flags of the sources in a state, in the order of their numbers (01 section 1.12). -/
theorem sourceBits_eq (s : State) (st : SourceState) :
    s.sourceBits st = bitsToNat ((List.range 13).map fun i => s.tu.sources[i]? == some st) := by
  have numbers : List.range 13 = Source.all.map fun i => i.val := by decide
  rw [numbers, List.map_map]
  refine congrArg bitsToNat (List.map_congr_left fun i _ => ?_)
  simp [State.source, Vector.get_eq_getElem]

end Sys2Proof.Machine

open Sys2Proof Sys2Proof.Machine in
/-- Settles O17. -/
theorem readsAnswer : Obligations.ReadsAnswer := by
  unfold Obligations.ReadsAnswer
  intro s now r rest
  refine ⟨fun takes => ⟨fun p body => ?_, fun none => ?_⟩, fun takes => ?_, fun takes => ?_⟩
  · have owner : ownParamGet r (s.taken now rest) =
        (s.taken now rest, some (Reply.ok (encode 2 p.number ++ encode 4 (s.par p)))) := by
      have id : unsignedAt r.body 0 2 = p.number := by
        rw [body]
        simpa using p.ofNumber_body []
      unfold ownParamGet
      dsimp only
      rw [id, ParamId.ofNumber_number]
      rfl
    obtain ⟨only, blocks⟩ := takeRequest_reads takes owner
    exact ⟨_, rfl, blocks, only⟩
  · have owner : ownParamGet r (s.taken now rest) = (s.taken now rest, some (Reply.refuse .notFound)) := by
      unfold ownParamGet
      dsimp only
      rw [ParamId.ofNumber_none none]
      rfl
    obtain ⟨only, blocks⟩ := takeRequest_reads takes owner
    exact ⟨_, rfl, blocks, only⟩
  · have owner : ownCountersRead r (s.taken now rest) = ({ s.taken now rest with counters := Vector.replicate 17 0 },
      some (Reply.ok (s.taken now rest).counterData)) := rfl
    obtain ⟨replied, blocks, waits⟩ := answerPlaced_replied (now := now)
      (u := { s.taken now rest with counters := Vector.replicate 17 0 })
      (reply := Reply.ok (s.taken now rest).counterData) takes.1 takes.2.1 ⟨rfl, rfl⟩ (.refl _)
    obtain ⟨waiting, seq⟩ := waits ((State.taken_noReport s now rest).of_eq rfl rfl rfl)
    have step : exec (.countersRead now) s = .next (answerPlaced r
        ({ s.taken now rest with counters := Vector.replicate 17 0 }, some (Reply.ok (s.taken now rest).counterData))) := by
      rw [← owner, ← takeRequest_taken takes]
      rfl
    generalize answerPlaced r _ = t at step replied blocks waiting seq
    have counters : t.counters = Vector.replicate 17 0 := congrArg Blocks.counters blocks
    refine ⟨t, _, step, ⟨replied, waiting, seq⟩, ?_, fun n low high => ⟨counterData_field (s.taken now rest) low high, ?_⟩, ?_⟩
    · show (s.taken now rest).counterData.length = 34
      rw [counterData_eq, flatMap_length fun n : Nat => encode_length 2 n]
      simp
    · have zero := counter_replicate s n
      unfold State.counter at zero ⊢
      rw [counters]
      exact zero
    · rw [blocks, counters]
      rfl
  · obtain ⟨only, blocks⟩ := takeRequest_reads (now := now) (owner := ownTransitGet)
      (reply := Reply.ok (s.taken now rest).transitData) takes rfl
    refine ⟨_, _, rfl, only, ?_, blocks, ?_, ?_, ?_, ?_, ?_, ?_, ?_, ?_⟩
    · simp [State.transitData, Reply.ok]
    · simp [State.transitData, Reply.ok, field_first]
    · simp [State.transitData, Reply.ok, field_first, field_skip]
    · simp [State.transitData, Reply.ok, field_first, field_skip]
      rfl
    · simp [State.transitData, Reply.ok, field_first, field_skip]
      rfl
    · simp [State.transitData, Reply.ok, field_only, field_skip]
      rfl
    · intro empty
      simp [State.transitData, Reply.ok, field_first, field_skip, empty, headCode]
      exact ⟨rfl, rfl⟩
    · intro head h
      obtain ⟨tail, line⟩ := List.head?_eq_some_iff.mp h
      simp [State.transitData, Reply.ok, field_first, field_skip, line, headCode]
      cases head.atMeter <;> rfl
    · intro youngest h
      simp [State.transitData, Reply.ok, field_first, field_skip, h]

open Sys2Proof Sys2Proof.Machine in
/-- Settles O18. -/
theorem statusSnapshot : Obligations.StatusSnapshot := by
  unfold Obligations.StatusSnapshot
  intro s now r rest takes missing
  have fields : ∀ i {p : List Byte} {n off : Nat}, (s.taken now rest).statusPieces[i]? = some p → p.length = n →
      2 + (statusLengths.take i).sum = off → field (s.taken now rest).statusData (off - 2) n = p :=
    fun i {_ _ _} => (s.taken now rest).statusData_field i
  have numbers : (s.taken now rest).missingChannels = missing.map (· + 1) := missingChannels_eq _
  have count : (s.taken now rest).missingChannels.length = missing.length := by
    rw [numbers, List.length_map]
  have behind : (s.taken now rest).statusData.drop 57 = missing.map fun n => BitVec.ofNat 8 (n + 1) := by
    rw [State.statusData_eq, List.drop_left' (State.statusPieces_length _), numbers, List.flatMap_map]
    exact (List.map_eq_flatMap ..).symm
  obtain ⟨only, blocks⟩ := takeRequest_reads (now := now) (owner := ownStatusGet)
    (reply := Reply.ok (s.taken now rest).statusData) takes rfl
  refine ⟨_, (s.taken now rest).statusData, rfl, only, blocks, ?_, ?_⟩
  · rw [State.statusData_eq, List.length_append, State.statusPieces_length,
      flatMap_length fun n : Nat => encode_length 1 n, count, Nat.one_mul]
  generalize (s.taken now rest).statusData = data at fields behind ⊢
  clear only blocks
  intro atOff flags wheelCode
  refine ⟨(fields 0 rfl rfl (by decide)).trans ?_, (fields 1 rfl rfl (by decide)).trans ?_, fields 2 rfl rfl (by decide),
    fields 3 rfl rfl (by decide), fields 4 rfl rfl (by decide), fields 5 rfl rfl (by decide), fields 6 rfl rfl (by decide),
    fields 7 rfl rfl (by decide), fields 8 rfl rfl (by decide), fields 9 rfl rfl (by decide),
    fun i _ => testBit_field (fields 10 rfl rfl (by decide)) (by simp) i, (fields 11 rfl rfl (by decide)).trans ?_,
    fields 12 rfl rfl (by decide), (fields 13 rfl rfl (by decide)).trans ?_, (fields 14 rfl rfl (by decide)).trans ?_,
    fields 15 rfl rfl (by decide), fields 16 rfl rfl (by decide), fields 17 rfl rfl (by decide),
    fields 18 rfl rfl (by decide), fields 19 rfl rfl (by decide),
    fun i _ => testBit_field (fields 20 rfl rfl (by decide)) (by simp) i, fields 21 rfl rfl (by decide),
    fields 22 rfl rfl (by decide), fields 23 rfl rfl (by decide),
    fun i _ => testBit_field (n := 1) ((fields 24 rfl rfl (by decide)).trans ?_) (by simp) i,
    fun i _ => testBit_field (n := 2) ((fields 25 rfl rfl (by decide)).trans ?_) (by simp) i,
    fun i _ => testBit_field (n := 2) ((fields 26 rfl rfl (by decide)).trans ?_) (by simp) i,
    fields 27 rfl rfl (by decide), (fields 28 rfl rfl (by decide)).trans ?_, ?_⟩
  · show encode 1 s.mp.mode.code = _
    cases s.mp.mode <;> rfl
  · show encode 1 s.mp.panel.code = _
    cases s.mp.panel <;> rfl
  · show encode 2 (match s.di.openRecord with
      | some q => (q.station : Int)
      | none => 65535) = _
    cases s.di.openRecord <;> rfl
  · show encode 1 (s.wheel .a).state.code = _
    cases (s.wheel .a).state <;> rfl
  · show encode 1 (s.wheel .b).state.code = _
    cases (s.wheel .b).state <;> rfl
  · exact congrArg (encode 1) (groups_toNat s)
  · exact congrArg (encode 2) (congrArg Nat.cast (sourceBits_eq s .active))
  · exact congrArg (encode 2) (congrArg Nat.cast (sourceBits_eq s .latched))
  · rw [count]
  · exact behind
end

section
/-! The streams of LOG_READ and PLAN_GET (O13). -/

namespace Sys2Proof.Machine

/-! ### Records and bands in bytes -/

/-- The fields of a station record in their order (01 section 1.12). -/
def StationRecord.pieces (r : StationRecord) : List (List Byte) :=
  [encode 2 r.index, encode 1 r.pass, encode 1 r.flagByte, encodeBits 4 r.closedAt, encode 4 r.offsets.x,
    encode 4 r.offsets.y, encode 2 r.slopes.x, encode 2 r.slopes.y, encode 2 r.twist, encode 2 r.meanSpeed.a,
    encode 2 r.meanSpeed.b, encode 2 r.maxPress.a, encode 2 r.maxPress.b] ++
  (Plate.all.map fun p => encode 1 (r.plateTargets.get p)) ++
  [encode 2 r.meanFlow, encode 2 (r.density.getD 0xFFFF), encode 2 (min r.volume 65535)]

def recordLengths : List Nat := [2, 1, 1, 4, 4, 4, 2, 2, 2, 2, 2, 2, 2, 1, 1, 1, 1, 1, 1, 1, 1, 2, 2, 2]

theorem StationRecord.bytes_eq (r : StationRecord) : r.bytes = r.pieces.flatten := by
  unfold StationRecord.bytes StationRecord.pieces
  simp only [List.flatten_append, List.flatten_cons, List.flatten_nil, List.append_assoc, List.append_nil, List.flatMap]

theorem StationRecord.pieces_lengths (r : StationRecord) : r.pieces.map List.length = recordLengths := by
  unfold StationRecord.pieces
  simp only [List.map_append, List.map_cons, List.map_nil, List.map_map, Function.comp_def, encode_length, encodeBits_length]
  rfl

theorem StationRecord.field_eq (r : StationRecord) (i : Nat) {p : List Byte} {n off : Nat} (piece : r.pieces[i]? = some p)
    (len : p.length = n) (before : (recordLengths.take i).sum = off) : field r.bytes off n = p := by
  rw [r.bytes_eq, ← List.append_nil r.pieces.flatten]
  exact field_flatten r.pieces_lengths piece before len _

/-- The fields of a band in their order (01 section 1.12). -/
def Band.pieces (b : Band) : List (List Byte) :=
  [encode 1 b.index, encode 1 b.kind.code, encode 4 b.top, encode 4 b.bottom, encode 4 b.tX, encode 4 b.tY, encode 4 b.dbX,
    encode 4 b.dbY, encode 2 b.dbTwist, encode 2 b.gainY, encode 2 b.gainX, encode 2 b.gainW, encode 4 b.endThr,
    encode 2 b.twistGain, encode 2 b.lookahead]

def bandLengths : List Nat := [1, 1, 4, 4, 4, 4, 4, 4, 2, 2, 2, 2, 4, 2, 2]

theorem Band.bytes_eq (b : Band) : b.bytes = b.pieces.flatten := by
  unfold Band.bytes Band.pieces
  simp only [List.flatten_cons, List.flatten_nil, List.append_assoc, List.append_nil]

theorem Band.pieces_lengths (b : Band) : b.pieces.map List.length = bandLengths := by
  unfold Band.pieces bandLengths
  simp only [List.map_cons, List.map_nil, encode_length]

theorem Band.field_eq (b : Band) (i : Nat) {p : List Byte} {n off : Nat} (piece : b.pieces[i]? = some p)
    (len : p.length = n) (before : (bandLengths.take i).sum = off) : field b.bytes off n = p := by
  rw [b.bytes_eq, ← List.append_nil b.pieces.flatten]
  exact field_flatten b.pieces_lengths piece before len _

theorem StationRecord.bytes_length (r : StationRecord) : r.bytes.length = 44 := by
  rw [r.bytes_eq, List.length_flatten, r.pieces_lengths]
  rfl

theorem Band.bytes_length (b : Band) : b.bytes.length = 42 := by
  rw [b.bytes_eq, List.length_flatten, b.pieces_lengths]
  rfl

/-! ### A part of a stream -/

/-- The stream after the part that it has built. -/
def State.advanced (s : State) (st : Stream) : Stream :=
  { st with source := (s.buildPart st).2, next := st.next + 1 }

/-- The built part takes a free slot, or the stream claims one (R9, R10). -/
theorem streamPart_eq {s : State} (granted : s.Granted) (st : Stream) : streamPart st s = s.putLi (if s.slotFree
    then { s.li with
      replyQueue := s.li.replyQueue ++ [(s.buildPart st).1]
      handler := if (s.buildPart st).1.final then .idle else .streaming { s.advanced st with phase := .sending } }
    else { s.li with handler := .streaming { s.advanced st with phase := .claiming (s.buildPart st).1 } }) := by
  unfold streamPart
  dsimp only
  rw [grantSlots_of_granted granted]
  by_cases free : s.slotFree = true
  · have none := ((State.granted_iff s).mp granted free).1
    rw [if_pos free, grantSlots_claim (p := (s.buildPart st).1) (k := if (s.buildPart st).1.final then .idle else
      .streaming { s.advanced st with phase := .sending })]
    · rfl
    · exact free
    · exact none
    · rfl
    · split <;> rfl
  · rw [if_neg free, grantSlots_full]
    · rfl
    · exact free

/-- LI after a part has been built: the part in a free slot, or claimed for (R9, R10). -/
def LineInterface.sending (li : LineInterface) (free : Bool) (p : ReplyPart) (st : Stream) : LineInterface :=
  if free then { li with
    replyQueue := li.replyQueue ++ [p]
    handler := if p.final then .idle else .streaming { st with phase := .sending } }
  else { li with handler := .streaming { st with phase := .claiming p } }

/-- The part of a stream, and the stream that goes on behind it unless the part is the final one. -/
def State.partOf (s : State) (st : Stream) : ReplyPart × Option Stream :=
  ((s.buildPart st).1, if (s.buildPart st).1.final then none else some (s.advanced st))

/-- An event that leaves LI with the part sent or claimed for (R8, R9, R10). -/
theorem sending_claimed {s t : State} {now : RunTime} {rest : List Request} (u : State) (st : Stream)
    (h : s.LineBecomes t now
      (LineInterface.sending { s.li with requestQueue := rest } s.slotFree (u.buildPart st).1 (u.advanced st))) :
    t.runTime = now ∧ t.pending = s.pending ∧ t.blocks = s.blocks ∧ t.li.requestQueue = rest ∧ s.sameLine t ∧
      t.li.waits = s.li.waits ∧ s.Claimed t (u.buildPart st).1
        (match (u.partOf st).2 with
          | some st => .streaming { st with phase := .sending }
          | none => .idle)
        (.streaming { u.advanced st with phase := .claiming (u.buildPart st).1 }) := by
  obtain ⟨time, pending, blocks, li⟩ := h
  unfold State.sameLine State.Claimed
  rw [li]
  unfold LineInterface.sending
  by_cases room : s.li.replyQueue.length < Config.replyQueueSize
  · have free : s.slotFree = true := decide_eq_true room
    rw [if_pos free, if_pos room]
    refine ⟨time, pending, blocks, rfl, ⟨rfl, rfl, rfl, rfl, rfl⟩, rfl, rfl, ?_⟩
    unfold State.partOf
    cases (u.buildPart st).1.final <;> rfl
  · have full : ¬s.slotFree = true := fun h => room (of_decide_eq_true h)
    rw [if_neg full, if_neg room]
    exact ⟨time, pending, blocks, rfl, ⟨rfl, rfl, rfl, rfl, rfl⟩, rfl, rfl, rfl⟩

theorem streamPart_sending {s : State} (granted : s.Granted) (st : Stream) :
    streamPart st s = s.putLi (s.li.sending s.slotFree (s.buildPart st).1 (s.advanced st)) :=
  streamPart_eq granted st

/-- The next part of a stream follows once the last part has left the line (R10). -/
theorem nextPart_left {s : State} {st : Stream} (h : s.li.handler = .streaming st) (left : st.phase = .left) :
    nextPart s = streamPart st s := by
  simp [nextPart, h, left]

theorem nextPart_waiting {s : State} {st : Stream} (h : s.li.handler = .streaming st) (waits : st.phase ≠ .left) :
    nextPart s = s := by
  simp [nextPart, h, waits]

/-- A part of the log with records (R11). -/
theorem partOf_log_some {s : State} {st : Stream} {cursor last total : Nat} {q : StationRecord}
    (h : ((Log.range s.di.log cursor last).take Config.streamChunk).getLast? = some q) :
    s.partOf { st with source := .log cursor last total } =
      (st.part false (encode 1 ((Log.range s.di.log cursor last).take Config.streamChunk).length ++
        ((Log.range s.di.log cursor last).take Config.streamChunk).flatMap StationRecord.bytes),
      some { st with
        source := .log (q.index + 1) last (total + ((Log.range s.di.log cursor last).take Config.streamChunk).length)
        next := st.next + 1 }) := by
  simp only [State.partOf, State.advanced, State.buildPart, h]
  rfl

/-- The final part of the log (R11). -/
theorem partOf_log_none {s : State} {st : Stream} {cursor last total : Nat}
    (h : ((Log.range s.di.log cursor last).take Config.streamChunk).getLast? = none) :
    s.partOf { st with source := .log cursor last total } = (st.part true (encode 1 0 ++ encode 2 total), none) := by
  simp only [State.partOf, State.advanced, State.buildPart, h]
  rfl

/-- The parts of the plan (R12, R115). -/
theorem partOf_plan (s : State) (st : Stream) (cursor : Nat) : s.partOf { st with source := .plan cursor } =
    if (s.sl.plan.drop cursor).take Config.streamChunk = [] then
      (st.part true (encode 1 0 ++ encode 1 s.sl.plan.length ++ encodeBits 2 s.sl.version), none)
    else (st.part false (encode 1 ((s.sl.plan.drop cursor).take Config.streamChunk).length ++
        ((s.sl.plan.drop cursor).take Config.streamChunk).flatMap Band.bytes),
      some { st with
        source := .plan (cursor + ((s.sl.plan.drop cursor).take Config.streamChunk).length), next := st.next + 1 }) := by
  by_cases h : (s.sl.plan.drop cursor).take Config.streamChunk = []
  · rw [if_pos h]
    simp only [State.partOf, State.advanced, State.buildPart, List.isEmpty_iff, if_pos h]
    rfl
  · rw [if_neg h]
    simp only [State.partOf, State.advanced, State.buildPart, List.isEmpty_iff, if_neg h]
    rfl

theorem ownLogRead_bad {r : Request} (h : 511 < unsignedAt r.body 0 2 ∨ unsignedAt r.body 2 2 = 0) (s : State) :
    ownLogRead r s = refuse .badValue s :=
  if_pos h

/-- LOG_READ of a good range starts a stream (R10, R11). -/
theorem ownLogRead_good {r : Request} (first : unsignedAt r.body 0 2 ≤ 511) (count : unsignedAt r.body 2 2 ≠ 0) (s : State) :
    ownLogRead r s = noReply (streamPart
      { kind := r.kind, tag := r.tag
        result := if 511 < unsignedAt r.body 0 2 + unsignedAt r.body 2 2 - 1 then .doneClamped else .done
        source := .log (unsignedAt r.body 0 2) (min (unsignedAt r.body 0 2 + unsignedAt r.body 2 2 - 1) 511) 0
        next := 0, phase := .left } s) :=
  if_neg (not_or.mpr ⟨Nat.not_lt.mpr first, count⟩)

/-- A request that starts a stream sends its first part (R10). -/
theorem answerPlaced_sending {s : State} {now : RunTime} {r : Request} {rest : List Request} (granted : s.Granted)
    (st : Stream) : s.LineBecomes (answerPlaced r (noReply (streamPart st (s.taken now rest)))) now
      (LineInterface.sending { s.li with requestQueue := rest } s.slotFree (s.buildPart st).1 (s.advanced st)) := by
  rw [noReply, streamPart_sending (s := s.taken now rest) granted]
  exact answerPlaced_none _

end Sys2Proof.Machine

open Sys2Proof Sys2Proof.Machine in
/-- Settles O13. -/
theorem streamParts : Obligations.StreamParts := by
  unfold Obligations.StreamParts
  refine ⟨fun q => ?_, fun b => ?_, fun s now granted => ?_⟩
  · have fields : ∀ i {p : List Byte} {n off : Nat}, q.pieces[i]? = some p → p.length = n →
        (recordLengths.take i).sum = off → field q.bytes off n = p := fun i {_ _ _} => q.field_eq i
    refine ⟨q.bytes_length, fields 0 rfl rfl (by decide), fields 1 rfl rfl (by decide),
      fun i _ => testBit_field (fields 2 rfl rfl (by decide)) (by simp) i, fields 3 rfl rfl (by decide),
      fields 4 rfl rfl (by decide), fields 5 rfl rfl (by decide), fields 6 rfl rfl (by decide),
      fields 7 rfl rfl (by decide), fields 8 rfl rfl (by decide), fields 9 rfl rfl (by decide),
      fields 10 rfl rfl (by decide), fields 11 rfl rfl (by decide), fields 12 rfl rfl (by decide), fun p => ?_,
      fields 21 rfl rfl (by decide), (fields 22 rfl rfl (by decide)).trans ?_, (fields 23 rfl rfl (by decide)).trans ?_⟩
    · have piece : ∀ p : Plate, q.pieces[13 + p.val]? = some (encode 1 (q.plateTargets.get p)) := fun p => by
        fin_cases p <;> rfl
      have before : ∀ p : Plate, (recordLengths.take (13 + p.val)).sum = 30 + p.val := by decide
      exact fields (13 + p.val) (piece p) rfl (before p)
    · cases q.density <;> rfl
    · refine congrArg (encode 2) ?_
      split <;> omega
  · have fields : ∀ i {p : List Byte} {n off : Nat}, b.pieces[i]? = some p → p.length = n →
        (bandLengths.take i).sum = off → field b.bytes off n = p := fun i {_ _ _} => b.field_eq i
    refine ⟨b.bytes_length, fields 0 rfl rfl (by decide), (fields 1 rfl rfl (by decide)).trans ?_,
      fields 2 rfl rfl (by decide), fields 3 rfl rfl (by decide), fields 4 rfl rfl (by decide),
      fields 5 rfl rfl (by decide), fields 6 rfl rfl (by decide), fields 7 rfl rfl (by decide),
      fields 8 rfl rfl (by decide), fields 9 rfl rfl (by decide), fields 10 rfl rfl (by decide),
      fields 11 rfl rfl (by decide), fields 12 rfl rfl (by decide), fields 13 rfl rfl (by decide),
      fields 14 rfl rfl (by decide)⟩
    cases b.kind <;> rfl
  · intro logPart planPart sends
    have hlog : ∀ st cursor last total,
        logPart st cursor last total = s.partOf { st with source := .log cursor last total } := fun st cursor last total => by
      cases h : ((Log.range s.di.log cursor last).take Config.streamChunk).getLast? with
      | some q =>
        rw [partOf_log_some h]
        show (match ((Log.range s.di.log cursor last).take Config.streamChunk).getLast? with
          | some q => _
          | none => _) = _
        rw [h]
        rfl
      | none =>
        rw [partOf_log_none h]
        show (match ((Log.range s.di.log cursor last).take Config.streamChunk).getLast? with
          | some q => _
          | none => _) = _
        rw [h]
        rfl
    have hplan : ∀ st cursor, planPart st cursor = s.partOf { st with source := .plan cursor } := fun st cursor =>
      (partOf_plan s st cursor).symm
    have sent : ∀ (c : Instr) (rest : List Request) (st : Stream) (t : State), exec c s = .next t → s.LineBecomes t now
        (LineInterface.sending { s.li with requestQueue := rest } s.slotFree (s.buildPart st).1 (s.advanced st)) →
        sends c rest (s.partOf st) := fun c rest st t step h => by
      obtain ⟨time, pending, blocks, requests, line, waits, claimed⟩ := sending_claimed s st h
      refine ⟨t, _, step, time, pending, blocks, requests, line, waits, rfl, fun st' more => ?_, claimed⟩
      unfold State.partOf at more
      dsimp only at more
      split at more
      · cases more
      · cases more
        rfl
    have next : ∀ st, s.li.handler = .streaming st → st.phase = .left → nextPart (s.begin now) =
        (s.begin now).putLi (s.li.sending s.slotFree (s.buildPart st).1 (s.advanced st)) := fun st handler left =>
      (nextPart_left (s := s.begin now) handler left).trans (streamPart_sending (s := s.begin now) granted st)
    refine ⟨fun r rest takes => ?_, fun r rest takes => ?_, fun st handler left => ⟨fun cursor last total source => ?_,
      fun cursor source => ?_⟩, fun st handler waits => ?_⟩
    · intro first count
      refine ⟨fun bad => ?_, fun low some => ?_⟩
      · obtain ⟨only, blocks⟩ := takeRequest_reads (now := now) takes (ownLogRead_bad bad _)
        exact ⟨_, rfl, only, blocks⟩
      · intro st
        rw [hlog]
        refine sent _ _ _ _ ?_ (answerPlaced_sending (r := r) granted _)
        rw [← ownLogRead_good low some, ← takeRequest_taken takes]
        rfl
    · rw [hplan]
      refine sent _ _ _ _ ?_ (answerPlaced_sending (r := r) granted _)
      show Host.Outcome.next (takeRequest 0x11 0 now ownPlanGet s) = _
      rw [takeRequest_taken takes]
      rfl
    · rw [hlog, ← source]
      exact sent _ _ st _ rfl (event_lineBecomes (next st handler left))
    · rw [hplan, ← source]
      exact sent _ _ st _ rfl (event_lineBecomes (next st handler left))
    · exact ⟨_, rfl, event_idle (nextPart_waiting handler waits)⟩
end

section
/-! The receiver (O2, O3), admission (O4) and the silence of the link (O5), with the rules of the mode, the conditions and
the counters that these and later statements use. -/

namespace Sys2Proof.Machine

/-! ### Counters -/

/-- A counter after its increase, and the others (R23). -/
theorem State.counter_count (s : State) {n : Nat} (low : 1 ≤ n) (high : n ≤ 17) (m : Nat) (one : 1 ≤ m) :
    (s.count n).counter m = if m = n then min (s.counter n + 1) 65535 else s.counter m := by
  have inside : n - 1 < 17 := by omega
  unfold State.count State.addCounter State.counter
  by_cases h : m = n
  · subst h
    have place : m - 1 + 1 = m := by omega
    simp [inside, Config.counterCap, place, Vector.get_eq_getElem]
  · rw [if_neg h]
    by_cases hm : m - 1 < 17
    · have other : m - 1 + 1 ≠ n := by omega
      simp [hm, other, Vector.get_eq_getElem]
    · simp [hm]

/-! ### Changes of mode -/

/-- MP after a change of mode (R27). -/
theorem changeMode_mp (m : Mode) (s : State) : (changeMode m s).mp = { s.mp with mode := m } := by
  unfold changeMode
  split
  · rename_i h
    rw [← h]
  · simp

/-- A change of mode is reported; an entry of the present mode is none (R27). -/
theorem changeMode_reports (m : Mode) (s : State) :
    (changeMode m s).reports = s.reports ++ if s.mp.mode = m then [] else [.mode m] := by
  unfold changeMode
  split <;> simp

/-- The mode after the test of the HOLD causes (R34). -/
def State.testedMode (s : State) : Mode :=
  match s.mp.mode with
  | .auto => if s.mp.holdCauses.present then .hold else .auto
  | .hold => if s.mp.holdCauses.present then .hold else .auto
  | .start => .start
  | .standby => .standby
  | .manual => .manual

/-- The state that enters the tested mode: AUTO that gives way to HOLD is counted (R34). -/
def State.holdCounted (s : State) : State :=
  if s.mp.mode = .auto ∧ s.mp.holdCauses.present = true then s.count 17 else s

/-- The test of the HOLD causes is a change to the tested mode (R34). -/
theorem holdTest_eq (s : State) : holdTest s = changeMode s.testedMode s.holdCounted := by
  unfold holdTest State.testedMode State.holdCounted
  cases h : s.mp.mode <;> cases s.mp.holdCauses.present <;> simp [changeMode, h]

@[simp] theorem State.holdCounted_keeps (s : State) :
    s.holdCounted.mp = s.mp ∧ s.holdCounted.reports = s.reports ∧ s.holdCounted.li = s.li := by
  unfold State.holdCounted
  split <;> simp

theorem holdTest_mp (s : State) : (holdTest s).mp = { s.mp with mode := s.testedMode } := by
  rw [holdTest_eq, changeMode_mp, s.holdCounted_keeps.1]

theorem holdTest_reports (s : State) :
    (holdTest s).reports = s.reports ++ if s.mp.mode = s.testedMode then [] else [.mode s.testedMode] := by
  rw [holdTest_eq, changeMode_reports, s.holdCounted_keeps.1, s.holdCounted_keeps.2.1]

theorem holdTest_counters (s : State) : (holdTest s).counters = s.holdCounted.counters := by
  rw [holdTest_eq, (changeMode_keeps _ _).2.2.1]

/-! ### Conditions of trip sources -/

/-- The state of a trip source after a report of its condition (R203). -/
def SourceState.after (present : Bool) : SourceState → SourceState
  | .clear => if present then .active else .clear
  | .latched => if present then .active else .latched
  | .active => if present then .active else .latched

theorem setSource_source (i j : Source) (st : SourceState) (s : State) :
    (setSource i st s).source j = if j = i then st else s.source j := by
  have sources : (setSource i st s).tu.sources = s.tu.sources.set i.val st i.isLt := by simp [setSource]
  unfold State.source
  rw [sources, Vector.get_eq_getElem, Vector.getElem_set]
  by_cases h : j = i
  · simp [h]
  · have : i.val ≠ j.val := fun k => h (Fin.ext k.symm)
    simp [h, this, Vector.get_eq_getElem]

/-- A report concerns its own source alone (R203). -/
theorem condition_source (i j : Source) (b : Bool) (s : State) :
    (condition i b s).source j = if j = i then (s.source i).after b else s.source j := by
  have entered : ∀ u : State, (if i = Source.emergency then emergencyStandby u else u).source j = u.source j := fun u => by
    split <;> simp [State.source]
  have reported : ((setSource i .active s).report (.trip i)).source j = if j = i then .active else s.source j :=
    setSource_source i j .active s
  unfold condition
  split <;> rename_i h
  · rw [entered, reported]
    simp [h, SourceState.after]
  · rw [entered, reported]
    simp [h, SourceState.after]
  · rw [setSource_source]
    simp [h, SourceState.after]
  all_goals
    by_cases hj : j = i
    · simp [hj, h, SourceState.after]
    · simp [hj]

/-- No source but EMERGENCY changes the mode, and a source that enters ACTIVE is reported (R37, R203). -/
theorem condition_other {i : Source} (h : i ≠ Source.emergency) (b : Bool) (s : State) :
    (condition i b s).mp = s.mp ∧
      (condition i b s).reports = s.reports ++ if b = true ∧ s.source i ≠ .active then [.trip i] else [] := by
  unfold condition
  split <;> rename_i hs <;> simp [h, hs]

/-! ### The receiver -/

theorem receiveByte_other {s : State} {b : Byte} (hunt : s.li.receiver = .hunt) (h : b ≠ 0xC3) : receiveByte s b = s := by
  unfold receiveByte
  rw [hunt]
  exact if_neg h

theorem receiveByte_lead {s : State} (hunt : s.li.receiver = .hunt) : receiveByte s 0xC3 =
    s.putLi { s.li with receiver := .collect [0xC3], gapTimer := some (s.timer Config.gapTime) } := by
  unfold receiveByte
  rw [hunt]
  exact if_pos rfl

/-- A length byte outside its range discards the frame (R2). -/
theorem receiveByte_badLength {s : State} {lead b : Byte} (collect : s.li.receiver = .collect [lead])
    (h : b.toNat < 2 ∨ 250 < b.toNat) : receiveByte s b = discardFrame s := by
  unfold receiveByte
  rw [collect]
  exact if_pos ⟨rfl, h⟩

/-- A byte that does not complete the frame is added (R1). -/
theorem receiveByte_more {s : State} {bytes : List Byte} {b : Byte} (collect : s.li.receiver = .collect bytes)
    (ok : ¬(bytes.length = 1 ∧ (b.toNat < 2 ∨ 250 < b.toNat)))
    (h : bytes.length + 1 ≠ byteAt (bytes ++ [b]) 1 + 4) : receiveByte s b =
    s.putLi { s.li with receiver := .collect (bytes ++ [b]), gapTimer := some (s.timer Config.gapTime) } := by
  unfold receiveByte
  rw [collect]
  dsimp only
  rw [if_neg ok, if_neg (by simpa using h)]

/-- The byte that brings the count to L + 4 completes the frame (R1). -/
theorem receiveByte_complete {s : State} {bytes : List Byte} {b : Byte} (collect : s.li.receiver = .collect bytes)
    (ok : ¬(bytes.length = 1 ∧ (b.toNat < 2 ∨ 250 < b.toNat)))
    (h : bytes.length + 1 = byteAt (bytes ++ [b]) 1 + 4) : receiveByte s b = frameComplete (bytes ++ [b]) s := by
  unfold receiveByte
  rw [collect]
  dsimp only
  rw [if_neg ok, if_pos (by simpa using h)]

/-- A complete frame leaves the receiver as it is left, whatever it collected before (R1, R2). -/
theorem frameComplete_putLi (bytes : List Byte) (s : State) (r : Receiver) (g : Option Timer) :
    frameComplete bytes (s.putLi { s.li with receiver := r, gapTimer := g }) = frameComplete bytes s := rfl

/-- The bytes that complete a frame (R1). -/
theorem receive_rest (lead len : Byte) : ∀ (more before : List Byte) (s : State),
    s.li.receiver = .collect (lead :: len :: before) → more ≠ [] → before.length + more.length = len.toNat + 2 →
    more.foldl receiveByte s = frameComplete (lead :: len :: (before ++ more)) s := by
  intro more
  induction more with
  | nil => intro _ _ _ h; exact absurd rfl h
  | cons b more ih =>
    intro before s collect _ count
    have ok : ¬((lead :: len :: before).length = 1 ∧ (b.toNat < 2 ∨ 250 < b.toNat)) := by simp
    have len1 : byteAt ((lead :: len :: before) ++ [b]) 1 = len.toNat := rfl
    rw [List.foldl_cons]
    cases more with
    | nil =>
      rw [receiveByte_complete collect ok (by rw [len1]; simp at count ⊢; omega)]
      rfl
    | cons c more =>
      rw [receiveByte_more collect ok (by rw [len1]; simp at count ⊢; omega),
        ih (before ++ [b]) _ rfl (by simp) (by simp at count ⊢; omega), frameComplete_putLi]
      simp

/-- A whole frame received in HUNT is completed by its last byte (R1). -/
theorem receive_frame {s : State} (hunt : s.li.receiver = .hunt) {len : Byte} {rest : List Byte} (low : 2 ≤ len.toNat)
    (high : len.toNat ≤ 250) (count : rest.length = len.toNat + 2) :
    (0xC3 :: len :: rest).foldl receiveByte s = frameComplete (0xC3 :: len :: rest) s := by
  rw [List.foldl_cons, receiveByte_lead hunt, List.foldl_cons]
  have len1 : byteAt ([0xC3] ++ [len]) 1 = len.toNat := rfl
  rw [receiveByte_more (bytes := [0xC3]) rfl (by simp; omega) (by rw [len1]; simp)]
  rw [receive_rest 0xC3 len rest [] _ rfl (by rintro rfl; simp at count) (by simpa using count)]
  rfl

end Sys2Proof.Machine
end

section
/-! The operator line's receiver: O2, O3, O4, and the silence of the link: O5. -/

namespace Sys2Proof.Machine

/-! ### The end of an event at the line -/

/-- The end of an event leaves the receiver, the line and the request queue as the action has left them (R14). -/
theorem finish_line (s : State) : s.sameLine (finish s) ∧ (finish s).li.requestQueue = s.li.requestQueue := by
  obtain ⟨t, ⟨-, line, queue, -⟩, h⟩ := takeReports_line s
  have li : (finish s).li = t.li := by
    unfold finish
    rw [(sendRecords_keeps _).2.2.2.1, h]
  unfold State.sameLine at line ⊢
  rw [li]
  exact ⟨line, queue⟩

/-- An event that discards a frame does no more (R2). -/
theorem event_discard {s : State} {now : RunTime} {f : State → State}
    (h : f (s.begin now) = discardFrame (s.begin now)) :
    (event now f s).runTime = now ∧ (event now f s).pending = s.pending ∧
      (event now f s).blocks = (s.count 1).blocks ∧
      (event now f s).li = { s.li with receiver := .hunt, gapTimer := none } := by
  have quiet : (discardFrame (s.begin now)).NoReport :=
    (State.begin_noReport now s).of_eq (by simp [discardFrame]) (by simp [discardFrame]) (by simp [discardFrame])
  unfold event
  rw [h]
  refine ⟨by simp [discardFrame], by simp [discardFrame], (finish_blocks _).trans rfl, ?_⟩
  rw [finish_li quiet]
  simp [discardFrame]

/-! ### Complete frames -/

@[simp] theorem linkHeard_li (s : State) :
    (linkHeard s).li = { s.li with linkTimer := some (s.timer (s.par .linkSilenceTime)) } := by
  unfold linkHeard
  dsimp only
  split <;> simp

/-- A request is appended, answered BUSY or dropped, as the queue and the refusal slot stand (R3). -/
theorem admitRequest_li (r : Request) (s : State) : (admitRequest r s).li = { s.li with
    requestQueue := (admitRequest r s).li.requestQueue, refusal := (admitRequest r s).li.refusal } := by
  unfold admitRequest
  split
  · rfl
  · split <;> simp

theorem frameComplete_receiver (bytes : List Byte) (s : State) :
    (frameComplete bytes s).li.receiver = .hunt ∧ (frameComplete bytes s).li.gapTimer = none := by
  unfold frameComplete
  split
  · rw [admitRequest_li]
    simp
  · simp [discardFrame]

/-- A complete frame whose check fails is discarded (R2). -/
theorem frameComplete_bad {bytes : List Byte} (h : frameChecks bytes = false) (s : State) :
    frameComplete bytes s = discardFrame s := by
  simp [frameComplete, h]

/-- The length byte of a frame with a body of at most 248 bytes. -/
theorem frame_length {body : List Byte} (short : body.length ≤ 248) :
    (BitVec.ofNat 8 (body.length + 2)).toNat = body.length + 2 := by
  simp
  omega

/-- A frame of section 1.12 received in HUNT is complete with its last byte (R1). -/
theorem receive_body {s : State} (hunt : s.li.receiver = .hunt) (kind tag : Byte) {body check : List Byte}
    (short : body.length ≤ 248) (two : check.length = 2) :
    (0xC3 :: ((BitVec.ofNat 8 (body.length + 2) :: kind :: tag :: body) ++ check)).foldl receiveByte s =
      frameComplete (0xC3 :: ((BitVec.ofNat 8 (body.length + 2) :: kind :: tag :: body) ++ check)) s := by
  have len := frame_length short
  have whole : 0xC3 :: ((BitVec.ofNat 8 (body.length + 2) :: kind :: tag :: body) ++ check) =
      0xC3 :: BitVec.ofNat 8 (body.length + 2) :: (kind :: tag :: (body ++ check)) := rfl
  rw [whole]
  exact receive_frame hunt (by omega) (by omega) (by simp [two, len])

/-- The request of a frame is the one that it carries (R3). -/
theorem requestOf_frame (kind tag : Byte) (body : List Byte) : requestOf (frame kind tag body) = ⟨kind, tag, body⟩ := by
  have whole : frame kind tag body = [0xC3, BitVec.ofNat 8 (body.length + 2), kind, tag] ++ body ++
      checkBytes (BitVec.ofNat 8 (body.length + 2) :: kind :: tag :: body) := rfl
  have bodyOf : ((frame kind tag body).take ((frame kind tag body).length - 2)).drop 4 = body := by
    have len : (frame kind tag body).length - 2 = ([0xC3, BitVec.ofNat 8 (body.length + 2), kind, tag] ++ body).length := by
      rw [whole, List.length_append, checkBytes_length, Nat.add_sub_cancel]
    rw [len, whole, List.take_left]
    rfl
  unfold requestOf
  rw [bodyOf]
  rfl

theorem badCharacter_hunt {s : State} (hunt : s.li.receiver = .hunt) : badCharacter s = s := by
  simp [badCharacter, hunt]

theorem badCharacter_collect {s : State} {bytes : List Byte} (collect : s.li.receiver = .collect bytes) :
    badCharacter s = discardFrame s := by
  simp [badCharacter, collect]

/-- More than the gap time after a byte of a frame the frame is discarded (R2). -/
theorem gapExpiry_passed {s : State} {bytes : List Byte} {g : Timer} (collect : s.li.receiver = .collect bytes)
    (timer : s.li.gapTimer = some g) (passed : g.duration < s.runTime.since g.start) : gapExpiry s = discardFrame s := by
  simp [gapExpiry, collect, State.gapPassed, timer, passed]

/-- A frame of section 1.12 received in HUNT is a request that is admitted (R1, R3, R19). -/
theorem receive_good {s : State} (hunt : s.li.receiver = .hunt) (kind tag : Byte) {body : List Byte}
    (short : body.length ≤ 248) : (frame kind tag body).foldl receiveByte s =
      admitRequest ⟨kind, tag, body⟩ (linkHeard (s.putLi { s.li with receiver := .hunt, gapTimer := none })) := by
  have received := receive_body hunt kind tag short (checkBytes_length
    (BitVec.ofNat 8 (body.length + 2) :: kind :: tag :: body))
  have complete : frameComplete (frame kind tag body) s =
      admitRequest ⟨kind, tag, body⟩ (linkHeard (s.putLi { s.li with receiver := .hunt, gapTimer := none })) := by
    unfold frameComplete
    rw [if_pos (frameChecks_frame kind tag body), requestOf_frame]
  exact received.trans complete

/-! ### Admission -/

/-- Admission looks at the request queue, the refusal slot and its counters alone (R3). -/
theorem admitRequest_congr {s w : State} (r : Request) (queue : w.li.requestQueue = s.li.requestQueue)
    (refusal : w.li.refusal = s.li.refusal) (two : w.counter 2 = s.counter 2) (three : w.counter 3 = s.counter 3) :
    (admitRequest r w).li.requestQueue = (admitRequest r s).li.requestQueue ∧
      (admitRequest r w).li.refusal = (admitRequest r s).li.refusal ∧
      (admitRequest r w).counter 2 = (admitRequest r s).counter 2 ∧
      (admitRequest r w).counter 3 = (admitRequest r s).counter 3 := by
  have counted : ∀ u v : State, u.counter 2 = v.counter 2 → u.counter 3 = v.counter 3 → ∀ n, n = 2 ∨ n = 3 →
      (u.count n).counter 2 = (v.count n).counter 2 ∧ (u.count n).counter 3 = (v.count n).counter 3 := by
    intro u v h2 h3 n hn
    rcases hn with rfl | rfl <;> simp [State.counter_count, h2, h3]
  unfold admitRequest
  rw [queue, refusal]
  split
  · exact ⟨rfl, refusal, two, three⟩
  · split
    · obtain ⟨c2, c3⟩ := counted (w.putLi { w.li with refusal := some (singlePart r.kind r.tag (Reply.refuse .busy)) })
        (s.putLi { s.li with refusal := some (singlePart r.kind r.tag (Reply.refuse .busy)) }) two three 3 (.inr rfl)
      exact ⟨by simp [queue], by simp, c2, c3⟩
    · obtain ⟨c2, c3⟩ := counted w s two three 2 (.inl rfl)
      exact ⟨by simp [queue], by simp [refusal], c2, c3⟩

/-- Admission changes LI and a counter (R3). -/
@[simp] theorem admitRequest_keeps (r : Request) (s : State) :
    (admitRequest r s).runTime = s.runTime ∧ (admitRequest r s).params = s.params ∧ (admitRequest r s).mp = s.mp ∧
    (admitRequest r s).fc = s.fc ∧ (admitRequest r s).di = s.di ∧ (admitRequest r s).tu = s.tu ∧
    (admitRequest r s).pm = s.pm ∧ (admitRequest r s).reports = s.reports ∧
    (admitRequest r s).plateBusy = s.plateBusy ∧ (admitRequest r s).pending = s.pending := by
  unfold admitRequest
  split
  · simp
  · split <;> simp

/-- The blocks after admission: a counter at most. -/
theorem admitRequest_putLi (r : Request) (s : State) (now : RunTime) (li : LineInterface)
    (queue : li.requestQueue = s.li.requestQueue) (refusal : li.refusal = s.li.refusal) :
    (admitRequest r ((s.begin now).putLi li)).blocks = (admitRequest r s).blocks := by
  unfold admitRequest
  rw [show ((s.begin now).putLi li).li = li from rfl, queue, refusal]
  split
  · rfl
  · split <;> rfl

/-- A frame that is heard while the link is not silent restarts the timer and does no more (R19). -/
theorem linkHeard_heard {s : State} (h : s.li.linkTimer ≠ none) :
    linkHeard s = s.putLi { s.li with linkTimer := some (s.timer (s.par .linkSilenceTime)) } := by
  have heard : s.li.linkTimer.isNone = false := by
    cases hl : s.li.linkTimer with
    | none => exact absurd hl h
    | some g => rfl
  unfold linkHeard
  rw [heard]
  rfl

/-- A frame that ends a silence (R19, R33). -/
theorem linkHeard_silent {s : State} (h : s.li.linkTimer = none) : linkHeard s =
    holdTest (setLinkCause false (condition Source.linkSilent false
      (s.putLi { s.li with linkTimer := some (s.timer (s.par .linkSilenceTime)) }))) := by
  unfold linkHeard
  rw [h]
  rfl

/-- The end of a silence counts in counter 17 at most (R34). -/
theorem linkHeard_counter (s : State) {n : Nat} (low : 1 ≤ n) (high : n < 17) : (linkHeard s).counter n = s.counter n := by
  have tested : ∀ u : State, (holdTest u).counter n = u.counter n := fun u => by
    have same : (u.count 17).counter n = u.counter n := by
      rw [State.counter_count u (by decide) (by decide) n low, if_neg (by omega)]
    unfold State.counter at same ⊢
    rw [holdTest_counters]
    unfold State.holdCounted
    split
    · exact same
    · rfl
  by_cases h : s.li.linkTimer = none
  · rw [linkHeard_silent h, tested]
    simp [State.counter]
  · rw [linkHeard_heard h]
    rfl

/-! ### The silence of the link -/

/-- LI's timer, TU's source and MP's cause when the link falls silent or is heard again, before MP's test (R19, R33). -/
def linkReport (silent : Bool) (timer : Option Timer) (s : State) : State :=
  setLinkCause silent (condition Source.linkSilent silent (s.putLi { s.li with linkTimer := timer }))

theorem linkSilent_eq (s : State) : linkSilent s = holdTest (linkReport true none s) := rfl

theorem linkHeard_eq {s : State} (h : s.li.linkTimer = none) :
    linkHeard s = holdTest (linkReport false (some (s.timer (s.par .linkSilenceTime))) s) :=
  linkHeard_silent h

@[simp] theorem linkReport_keeps (silent : Bool) (timer : Option Timer) (s : State) :
    (linkReport silent timer s).runTime = s.runTime ∧ (linkReport silent timer s).params = s.params ∧
    (linkReport silent timer s).counters = s.counters ∧
    (linkReport silent timer s).li = { s.li with linkTimer := timer } ∧
    (linkReport silent timer s).fc = s.fc ∧ (linkReport silent timer s).di = s.di ∧
    (linkReport silent timer s).plateBusy = s.plateBusy ∧ (linkReport silent timer s).pending = s.pending := by
  simp [linkReport]

theorem linkReport_mp (silent : Bool) (timer : Option Timer) (s : State) :
    (linkReport silent timer s).mp = { s.mp with holdCauses := { s.mp.holdCauses with link := silent } } := by
  have mp := (condition_other (i := Source.linkSilent) (by decide) silent (s.putLi { s.li with linkTimer := timer })).1
  simp [linkReport, mp]

theorem linkReport_source (silent : Bool) (timer : Option Timer) (s : State) (j : Source) :
    (linkReport silent timer s).source j =
      if j = Source.linkSilent then (s.source Source.linkSilent).after silent else s.source j :=
  condition_source Source.linkSilent j silent (s.putLi { s.li with linkTimer := timer })

theorem linkReport_reports (silent : Bool) (timer : Option Timer) (s : State) :
    (linkReport silent timer s).reports = s.reports ++
      if silent = true ∧ s.source Source.linkSilent ≠ .active then [.trip Source.linkSilent] else [] :=
  (condition_other (i := Source.linkSilent) (by decide) silent (s.putLi { s.li with linkTimer := timer })).2

/-- A present LINK cause turns AUTO into HOLD (R34). -/
theorem linkReport_silent_mode (timer : Option Timer) (s : State) :
    (linkReport true timer s).testedMode = if s.mp.mode = .auto then .hold else s.mp.mode := by
  unfold State.testedMode
  rw [linkReport_mp]
  cases s.mp.mode <;> simp [HoldCauses.present]

/-- The absence of the LINK cause turns HOLD into AUTO if no cause is left (R34). -/
theorem linkReport_heard_mode (timer : Option Timer) {s : State} (h : s.mp.mode ≠ .auto) :
    (linkReport false timer s).testedMode =
      if s.mp.mode = .hold ∧ s.mp.holdCauses.depth = false ∧ s.mp.holdCauses.slope = false then .auto else s.mp.mode := by
  unfold State.testedMode
  rw [linkReport_mp]
  cases hm : s.mp.mode with
  | auto => exact absurd hm h
  | hold =>
    cases hd : s.mp.holdCauses.depth <;> cases hs : s.mp.holdCauses.slope <;> simp [HoldCauses.present, hd, hs]
  | start | standby | manual => simp

end Sys2Proof.Machine

open Sys2Proof Sys2Proof.Machine in
/-- Settles O2: one equation of `receiveByte` per case, and LI at power-on. -/
theorem receiverAssembles : Obligations.ReceiverAssembles := by
  unfold Obligations.ReceiverAssembles
  refine fun s now b => ⟨fun hunt other => ?_, fun hunt => ?_, fun bytes collect ok more => ⟨?_, fun lead => ?_⟩,
    fun bytes collect complete => ?_, fun e g o => ?_, fun k h => ?_⟩
  · exact ⟨_, rfl, event_idle (receiveByte_other (s := s.begin now) hunt other)⟩
  · exact ⟨_, rfl, event_lineBecomes (receiveByte_lead (s := s.begin now) hunt)⟩
  · exact ⟨_, rfl, event_lineBecomes (receiveByte_more (s := s.begin now) collect ok more)⟩
  · rw [lead]
    rfl
  · have ok : ¬(bytes.length = 1 ∧ (b.toNat < 2 ∨ 250 < b.toNat)) := fun ⟨one, _⟩ => by omega
    have received := receiveByte_complete (s := s.begin now) collect ok complete
    obtain ⟨⟨receiver, gap, -⟩, -⟩ := finish_line (frameComplete (bytes ++ [b]) (s.begin now))
    obtain ⟨hunt, stopped⟩ := frameComplete_receiver (bytes ++ [b]) (s.begin now)
    rw [← received] at receiver gap hunt stopped
    exact ⟨_, rfl, receiver.trans hunt, gap.trans stopped⟩
  · exact ⟨_, rfl, by rw [powerOn_li]; exact ⟨rfl, rfl⟩⟩
  · exact ⟨_, exec_moduleRestart h, by rw [restartModule_li]; exact ⟨rfl, rfl⟩⟩

open Sys2Proof Sys2Proof.Machine in
/-- Settles O3: each of the four discards is `discardFrame`. -/
theorem badFrameDiscarded : Obligations.BadFrameDiscarded := by
  unfold Obligations.BadFrameDiscarded
  intro s now discarded
  refine ⟨fun bytes g collect timer passed => ?_, fun lead l collect bad => ?_, fun bytes collect => ?_, fun hunt => ?_,
    fun kind tag body check hunt short two => ?_, fun c b => rfl, fun bytes => rfl⟩
  · exact ⟨_, rfl, event_discard (gapExpiry_passed (s := s.begin now) collect timer passed)⟩
  · refine ⟨_, rfl, event_discard (receiveByte_badLength (s := s.begin now) collect ?_)⟩
    simpa [Instr.wellFormed] using bad
  · exact ⟨_, rfl, event_discard (badCharacter_collect (s := s.begin now) collect)⟩
  · exact ⟨_, rfl, event_idle (badCharacter_hunt (s := s.begin now) hunt)⟩
  · intro counted wrong
    have received := receive_body (s := s.begin now) hunt kind tag short two
    have fails : frameChecks (0xC3 :: (counted ++ check)) = false := by
      rw [frameChecks_eq _ _ two]
      exact beq_eq_false_iff_ne.mpr wrong
    exact ⟨_, rfl, event_discard (received.trans (frameComplete_bad fails _))⟩

open Sys2Proof Sys2Proof.Machine in
/-- Settles O4: a good frame is `admitRequest` after `linkHeard`. -/
theorem requestAdmitted : Obligations.RequestAdmitted := by
  unfold Obligations.RequestAdmitted
  refine ⟨fun s now kind tag body hunt short => ?_, fun s e g o => ?_, fun s k h => ?_⟩
  · intro busy timer u
    have admitted : u = admitRequest ⟨kind, tag, body⟩ s := by
      unfold admitRequest
      by_cases room : s.li.requestQueue.length < 8
      · exact (if_pos room).trans (if_pos room).symm
      · refine (if_neg room).trans (Eq.trans ?_ (if_neg room).symm)
        cases slot : s.li.refusal with
        | none => exact if_pos rfl
        | some p => exact if_neg (by simp)
    have received := receive_good (s := s.begin now) hunt kind tag short
    generalize hv : (s.begin now).putLi { (s.begin now).li with receiver := .hunt, gapTimer := none } = v at received
    have step : exec (.frameReceived (frame kind tag body) now) s =
        .next (finish (admitRequest ⟨kind, tag, body⟩ (linkHeard v))) := by
      rw [← received]
      rfl
    obtain ⟨⟨receiver, gap, refusal, -, link⟩, queue⟩ := finish_line (admitRequest ⟨kind, tag, body⟩ (linkHeard v))
    have li := admitRequest_li ⟨kind, tag, body⟩ (linkHeard v)
    have heard := linkHeard_li v
    obtain ⟨sameQueue, sameRefusal, two, three⟩ := admitRequest_congr (s := s) (w := linkHeard v) ⟨kind, tag, body⟩
      (by rw [heard, ← hv]; rfl) (by rw [heard, ← hv]; rfl)
      (by rw [linkHeard_counter v (by decide) (by decide), ← hv]; rfl)
      (by rw [linkHeard_counter v (by decide) (by decide), ← hv]; rfl)
    rw [admitted]
    refine ⟨_, step, ?_, ?_, ?_, queue.trans sameQueue, refusal.trans sameRefusal, ?_, ?_, fun loud => ?_⟩
    · rw [receiver, li, heard, ← hv]
      rfl
    · rw [gap, li, heard, ← hv]
      rfl
    · rw [link, li, heard, ← hv]
      rfl
    · rw [← two]
      simp [State.counter]
    · rw [← three]
      simp [State.counter]
    · have plain : linkHeard v = (s.begin now).putLi
          { s.li with receiver := .hunt, gapTimer := none, linkTimer := timer } := by
        rw [linkHeard_heard (by rw [← hv]; exact loud), ← hv]
        rfl
      have quiet : (admitRequest ⟨kind, tag, body⟩ (linkHeard v)).NoReport :=
        (State.begin_noReport now s).of_eq (by simp [plain]) (by simp [plain]) (by simp [plain])
      refine ⟨by simp [plain], by simp [plain], ?_, ?_⟩
      · rw [finish_blocks, plain]
        exact admitRequest_putLi _ _ _ _ rfl rfl
      · rw [finish_li quiet, li, sameQueue, sameRefusal, heard, ← hv, admitRequest_li ⟨kind, tag, body⟩ s]
        simp only [hunt]
        rfl
  · exact ⟨_, rfl, by rw [powerOn_li]; exact ⟨rfl, rfl⟩⟩
  · exact ⟨_, exec_moduleRestart h, by rw [restartModule_li]; exact ⟨rfl, rfl⟩⟩

open Sys2Proof Sys2Proof.Machine in
/-- Settles O5: both are `linkReport` with MP's test behind it. -/
theorem linkSilence : Obligations.LinkSilence := by
  unfold Obligations.LinkSilence
  refine fun s now => ⟨fun g timer due => ?_, fun g timer early => ?_, fun kind tag body hunt short silent => ?_⟩
  · have expired : linkExpiry (s.begin now) = holdTest (linkReport true none (s.begin now)) := by
      have late : timerDue (s.begin now).li.linkTimer (s.begin now).runTime = true := by
        rw [(State.begin_keeps now s).2.2.1, timer]
        exact decide_eq_true due
      rw [← linkSilent_eq]
      exact if_pos late
    generalize hr : linkReport true none (s.begin now) = r at expired
    have step : exec (.linkSilenceExpiry now) s = .next (finish (holdTest r)) := by
      rw [← expired]
      rfl
    have mode : r.testedMode = if s.mp.mode = .auto then .hold else s.mp.mode := by
      rw [← hr]
      exact linkReport_silent_mode none (s.begin now)
    have mp : r.mp = { s.mp with holdCauses := { s.mp.holdCauses with link := true } } := by
      rw [← hr]
      exact linkReport_mp true none (s.begin now)
    have source : ∀ j, r.source j =
        if j = Source.linkSilent then (s.source Source.linkSilent).after true else s.source j := fun j => by
      rw [← hr]
      exact linkReport_source true none (s.begin now) j
    have sources : ∀ j, (finish (holdTest r)).source j = r.source j := fun j => by simp [State.source]
    have li : r.li = { s.li with linkTimer := none } := by simp [← hr]
    refine ⟨_, step, by simp [← hr], by simp [← hr], ?_, ?_, ?_, ?_, fun auto => ?_, ?_, fun i other => ?_,
      by simp [← hr], by simp [← hr], by simp [← hr]⟩
    · rw [(finish_line _).1.2.2.2.2]
      simp [li]
    · rw [sources, source, if_pos rfl]
      cases s.source Source.linkSilent <;> rfl
    · simp [holdTest_mp, mp]
    · simp [holdTest_mp, mode]
    · have present : r.mp.mode = .auto ∧ r.mp.holdCauses.present = true := by
        rw [mp]
        exact ⟨auto, by simp [HoldCauses.present]⟩
      have counted := State.counter_count r (n := 17) (by decide) (by decide) 17 (by decide)
      rw [if_pos rfl] at counted
      have kept : r.counter 17 = s.counter 17 := by simp [State.counter, ← hr]
      unfold State.counter at counted kept ⊢
      rw [(finish_keeps _).2.2.1, holdTest_counters, State.holdCounted, if_pos present, counted, kept]
    · refine finish_reported (by simp [li]) (by simp [li]) (by simp [li]) ?_ (by simp [← hr])
      have trip : r.reports = if s.source Source.linkSilent = .active then [] else [.trip Source.linkSilent] := by
        rw [← hr, linkReport_reports]
        show [] ++ (if true = true ∧ s.source Source.linkSilent ≠ .active then _ else _) = _
        by_cases active : s.source Source.linkSilent = .active <;> simp [active]
      rw [holdTest_reports, mode, mp, trip]
      by_cases auto : s.mp.mode = .auto <;> simp [auto]
    · rw [sources, source, if_neg other]
  · have running : ¬timerDue (s.begin now).li.linkTimer (s.begin now).runTime = true := by
      rw [(State.begin_keeps now s).2.2.1, timer]
      exact fun h => Nat.not_le_of_lt early (of_decide_eq_true h)
    exact ⟨_, rfl, event_idle (f := linkExpiry) (if_neg running)⟩
  · have received := receive_good (s := s.begin now) hunt kind tag short
    generalize hv : (s.begin now).putLi { (s.begin now).li with receiver := .hunt, gapTimer := none } = v at received
    rw [linkHeard_eq (s := v) (by rw [← hv]; exact silent)] at received
    generalize hr : linkReport false (some (v.timer (v.par .linkSilenceTime))) v = r at received
    have step : exec (.frameReceived (frame kind tag body) now) s =
        .next (finish (admitRequest ⟨kind, tag, body⟩ (holdTest r))) := by
      rw [← received]
      rfl
    have mp : r.mp = { s.mp with holdCauses := { s.mp.holdCauses with link := false } } := by
      rw [← hr, linkReport_mp, ← hv]
      rfl
    have source : ∀ j, r.source j =
        if j = Source.linkSilent then (s.source Source.linkSilent).after false else s.source j := fun j => by
      rw [← hr, linkReport_source, ← hv]
      rfl
    have sources : ∀ j, (finish (admitRequest ⟨kind, tag, body⟩ (holdTest r))).source j = r.source j := fun j => by
      simp [State.source]
    have li : r.li = { s.li with
        receiver := .hunt, gapTimer := none, linkTimer := some ⟨now, (s.par .linkSilenceTime).toNat⟩ } := by
      rw [← hr, (linkReport_keeps _ _ _).2.2.2.1, ← hv]
      rfl
    have admitted := admitRequest_li ⟨kind, tag, body⟩ (holdTest r)
    refine ⟨_, step, by simp [← hr, ← hv], ?_, ?_, ?_, fun i other => ?_, fun notAuto => ?_, by simp [← hr, ← hv],
      by simp [← hr, ← hv], by simp [← hr, ← hv]⟩
    · rw [(finish_line _).1.2.2.2.2, admitted]
      simp [li]
    · simp [holdTest_mp, mp]
    · rw [sources, source, if_pos rfl]
      cases s.source Source.linkSilent <;> rfl
    · rw [sources, source, if_neg other]
    · intro resumes
      have mode : r.testedMode = if resumes then .auto else s.mp.mode := by
        rw [← hr, linkReport_heard_mode _ (by rw [← hv]; exact notAuto), ← hv]
        rfl
      refine ⟨by simp [holdTest_mp, mode], finish_reported ?_ ?_ ?_ ?_ (by simp [← hr, ← hv])⟩
      · rw [admitted]
        simp [li]
      · rw [admitted]
        simp [li]
      · rw [admitted]
        simp [li]
      · have none : r.reports = [] := by
          rw [← hr, linkReport_reports, ← hv]
          simp
        rw [(admitRequest_keeps _ _).2.2.2.2.2.2.2.1, holdTest_reports, mode, mp, none]
        by_cases h : resumes
        · simp [h, notAuto]
        · simp [h]
end

section
/-! The tests before the owner (O7) and the refusals (O8). -/

namespace Sys2Proof.Machine

/-! ### Selectors -/

/-- The oldest request is of an unknown kind (R5). -/
theorem takeUnknown_taken {s : State} {now : RunTime} {r : Request} {rest : List Request} (hidle : s.li.handler = .idle)
    (hq : s.li.requestQueue = r :: rest) (h : knownKind r.kind.toNat = false) :
    takeUnknown now s = answerPlaced r (refuse .unknownKind (s.taken now rest)) := by
  unfold takeUnknown
  dsimp only
  split
  · rename_i r' rest' h1 h2
    have h2' : s.li.requestQueue = r' :: rest' := h2
    rw [hq] at h2'
    cases h2'
    rw [if_neg (by rw [h]; decide)]
    rfl
  · rename_i k
    exact absurd hq (k r rest hidle)

/-- A request whose owner refuses it changes nothing outside LI and ends no wait (R6). -/
theorem takeRequest_refused {s : State} {kind length : Nat} {now : RunTime} {owner : Request → State → Answer}
    {r : Request} {rest : List Request} {res : Result} (takes : s.Takes kind length r rest)
    (h : owner r (s.taken now rest) = refuse res (s.taken now rest)) :
    s.RepliedOnly (takeRequest kind length now owner s) now r rest res [] ∧
      (takeRequest kind length now owner s).blocks = s.blocks :=
  takeRequest_reads (reply := Reply.refuse res) takes h

theorem knownKind_false {k : Nat} (h : k < 0x01 ∨ 0x1B < k) : knownKind k = false := by
  simp [knownKind]
  omega

theorem wheelOf_none {n : Nat} (h : 1 < n) : wheelOf n = none := by
  unfold wheelOf
  split <;> simp_all

theorem directionOf_none {n : Nat} (h : 1 < n) : directionOf n = none := by
  unfold directionOf
  split <;> simp_all

theorem switchOf_none {n : Nat} (h : 1 < n) : switchOf n = none := by
  unfold switchOf
  split <;> simp_all

theorem waitCondOf_none {n : Nat} (h : n = 0 ∨ 6 < n) : waitCondOf n = none := by
  unfold waitCondOf
  split <;> simp_all

theorem modeOfCode_none {n : Nat} (h : 4 < n) : Mode.ofCode n = none := by
  unfold Mode.ofCode
  split <;> simp_all

theorem plateOf_none {n : Nat} (h : n = 0 ∨ 8 < n) : plateOf n = none := by
  refine List.find?_eq_none.mpr fun p _ => ?_
  have := p.isLt
  simp
  omega

theorem sourceOf_none {n : Nat} (h : n = 0 ∨ 13 < n) : sourceOf n = none := by
  refine List.find?_eq_none.mpr fun p _ => ?_
  have := p.isLt
  simp
  omega

/-! ### What an owner's answer changes -/

/-- An owner's answer on the state `u`: a refusal changes no block outside LI, and neither does an answer without a reply;
an answer with a reply leaves LI's handler and queues to the handler (R6, R8). -/
structure Answer.Orderly (u : State) (a : Answer) : Prop where
  runTime : a.1.runTime = u.runTime
  pending : a.1.pending = u.pending
  queue : a.1.li.requestQueue = u.li.requestQueue
  noReply : a.2 = none → a.1.blocks = u.blocks
  lineOnly : ∀ reply, a.2 = some reply → u.LineOnly { u with li := a.1.li }
  refusal : ∀ reply, a.2 = some reply → reply.result ≠ .done → reply.result ≠ .doneClamped → a.1.blocks = u.blocks

namespace Answer.Orderly

/-- A reply that leaves the state as it is, a refusal say (R6). -/
theorem of_unchanged (u : State) (reply : Reply) : Answer.Orderly u (u, some reply) where
  runTime := rfl
  pending := rfl
  queue := rfl
  noReply := by simp
  lineOnly := fun _ _ => .refl u
  refusal := fun _ _ _ _ => rfl

theorem refuse (u : State) (res : Result) : Answer.Orderly u (refuse res u) := of_unchanged u _

/-- An act that leaves LI alone, with a reply that is DONE or DONE_CLAMPED. -/
theorem of_act {u v : State} {reply : Reply} (runTime : v.runTime = u.runTime) (pending : v.pending = u.pending)
    (li : v.li = u.li) (done : reply.result = .done ∨ reply.result = .doneClamped) :
    Answer.Orderly u (v, some reply) where
  runTime := runTime
  pending := pending
  queue := by rw [li]
  noReply := by simp
  lineOnly := fun _ _ => by
    rw [li]
    exact .refl u
  refusal := fun _ h notDone notClamped => by
    cases h
    exact absurd done (not_or.mpr ⟨notDone, notClamped⟩)

theorem done {u v : State} (runTime : v.runTime = u.runTime) (pending : v.pending = u.pending) (li : v.li = u.li) :
    Answer.Orderly u (done v) :=
  of_act runTime pending li (.inl rfl)

theorem doneStored {u v : State} (clamped : Bool) (data : List Byte) (runTime : v.runTime = u.runTime)
    (pending : v.pending = u.pending) (li : v.li = u.li) : Answer.Orderly u (doneStored clamped data v) :=
  of_act runTime pending li (by cases clamped <;> simp [Reply.stored])

/-- No reply yet: LI alone has changed, but for its request queue. -/
theorem of_none {u : State} {li : LineInterface} (queue : li.requestQueue = u.li.requestQueue) :
    Answer.Orderly u (u.putLi li, none) where
  runTime := rfl
  pending := rfl
  queue := queue
  noReply := fun _ => rfl
  lineOnly := by simp
  refusal := by simp

end Answer.Orderly

/-- An act that ends waits, with the reply DONE (R16). -/
theorem Answer.Orderly.of_ended {u v : State} (runTime : v.runTime = u.runTime) (pending : v.pending = u.pending)
    (lineOnly : u.LineOnly { u with li := v.li }) : Answer.Orderly u (Machine.done v) where
  runTime := runTime
  pending := pending
  queue := lineOnly.2.2.1
  noReply := by simp [Machine.done]
  lineOnly := fun _ _ => lineOnly
  refusal := fun _ h notDone _ => by
    cases h
    exact absurd rfl notDone

/-- LI alone has changed, but for its request queue. -/
theorem Answer.Orderly.of_lineAlone {u v : State} (alone : v = u.putLi v.li)
    (queue : v.li.requestQueue = u.li.requestQueue) : Answer.Orderly u (Machine.noReply v) := by
  rw [alone]
  exact .of_none queue

/-! ### The owners -/

theorem storeParameter_keeps (p : ParamId) (v : Int) (s : State) : (storeParameter p v s).runTime = s.runTime ∧
    (storeParameter p v s).pending = s.pending ∧ (storeParameter p v s).li = s.li := by
  simp [storeParameter]

theorem ownParamSet_orderly (r : Request) (u : State) : Answer.Orderly u (ownParamSet r u) := by
  unfold ownParamSet
  dsimp only
  split
  · exact .refuse u _
  · exact .doneStored _ _ (storeParameter_keeps _ _ _).1 (storeParameter_keeps _ _ _).2.1 (storeParameter_keeps _ _ _).2.2

theorem ownParamGet_orderly (r : Request) (u : State) : Answer.Orderly u (ownParamGet r u) := by
  unfold ownParamGet
  dsimp only
  split <;> exact .of_unchanged u _

theorem modeSet_orderly (m : Mode) (u : State) : Answer.Orderly u (modeSet m u) := by
  unfold modeSet
  split
  · exact .refuse u _
  split
  · exact .refuse u _
  split
  · exact .of_unchanged u _
  split
  · split
    · exact .done (by simp) (by simp) (by simp)
    · exact .refuse u _
  · split
    · split <;> exact .done (by simp) (by simp) (by simp)
    · exact .refuse u _
  all_goals exact .done (by simp) (by simp) (by simp)

theorem ownModeSet_orderly (r : Request) (u : State) : Answer.Orderly u (ownModeSet r u) := by
  unfold ownModeSet
  split
  · exact .refuse u _
  · exact modeSet_orderly _ u

@[simp] theorem openPanel_li (n : Nat) (a i : Int) (s : State) :
    (openPanel n a i s).runTime = s.runTime ∧ (openPanel n a i s).pending = s.pending ∧ (openPanel n a i s).li = s.li := by
  simp [openPanel, resetOpenAtDepth]

theorem ownPanelOpen_orderly (r : Request) (u : State) : Answer.Orderly u (ownPanelOpen r u) := by
  unfold ownPanelOpen
  split
  · exact .refuse u _
  · exact .doneStored _ _ (by simp) (by simp) (by simp)

theorem cancelWaits_lineOnly (s : State) : s.LineOnly (cancelWaits s) := by
  unfold cancelWaits
  exact endWaits_lineOnly _ s

theorem closePanel_line (s : State) : (closePanel s).runTime = s.runTime ∧ (closePanel s).pending = s.pending ∧
    (closePanel s).li = (cancelWaits s).li := by
  obtain ⟨cancelled, -⟩ := cancelWaits_lineOnly s
  have runTime : (cancelWaits s).runTime = s.runTime :=
    (congrArg State.runTime cancelled).trans (State.putLi_keeps _ _).1
  have pending : (cancelWaits s).pending = s.pending :=
    (congrArg State.pending cancelled).trans (by simp)
  unfold closePanel
  generalize cancelWaits s = c at runTime pending ⊢
  dsimp only
  split <;> simp [runTime, pending]

theorem ownPanelClose_orderly (r : Request) (u : State) : Answer.Orderly u (ownPanelClose r u) := by
  obtain ⟨runTime, pending, li⟩ := closePanel_line u
  have lineOnly := cancelWaits_lineOnly u
  unfold ownPanelClose
  generalize closePanel u = v at runTime pending li ⊢
  generalize cancelWaits u = c at li lineOnly
  split
  · exact .of_ended runTime pending (by
      have same : ({ u with li := v.li } : State) = c := by
        rw [li]
        exact lineOnly.1.symm
      rw [same]
      exact lineOnly)
  · exact .refuse u _

theorem ownDepthZero_orderly (r : Request) (u : State) : Answer.Orderly u (ownDepthZero r u) := by
  unfold ownDepthZero
  dsimp only
  split
  · exact .refuse u _
  split
  · split
    · exact .done (by simp [zeroDepth, resetOpenAtDepth]) (by simp [zeroDepth, resetOpenAtDepth])
        (by simp [zeroDepth, resetOpenAtDepth])
    · exact .refuse u _
  · exact .refuse u _

theorem ownWheelSet_orderly (r : Request) (u : State) : Answer.Orderly u (ownWheelSet r u) := by
  unfold ownWheelSet
  split
  · unfold wheelSetTests
    split
    · exact .refuse u _
    split
    · exact .refuse u _
    split
    · exact .refuse u _
    · exact .doneStored _ _ (by simp) (by simp) (by simp)
  · exact .refuse u _

theorem ownWheelClear_orderly (r : Request) (u : State) : Answer.Orderly u (ownWheelClear r u) := by
  unfold ownWheelClear
  split
  · exact .refuse u _
  · split <;> exact .done (by simp) (by simp) (by simp)

theorem ownPumpSet_orderly (r : Request) (u : State) : Answer.Orderly u (ownPumpSet r u) := by
  unfold ownPumpSet
  split
  · exact .refuse u _
  split
  · exact .refuse u _
  · exact .doneStored _ _ (by simp) (by simp) (by simp)

theorem ownBackflush_orderly (r : Request) (u : State) : Answer.Orderly u (ownBackflush r u) := by
  unfold ownBackflush
  split
  · exact .refuse u _
  split
  · exact .done (by simp) (by simp) (by simp)
  · exact .refuse u _

theorem ownPlateMove_orderly (r : Request) (u : State) : Answer.Orderly u (ownPlateMove r u) := by
  unfold ownPlateMove
  split
  · exact .refuse u _
  · unfold plateMoveTests
    split
    · exact .refuse u _
    split
    · exact .refuse u _
    split
    · exact .refuse u _
    · exact .doneStored _ _ (by simp) (by simp) (by simp)

theorem ownPlateClear_orderly (r : Request) (u : State) : Answer.Orderly u (ownPlateClear r u) := by
  unfold ownPlateClear
  split
  · exact .refuse u _
  · exact .done rfl rfl rfl

theorem streamPart_alone (st : Stream) (s : State) :
    streamPart st s = s.putLi (streamPart st s).li ∧ (streamPart st s).li.requestQueue = s.li.requestQueue := by
  unfold streamPart
  dsimp only
  obtain ⟨before, -, queue, -⟩ := grantSlots_lineOnly s
  generalize grantSlots s = g at before queue ⊢
  generalize hp : g.putLi _ = p
  obtain ⟨behind, -, queue', -⟩ := grantSlots_lineOnly p
  have same : p.li.requestQueue = g.li.requestQueue := by rw [← hp]; rfl
  generalize grantSlots p = q at behind queue' ⊢
  refine ⟨?_, queue'.trans (same.trans queue)⟩
  rw [behind, ← hp, before]
  rfl

theorem ownPlanGet_orderly (r : Request) (u : State) : Answer.Orderly u (ownPlanGet r u) := by
  unfold ownPlanGet
  exact .of_lineAlone (streamPart_alone _ u).1 (streamPart_alone _ u).2

theorem ownLogRead_orderly (r : Request) (u : State) : Answer.Orderly u (ownLogRead r u) := by
  unfold ownLogRead
  dsimp only
  split
  · exact .refuse u _
  · exact .of_lineAlone (streamPart_alone _ u).1 (streamPart_alone _ u).2

theorem ownAwait_orderly (r : Request) (u : State) : Answer.Orderly u (ownAwait r u) := by
  unfold ownAwait
  split
  · exact .refuse u _
  · unfold postTests
    split
    · exact .refuse u _
    split
    · exact .refuse u _
    split
    · exact .refuse u _
    split
    · exact .of_unchanged u _
    split
    · exact .refuse u _
    · exact .of_none rfl

theorem ownAwaitCancel_orderly (r : Request) (u : State) : Answer.Orderly u (ownAwaitCancel r u) := by
  unfold ownAwaitCancel
  dsimp only
  split
  · generalize (fun e : WaitEntry => _) = f
    have lineOnly := endWaits_lineOnly f u
    generalize endWaits f u = v at lineOnly ⊢
    obtain ⟨alone, -⟩ := id lineOnly
    have same : ({ u with li := v.li } : State) = v := alone.symm
    exact .of_ended ((congrArg State.runTime alone).trans (by simp)) ((congrArg State.pending alone).trans (by simp))
      (same.symm ▸ lineOnly)
  · exact .refuse u _

theorem ownRestart_orderly (r : Request) (u : State) : Answer.Orderly u (ownRestart r u) := by
  unfold ownRestart
  split
  · exact .refuse u _
  · dsimp only
    obtain ⟨before, -, queue, -⟩ := cancelWaits_lineOnly u
    generalize cancelWaits u = c at before queue ⊢
    generalize hp : c.putLi _ = p
    obtain ⟨behind, -, queue', -⟩ := grantSlots_lineOnly p
    have same : p.li.requestQueue = c.li.requestQueue := by rw [← hp]; rfl
    generalize grantSlots p = q at behind queue' ⊢
    refine .of_lineAlone ?_ (queue'.trans (same.trans queue))
    rw [behind, ← hp, before]
    rfl

theorem ownTripClear_orderly (r : Request) (u : State) : Answer.Orderly u (ownTripClear r u) := by
  unfold ownTripClear
  split
  · exact .refuse u _
  · unfold tripClear
    split
    · exact .done (by simp) (by simp) (by simp)
    · exact .refuse u _
    · exact .of_unchanged u _

theorem ownTripForce_orderly (r : Request) (u : State) : Answer.Orderly u (ownTripForce r u) := by
  unfold ownTripForce
  split
  · exact .refuse u _
  · exact .done (by simp) (by simp) (by simp)

theorem ownTripMapSet_orderly (r : Request) (u : State) : Answer.Orderly u (ownTripMapSet r u) := by
  unfold ownTripMapSet
  split
  · exact .refuse u _
  split
  · unfold tripMapSet
    split
    · exact .refuse u _
    split
    · exact .refuse u _
    · exact .done (by simp) (by simp) (by simp)
  · exact .refuse u _

theorem finish_pending (s : State) : (finish s).pending = s.pending := by
  simp

/-- A request whose owner answers it orderly: a refusal leaves every block outside LI as it was (R6). -/
theorem answerPlaced_orderly {s : State} {now : RunTime} {r : Request} {rest : List Request} {a : Answer}
    (hidle : s.li.handler = .idle) (hq : s.li.requestQueue = r :: rest) (h : Answer.Orderly (s.taken now rest) a) :
    (answerPlaced r a).runTime = now ∧ (answerPlaced r a).pending = s.pending ∧
      (answerPlaced r a).li.requestQueue = rest ∧
      ∀ res data, (answerPlaced r a).Answered r res data → res ≠ .done → res ≠ .doneClamped →
        (answerPlaced r a).blocks = s.blocks := by
  obtain ⟨v, reply⟩ := a
  cases reply with
  | none =>
    have finished : answerPlaced r (v, none) = finish v := rfl
    rw [finished]
    refine ⟨(finish_keeps v).1.trans h.runTime, (finish_pending v).trans h.pending, (finish_line v).2.trans h.queue, fun _ _ _ _ _ => ?_⟩
    rw [finish_blocks]
    exact h.noReply rfl
  | some reply =>
    obtain ⟨⟨runTime, pending, queue, -, -, answered⟩, blocks, -⟩ := answerPlaced_replied (u := v) (reply := reply) hidle hq
      ⟨h.runTime, h.pending⟩ (h.lineOnly reply rfl)
    refine ⟨runTime, pending, queue, fun res data other notDone notClamped => blocks.trans ?_⟩
    have same : singlePart r.kind r.tag ⟨res, data⟩ = singlePart r.kind r.tag reply := by
      rcases answered with ⟨idle, last⟩ | ⟨placing, -⟩ <;> rcases other with ⟨idle', last'⟩ | ⟨placing', -⟩
      · exact Option.some.inj (last'.symm.trans last)
      · simp [idle] at placing'
      · simp [placing] at idle'
      · exact Handler.placing.inj (placing'.symm.trans placing)
    have result : res = reply.result := congrArg ReplyPart.result same
    exact h.refusal reply rfl (result ▸ notDone) (result ▸ notClamped)

/-- Every owner but the three of the plan load answers orderly (R6). -/
theorem requestRows_orderly {row : (RunTime → Instr) × Nat × Nat} (h : row ∈ requestRows) (notOpen : row.2.1 ≠ 0x0E)
    (notBand : row.2.1 ≠ 0x0F) (notClose : row.2.1 ≠ 0x10) : ∃ owner : Request → State → Answer,
      (∀ now s, exec (row.1 now) s = .next (takeRequest row.2.1 row.2.2 now owner s)) ∧
      ∀ r u, Answer.Orderly u (owner r u) := by
  simp only [requestRows, List.mem_cons, List.not_mem_nil, or_false] at h
  rcases h with rfl | rfl | rfl | rfl | rfl | rfl | rfl | rfl | rfl | rfl | rfl | rfl | rfl | rfl | rfl | rfl | rfl | rfl |
    rfl | rfl | rfl | rfl | rfl | rfl | rfl | rfl | rfl
  · exact ⟨ownStatusGet, fun _ _ => rfl, fun _ u => .of_unchanged u _⟩
  · exact ⟨_, fun _ _ => rfl, ownParamSet_orderly⟩
  · exact ⟨_, fun _ _ => rfl, ownParamGet_orderly⟩
  · exact ⟨_, fun _ _ => rfl, ownModeSet_orderly⟩
  · exact ⟨_, fun _ _ => rfl, ownPanelOpen_orderly⟩
  · exact ⟨_, fun _ _ => rfl, ownPanelClose_orderly⟩
  · exact ⟨_, fun _ _ => rfl, ownDepthZero_orderly⟩
  · exact ⟨_, fun _ _ => rfl, ownWheelSet_orderly⟩
  · exact ⟨_, fun _ _ => rfl, ownWheelClear_orderly⟩
  · exact ⟨_, fun _ _ => rfl, ownPumpSet_orderly⟩
  · exact ⟨_, fun _ _ => rfl, ownBackflush_orderly⟩
  · exact ⟨_, fun _ _ => rfl, ownPlateMove_orderly⟩
  · exact ⟨_, fun _ _ => rfl, ownPlateClear_orderly⟩
  · exact absurd rfl notOpen
  · exact absurd rfl notBand
  · exact absurd rfl notClose
  · exact ⟨_, fun _ _ => rfl, ownPlanGet_orderly⟩
  · exact ⟨_, fun _ _ => rfl, ownLogRead_orderly⟩
  · exact ⟨ownTransitGet, fun _ _ => rfl, fun _ u => .of_unchanged u _⟩
  · exact ⟨_, fun _ _ => rfl, ownAwait_orderly⟩
  · exact ⟨_, fun _ _ => rfl, ownAwaitCancel_orderly⟩
  · exact ⟨ownCountersRead, fun _ _ => rfl, fun _ u =>
      .of_act (reply := Reply.ok u.counterData) rfl rfl rfl (.inl rfl)⟩
  · exact ⟨ownTripGet, fun _ _ => rfl, fun _ u => .of_unchanged u _⟩
  · exact ⟨_, fun _ _ => rfl, ownTripClear_orderly⟩
  · exact ⟨_, fun _ _ => rfl, ownTripForce_orderly⟩
  · exact ⟨_, fun _ _ => rfl, ownTripMapSet_orderly⟩
  · exact ⟨_, fun _ _ => rfl, ownRestart_orderly⟩

end Sys2Proof.Machine

open Sys2Proof Sys2Proof.Machine in
/-- Settles O7: each test stands before the owner's own, so that the owner refuses. -/
theorem testsBeforeOwner : Obligations.TestsBeforeOwner := by
  unfold Obligations.TestsBeforeOwner
  refine fun s now r rest hidle hq => ⟨fun unknown => ?_, fun row hrow kind length => ?_, ?_⟩
  · have step : exec (.requestUnknownKind now) s =
        .next (answerPlaced r (s.taken now rest, some (Reply.refuse .unknownKind))) :=
      congrArg Host.Outcome.next (takeUnknown_taken hidle hq (knownKind_false unknown))
    obtain ⟨only, blocks⟩ := answerPlaced_only (now := now) (Reply.refuse .unknownKind) hidle hq
    exact ⟨_, step, only, blocks⟩
  · obtain ⟨owner, he⟩ := requestRows_owner hrow
    obtain ⟨only, blocks⟩ := answerPlaced_only (now := now) (Reply.refuse .badLength) hidle hq
    exact ⟨_, (he now s).trans (congrArg _ (takeRequest_badLength hidle hq kind length)), only, blocks⟩
  intro refused b
  have refuses : ∀ {kind length : Nat} {owner : Request → State → Answer} {c : RunTime → Instr},
      exec (c now) s = .next (takeRequest kind length now owner s) → s.Takes kind length r rest →
      owner r (s.taken now rest) = refuse .badValue (s.taken now rest) → refused c := fun step takes h =>
    have ⟨only, blocks⟩ := takeRequest_refused takes h
    ⟨_, step, only, blocks⟩
  refine ⟨fun takes h => refuses rfl takes ?_, fun takes h => refuses rfl takes ?_, fun takes h => refuses rfl takes ?_,
    fun takes h => refuses rfl takes ?_, fun takes h => refuses rfl takes ?_, fun takes h => refuses rfl takes ?_,
    fun takes h => refuses rfl takes ?_, fun takes h => refuses rfl takes ?_, fun takes h => refuses rfl takes ?_,
    fun takes h => refuses rfl takes ?_⟩
  · unfold ownWheelSet
    rcases h with h | h
    · rw [wheelOf_none h]
    · rw [directionOf_none h]
      cases wheelOf (byteAt r.body 0) <;> rfl
  · rw [ownWheelClear, wheelOf_none h]
  · rw [ownPlateMove, plateOf_none h]
  · rw [ownPlateClear, plateOf_none h]
  · rw [ownTripClear, sourceOf_none h]
  · unfold ownTripMapSet
    by_cases unknown : b 0 = 0 ∨ 13 < b 0
    · rw [sourceOf_none unknown]
    · have wide : ¬byteAt r.body 1 < 32 := fun k => by
        rcases h with h | h | h
        · exact unknown (.inl h)
        · exact unknown (.inr h)
        · exact Nat.not_lt_of_le (Nat.le_of_lt_succ k) h
      cases sourceOf (byteAt r.body 0) with
      | none => rfl
      | some i => exact if_neg wide
  · rw [ownAwait, waitCondOf_none h]
  · rw [ownModeSet, modeOfCode_none h]
  · rw [ownRestart, switchOf_none h]
  · rw [ownTripForce, switchOf_none h]

open Sys2Proof Sys2Proof.Machine in
/-- Settles O8: every owner answers orderly. -/
theorem refusalChangesNothing : Obligations.RefusalChangesNothing := by
  unfold Obligations.RefusalChangesNothing
  intro s now r rest row hrow notOpen notBand notClose takes
  obtain ⟨owner, step, orderly⟩ := requestRows_orderly hrow notOpen notBand notClose
  have placed := answerPlaced_orderly takes.1 takes.2.1 (orderly r (s.taken now rest))
  rw [← takeRequest_taken takes] at placed
  exact ⟨_, step now s, placed⟩
end

section
/-! MODE_SET (O22), and the locality of the operations that it uses: they neither read nor write LI, the run time and the
scratch fields of the event. -/

namespace Sys2Proof.Machine

/-! ### Locality -/

/-- The blocks of `s` amid the run time, the line and the event of `l`. -/
def State.amid (s l : State) : State :=
  { s with runTime := l.runTime, li := l.li, sent := l.sent, reports := l.reports, plateBusy := l.plateBusy, pending := l.pending }

@[simp] theorem State.amid_blocks (s l : State) : (s.amid l).blocks = s.blocks := rfl

theorem State.mp_of_blocks {s t : State} (h : s.blocks = t.blocks) : s.mp = t.mp := congrArg Blocks.mp h

/-- A state stands amid its own line and event. -/
theorem State.eq_amid {s t : State} (params : t.params = s.params) (counters : t.counters = s.counters) (mp : t.mp = s.mp)
    (fc : t.fc = s.fc) (di : t.di = s.di) (sl : t.sl = s.sl) (pm : t.pm = s.pm) (wd : t.wd = s.wd) (sr : t.sr = s.sr)
    (tu : t.tu = s.tu) : t = s.amid t := by
  cases s
  cases t
  simp_all [State.amid]

theorem steeringEnter_amid (s l : State) : steeringEnter (s.amid l) = (steeringEnter s).amid l := by
  unfold steeringEnter
  by_cases h : s.mp.mode = .manual
  · rw [if_pos h]
    exact if_pos h
  · rw [if_neg h]
    exact if_neg h

theorem wheelsEnter_amid (old : Mode) (s l : State) : wheelsEnter old (s.amid l) = (wheelsEnter old s).amid l := rfl

theorem platesEnter_amid (s l : State) : platesEnter (s.amid l) = (platesEnter s).amid l := by
  unfold platesEnter
  show (match s.mp.mode with
    | .standby => platesStandby (s.amid l)
    | .manual => platesManual (s.amid l)
    | .start | .auto | .hold => s.amid l) = _
  cases s.mp.mode <;> rfl

theorem recomputePump_amid (s l : State) : recomputePump (s.amid l) = (recomputePump s).amid l := by
  unfold recomputePump
  show (match s.sr.pumpState with
    | .backflush => s.amid l
    | .off | .tripped => { s.amid l with sr := { s.sr with command := 0 } }
    | .idle | .manual => { s.amid l with sr := { s.sr with command := s.pumpFor s.flowBasis 0 } }
    | .balance => { s.amid l with sr := { s.sr with command := s.pumpFor s.flowBasis s.sr.trim } }) = _
  cases s.sr.pumpState <;> rfl

theorem refreshPump_amid (s l : State) : refreshPump (s.amid l) = (refreshPump s).amid l :=
  recomputePump_amid { s with sr := { s.sr with pumpState := s.pumpStateNow } } l

/-- SR's trim and backflush at a change of mode (R38). -/
def trimmed (s : State) : State :=
  { s with sr := { s.sr with
    trim := 0
    backflushTimer := if s.mp.mode = .standby then none else s.sr.backflushTimer } }

theorem slurryEnter_eq (old : Mode) (s : State) : slurryEnter old s = recomputePermit
    (if old = .start then recomputeFeedLimit (refreshPump (recomputeRequired (trimmed s)))
      else refreshPump (recomputeRequired (trimmed s))) := rfl

theorem slurryEnter_amid (old : Mode) (s l : State) : slurryEnter old (s.amid l) = (slurryEnter old s).amid l := by
  have pump : refreshPump (recomputeRequired (trimmed (s.amid l))) =
      (refreshPump (recomputeRequired (trimmed s))).amid l :=
    refreshPump_amid (recomputeRequired (trimmed s)) l
  rw [slurryEnter_eq, slurryEnter_eq, pump]
  split <;> rfl

/-- A change of mode leaves the same blocks whatever stands in LI and in the event (R27). -/
theorem changeMode_amid_blocks (m : Mode) (s l : State) : (changeMode m (s.amid l)).blocks = (changeMode m s).blocks := by
  unfold changeMode
  by_cases h : s.mp.mode = m
  · have amid : (s.amid l).mp.mode = m := h
    rw [if_pos h, if_pos amid]
    rfl
  · have amid : (s.amid l).mp.mode ≠ m := h
    rw [if_neg h, if_neg amid]
    show (slurryEnter s.mp.mode (platesEnter (wheelsEnter s.mp.mode
      (steeringEnter (({ s with mp := { s.mp with mode := m } } : State).amid l))))).blocks = _
    rw [steeringEnter_amid, wheelsEnter_amid, platesEnter_amid, slurryEnter_amid]
    rfl

/-! ### The answer of an owner -/

/-- What an answered request leaves is told by what its owner leaves (R4, R8, R14). -/
theorem answerPlaced_answer {s v : State} {now : RunTime} {r : Request} {rest : List Request} {reply : Reply}
    {reports : List Report} (hidle : s.li.handler = .idle) (hq : s.li.requestQueue = r :: rest) (time : v.runTime = now)
    (pending : v.pending = s.pending) (li : v.li = (s.taken now rest).li) (hr : v.reports = reports)
    (busy : v.plateBusy = s.pm.busy) :
    s.Replied (answerPlaced r (v, some reply)) now r rest reply.result reply.data ∧
      (answerPlaced r (v, some reply)).blocks = v.blocks ∧ s.Reported (answerPlaced r (v, some reply)) reports := by
  obtain ⟨replied, blocks, -⟩ := answerPlaced_replied (now := now) (u := v) (reply := reply) hidle hq ⟨time, pending⟩
    (by rw [li]; exact .refl _)
  exact ⟨replied, blocks, answerPlaced_reported (by rw [li]; rfl) (by rw [li]; rfl) (by rw [li]; rfl) hr busy⟩

/-! ### MODE_SET -/

/-- The change of mode of a request leaves LI and the event to be taken as they were but for its report (R27). -/
theorem changeMode_entered {s w : State} {now : RunTime} {rest : List Request} {m : Mode} (u : State)
    (time : w.runTime = now) (pending : w.pending = s.pending) (li : w.li = (s.taken now rest).li)
    (reports : w.reports = []) (busy : w.plateBusy = s.pm.busy) (same : w = u.amid w) (mp : u.mp = s.mp)
    (other : s.mp.mode ≠ m) :
    ((changeMode m w).runTime = now ∧ (changeMode m w).pending = s.pending ∧
      (changeMode m w).li = (s.taken now rest).li ∧ (changeMode m w).plateBusy = s.pm.busy) ∧
    (changeMode m w).reports = [.mode m] ∧ (changeMode m w).mp = { s.mp with mode := m } ∧
      (changeMode m w).blocks = (changeMode m u).blocks := by
  have mpW : w.mp = s.mp := (congrArg State.mp same).trans mp
  refine ⟨⟨by simpa using time, by simpa using pending, by simpa using li, by simpa using busy⟩, ?_, ?_, ?_⟩
  · rw [changeMode_reports, reports, mpW, if_neg other]
    rfl
  · rw [changeMode_mp, mpW]
  · rw [same]
    exact changeMode_amid_blocks m u w

theorem State.manualAllowed_iff (s : State) :
    s.manualAllowed = true ↔ ¬(s.source Source.emergency ≠ .clear ∨ s.mp.panel ≠ .opened) := by
  simp [State.manualAllowed]

theorem State.autoAllowed_iff (s : State) : s.autoAllowed = true ↔
    ¬((s.source Source.emergency ≠ .clear ∨ s.mp.panel ≠ .opened) ∨ s.fresh .depth = false ∨
      ∃ a, (s.fc.slopes.get a).case = SlopeCase.none) := by
  have axes : (∃ a, (s.fc.slopes.get a).case = SlopeCase.none) ↔
      s.fc.slopes.x.case = .none ∨ s.fc.slopes.y.case = .none := by
    constructor
    · rintro ⟨a, h⟩
      cases a
      · exact .inl h
      · exact .inr h
    · rintro (h | h)
      · exact ⟨.x, h⟩
      · exact ⟨.y, h⟩
  rw [axes, State.autoAllowed, Bool.and_eq_true, Bool.and_eq_true, Bool.and_eq_true, s.manualAllowed_iff]
  simp only [not_or, bne_iff_ne, ne_eq, Bool.not_eq_false, and_assoc]

theorem HoldCauses.present_iff (h : HoldCauses) : h.present = true ↔ h ≠ ⟨false, false, false⟩ := by
  obtain ⟨link, depth, slope⟩ := h
  cases link <;> cases depth <;> cases slope <;> decide

/-- MODE_SET past the tests of mode and argument (R36 steps 3 to 6). -/
theorem modeSet_tested {m : Mode} {s : State} (start : m ≠ .start) (hold : m ≠ .hold) (run : s.mp.mode ≠ .start)
    (other : ¬(m = s.mp.mode ∨ m = .auto ∧ s.mp.mode = .hold)) :
    (m = .standby → modeSet m s = done (changeMode m s)) ∧
    (m = .manual → modeSet m s = if s.manualAllowed then done (changeMode m s) else refuse .wrongState s) ∧
    (m = .auto → modeSet m s =
      if s.autoAllowed then
        done (if s.mp.holdCauses.present then changeMode .hold (s.count 17) else changeMode m s)
      else refuse .wrongState s) := by
  have pass : modeSet m s = _ := (if_neg (by simp [start, hold])).trans ((if_neg run).trans (if_neg other))
  rw [pass]
  refine ⟨?_, ?_, ?_⟩ <;> rintro rfl <;> rfl

end Sys2Proof.Machine

open Sys2Proof Sys2Proof.Machine in
/-- Settles O22: the tests of `modeSet` in their order. -/
theorem modeSetTests : Obligations.ModeSetTests := by
  unfold Obligations.ModeSetTests
  intro s now r rest m takes code answered entered cannotCut noSlope
  have hm : Mode.ofCode (byteAt r.body 0) = some m := by
    simp only [List.mem_cons, Prod.mk.injEq, List.not_mem_nil, or_false] at code
    rcases code with ⟨e, rfl⟩ | ⟨e, rfl⟩ | ⟨e, rfl⟩ | ⟨e, rfl⟩ | ⟨e, rfl⟩ <;> rw [e] <;> rfl
  have taken : exec (.modeSet now) s = .next (answerPlaced r (modeSet m (s.taken now rest))) := by
    have owner : ownModeSet r (s.taken now rest) = modeSet m (s.taken now rest) := by simp only [ownModeSet, hm]
    rw [← owner, ← takeRequest_taken takes]
    rfl
  have answers : ∀ res, modeSet m (s.taken now rest) = refuse res (s.taken now rest) → answered res := fun res h =>
    ⟨_, taken.trans (by rw [h]; rfl), answerPlaced_only (Reply.refuse res) takes.1 takes.2.1⟩
  have enters : ∀ m' u w, modeSet m (s.taken now rest) = done (changeMode m' w) → w.runTime = now →
      w.pending = s.pending → w.li = (s.taken now rest).li → w.reports = [] → w.plateBusy = s.pm.busy →
      w = ({ u with runTime := now } : State).amid w → u.mp = s.mp → s.mp.mode ≠ m' → entered m' u := by
    intro m' u w h time pending li reports busy same mp other
    obtain ⟨⟨timeV, pendingV, liV, busyV⟩, reportsV, mpV, blocksV⟩ :=
      changeMode_entered { u with runTime := now } time pending li reports busy same mp other
    refine ⟨_, taken.trans (by rw [h]), ?_⟩
    show _ ∧ _ = (changeMode m' { u with runTime := now }).blocks ∧ _
    generalize changeMode m' { u with runTime := now } = goal at blocksV ⊢
    generalize changeMode m' w = v at *
    obtain ⟨replied, blocks, reported⟩ :=
      answerPlaced_answer (reply := Reply.ok []) takes.1 takes.2.1 timeV pendingV liV reportsV busyV
    exact ⟨replied, blocks.trans blocksV, (State.mp_of_blocks blocks).trans mpV, reported⟩
  have entersPlain : ∀ m', modeSet m (s.taken now rest) = done (changeMode m' (s.taken now rest)) → s.mp.mode ≠ m' →
      entered m' s := fun m' h other => enters m' s _ h rfl rfl rfl rfl rfl rfl rfl other
  refine ⟨fun h => answers _ (if_pos h), fun start hold => ⟨fun h => ?_, fun run => ⟨fun h => ?_, fun other auto => ?_⟩⟩⟩
  · exact answers _ ((if_neg (by simp [start, hold])).trans (if_pos h))
  · exact answers _ ((if_neg (by simp [start, hold])).trans ((if_neg run).trans (if_pos h)))
  obtain ⟨standby, manual, toAuto⟩ := modeSet_tested (m := m) (s := s.taken now rest) start hold run fun h =>
    h.elim other fun ⟨isAuto, inHold⟩ => auto isAuto inHold
  refine ⟨fun e => ?_, fun e => ?_, fun e => ?_⟩
  · subst e
    exact entersPlain _ (standby rfl) (Ne.symm other)
  · subst e
    have allowed : (s.taken now rest).manualAllowed = true ↔ ¬cannotCut := (s.taken now rest).manualAllowed_iff
    exact ⟨fun no => answers _ ((manual rfl).trans (if_neg fun yes => allowed.1 yes no)),
      fun yes => entersPlain _ ((manual rfl).trans (if_pos (allowed.2 yes))) (Ne.symm other)⟩
  · subst e
    have allowed : (s.taken now rest).autoAllowed = true ↔ ¬(cannotCut ∨ s.fresh .depth = false ∨ noSlope) :=
      (s.taken now rest).autoAllowed_iff
    refine ⟨fun no => answers _ ((toAuto rfl).trans (if_neg fun yes => allowed.1 yes no)), fun cut fresh slopes => ?_⟩
    have yes := allowed.2 (by simp [cut, fresh, slopes])
    have pass := (toAuto rfl).trans (if_pos yes)
    intro causes
    refine ⟨fun none => entersPlain _ (pass.trans (congrArg Machine.done (if_neg fun h => ?_))) (Ne.symm other),
      fun some => enters .hold (s.count 17) ((s.taken now rest).count 17)
        (pass.trans (congrArg Machine.done (if_pos ?_))) rfl rfl rfl rfl rfl rfl rfl (auto rfl)⟩
    · exact (HoldCauses.present_iff _).1 h none
    · exact (HoldCauses.present_iff _).2 some
end

section
/-! Power-on (O20): while the three inputs report, the module stays at rest in START. -/

namespace Sys2Proof.Machine

/-- Mode, wheels, plan, plates and slurry as power-on starts them; TU's hand-offs reach the arbiter and the pump state
alone. -/
structure State.AtRest (s : State) : Prop where
  mp : s.mp = .initial
  wd : s.wd = ⟨⟨.initial, .initial⟩, 0⟩
  sl : s.sl = .initial
  pm : ∃ a, s.pm = { Manifold.initial with arbiter := a }
  sr : ∃ p, s.sr = { Slurry.initial with pumpState := p }

theorem State.initial_atRest (e g o : Level) (pending : List Instr) :
    ({ State.initial e g o with pending := pending } : State).AtRest :=
  ⟨rfl, rfl, rfl, ⟨_, rfl⟩, ⟨_, rfl⟩⟩

namespace State.AtRest

theorem mode {s : State} (h : s.AtRest) : s.mp.mode = .start := by
  rw [h.mp]
  rfl

theorem wheel {s : State} (h : s.AtRest) (w : WheelId) : s.wheel w = .initial := by
  unfold State.wheel
  rw [h.wd]
  cases w <;> rfl

/-- START gives no feed permit (R178). -/
theorem permit {s : State} (h : s.AtRest) : recomputePermit s = s := by
  obtain ⟨p, sr⟩ := h.sr
  have none : s.permitNow = s.sr.feedPermit := by
    rw [sr]
    simp [State.permitNow, h.mode, Slurry.initial]
  unfold recomputePermit
  rw [none]

/-- In START the pump is OFF or TRIPPED, and stands (R172, R174). -/
theorem pump {s : State} (h : s.AtRest) : (refreshPump s).AtRest := by
  obtain ⟨p, sr⟩ := h.sr
  have idle : s.backflushing = false := by
    unfold State.backflushing
    rw [sr]
    rfl
  have stands : s.pumpStateNow = .tripped ∨ s.pumpStateNow = .off := by
    unfold State.pumpStateNow
    rw [h.mode, idle]
    split
    · exact .inl rfl
    · exact .inr rfl
  unfold refreshPump
  rcases stands with e | e
  · rw [e, sr]
    exact ⟨h.mp, h.wd, h.sl, h.pm, ⟨.tripped, rfl⟩⟩
  · rw [e, sr]
    exact ⟨h.mp, h.wd, h.sl, h.pm, ⟨.off, rfl⟩⟩

theorem tripped {s : State} (h : s.AtRest) : (pumpTripped s).AtRest := by
  obtain ⟨p, sr⟩ := h.sr
  have same : ({ s with sr := { s.sr with backflushTimer := none, trim := 0, manualTarget := 0 } } : State) = s := by
    rw [sr]
    cases s
    simp_all [Slurry.initial]
  have rest := h.pump
  unfold pumpTripped
  rw [same, rest.permit]
  exact rest

/-- A block that TU tells of its group stays at rest (R152, R153, R169, R185, R186). -/
theorem told {s : State} (h : s.AtRest) (g : Group) (b : Bool) : (groupReport g b s).AtRest := by
  obtain ⟨a, pm⟩ := h.pm
  cases g with
  | wheel w =>
    cases b with
    | false => exact h
    | true =>
      show (wheelTripped w s).AtRest
      unfold wheelTripped
      rw [h.wheel]
      exact h
  | plates =>
    cases b with
    | false => exact ⟨h.mp, h.wd, h.sl, ⟨.idle, by rw [groupReport, platesRelease, pm]; rfl⟩, h.sr⟩
    | true => exact ⟨h.mp, h.wd, h.sl, ⟨.halted, by rw [groupReport, platesHalt, pm]; rfl⟩, h.sr⟩
  | pump =>
    cases b with
    | false =>
      have rest := h.pump
      show (recomputePermit (refreshPump s)).AtRest
      rw [rest.permit]
      exact rest
    | true => exact h.tripped
  | feed =>
    show (recomputePermit s).AtRest
    rw [h.permit]
    exact h

theorem groups {s : State} (h : s.AtRest) : (recomputeGroups s).AtRest := by
  unfold recomputeGroups
  refine List.foldlRecOn Group.all _ ?_ fun u hu g _ => ?_
  · exact ⟨h.mp, h.wd, h.sl, h.pm, h.sr⟩
  · split
    · exact hu
    · exact hu.told g _

theorem set {s : State} (h : s.AtRest) (i : Source) (st : SourceState) : (setSource i st s).AtRest :=
  groups ⟨h.mp, h.wd, h.sl, h.pm, h.sr⟩

/-- A condition leaves the module at rest; in START even EMERGENCY changes no mode (R37, R203). -/
theorem reported {s : State} (h : s.AtRest) (i : Source) (b : Bool) : (condition i b s).AtRest := by
  have active : (if i = Source.emergency then emergencyStandby ((setSource i .active s).report (.trip i))
      else (setSource i .active s).report (.trip i)).AtRest := by
    have rest := h.set i .active
    have told : ((setSource i .active s).report (.trip i)).AtRest := ⟨rest.mp, rest.wd, rest.sl, rest.pm, rest.sr⟩
    split
    · unfold emergencyStandby
      rw [told.mode]
      exact told
    · exact told
  unfold condition
  split
  · exact active
  · exact active
  · exact h.set i .latched
  all_goals exact h

theorem inputs {s : State} (h : s.AtRest) : (reportInputs s).AtRest := ((h.reported _ _).reported _ _).reported _ _

/-- No value differs from the value last sent. -/
theorem sent {s : State} (h : s.AtRest) : sendRecords s = s := by
  obtain ⟨a, pm⟩ := h.pm
  obtain ⟨p, sr⟩ := h.sr
  have wheels : ∀ w, sendWheel w s = s := fun w => if_pos (by rw [h.wheel]; rfl)
  have manifold : sendManifold s = s := if_pos (by rw [State.manifoldRecord, pm]; rfl)
  have pump : sendPump s = s := if_pos (by rw [sr]; rfl)
  have feed : sendFeed s = s := if_pos (by rw [sr]; exact ⟨rfl, rfl⟩)
  rw [sendRecords, wheels, wheels, manifold, pump, feed]

theorem finished {s : State} (h : s.AtRest) : (finish s).AtRest := by
  have rest : (takeReports s).AtRest := by
    constructor
    · simpa using h.mp
    · simpa using h.wd
    · simpa using h.sl
    · simpa using h.pm
    · simpa using h.sr
  unfold finish
  rw [rest.sent]
  exact rest

end State.AtRest

theorem powerOn_atRest (e g o : Level) (s : State) : (powerOn e g o s).AtRest :=
  (State.initial_atRest e g o s.pending).inputs.finished

theorem condition_sets (i : Source) (b : Bool) (s : State) : (condition i b s).tu.sets = s.tu.sets := by
  have set : ∀ st, (setSource i st s).tu.sets = s.tu.sets := fun st => by simp [setSource]
  unfold condition
  split
  · dsimp only
    split <;> simp [set]
  · dsimp only
    split <;> simp [set]
  · exact set _
  all_goals rfl

/-- What the reports of the inputs leave as power-on starts it. -/
theorem powerOn_keeps (e g o : Level) (s : State) :
    (powerOn e g o s).runTime = 0 ∧ (powerOn e g o s).pending = s.pending ∧ (powerOn e g o s).params = defaultParams ∧
    (powerOn e g o s).counters = Vector.replicate 17 0 ∧ (powerOn e g o s).fc = .initial e g o ∧
    (powerOn e g o s).di = .initial ∧ (powerOn e g o s).tu.sets = defaultSets := by
  refine ⟨?_, ?_, ?_, ?_, ?_, ?_, ?_⟩ <;> simp [powerOn, reportInputs, reportInput, condition_sets] <;> rfl

/-- An inactive input has nothing to report while its source is CLEAR (R54). -/
theorem reportInput_inactive {i : InputId} {s : State} (level : ((s.input i).filtered == activeLevel i) = false)
    (clear : s.source (inputSource i) = .clear) : reportInput i s = s := by
  unfold reportInput condition
  rw [level, clear]

theorem reportInputs_inactive (pending : List Instr) :
    reportInputs { State.initial .energised .deEnergised .deEnergised with pending := pending } =
      { State.initial .energised .deEnergised .deEnergised with pending := pending } := by
  unfold reportInputs
  rw [reportInput_inactive (i := .emergencyIn) rfl rfl, reportInput_inactive (i := .gearPressLow) rfl rfl,
    reportInput_inactive (i := .oilHot) rfl rfl]

/-- Power-on with inactive inputs is the initial state as it stands (R54, log entry 9). -/
theorem powerOn_inactive (s : State) : powerOn .energised .deEnergised .deEnergised s =
    { State.initial .energised .deEnergised .deEnergised with pending := s.pending } := by
  unfold powerOn
  rw [reportInputs_inactive]
  exact (State.initial_atRest _ _ _ s.pending).sent

end Sys2Proof.Machine

open Sys2Proof Sys2Proof.Machine in
/-- Settles O20: the module stays at rest while the inputs report. -/
theorem powerOnState : Obligations.PowerOnState := by
  unfold Obligations.PowerOnState
  refine ⟨fun p => by cases p <;> simp [ParamId.default], fun s e g o => ⟨_, rfl, ?_⟩, fun s none => ?_⟩
  · have rest := powerOn_atRest e g o s
    have li := powerOn_li e g o s
    have inactive : e = .energised → g = .deEnergised → o = .deEnergised →
        (∀ i, (powerOn e g o s).source i = .clear) ∧ ∀ grp, (powerOn e g o s).tripped grp = false := by
      rintro rfl rfl rfl
      rw [powerOn_inactive]
      exact ⟨fun i => by fin_cases i <;> rfl, fun _ => BitVec.getLsbD_zero⟩
    obtain ⟨time, pending, params, counters, fc, di, sets⟩ := powerOn_keeps e g o s
    generalize powerOn e g o s = t at *
    obtain ⟨a, pm⟩ := rest.pm
    obtain ⟨p, sr⟩ := rest.sr
    have par : ∀ p : ParamId, t.par p = p.default := fun p => by
      unfold State.par
      rw [params]
      cases p <;> rfl
    have plates : ∀ p : Plate, t.pm.table.get p = none ∧ t.pm.urgentSnap.get p = false ∧ t.pm.trimSnap.get p = false ∧
        t.pm.faulty.get p = false ∧ t.pm.targets.get p = 0 := fun p => by
      rw [pm]
      simp [Manifold.initial, Vector.get_eq_getElem]
    have channels : ∀ c : Channel, (t.chan c).state = .absent := fun c => by
      unfold State.chan
      rw [fc]
      simp [FieldChannels.initial, ChannelEntry.initial, Vector.get_eq_getElem]
    have counter : ∀ n, t.counter n = 0 := fun n => by
      rw [← counter_replicate t n, ← counters]
    have mode := rest.mp
    have plan := rest.sl
    rw [li, di, fc, sr, mode, plan]
    exact ⟨pending, time, par, rfl, rfl, rfl, rfl, rfl, rfl, rfl, plates, rfl, rfl, counter, sets, channels, rfl, rfl, rfl,
      rfl, rfl, fun w => by rw [rest.wheel w]; exact ⟨rfl, rfl, rfl, rfl, rfl⟩, rfl, rfl, rfl, rfl, rfl, rfl, rfl, rfl, rfl, rfl,
      rfl, rfl, inactive⟩
  · show Host.Outcome.next (powerOn .energised .deEnergised .deEnergised s) = _
    rw [powerOn_inactive, none]
    rfl
end

section
/-! The discrete inputs (O31). -/

namespace Sys2Proof.Machine

/-! ### Events that change the blocks alone -/

/-- An event whose action changes the blocks outside LI alone, and reports nothing. -/
theorem event_blocksBecome {s u : State} {now : RunTime} {f : State → State} (time : (f (s.begin now)).runTime = now)
    (pending : (f (s.begin now)).pending = s.pending) (blocks : (f (s.begin now)).blocks = u.blocks)
    (li : (f (s.begin now)).li = s.li) (none : (f (s.begin now)).NoReport) : s.BlocksBecome (event now f s) now u :=
  ⟨by simpa [event] using time, by simpa [event] using pending, (finish_blocks _).trans blocks, (finish_li none).trans li⟩

/-! ### The inputs -/

@[simp] theorem State.input_putInput (s : State) (i j : InputId) (v : DiscreteInput) :
    (s.putInput i v).input j = if j = i then v else s.input j := by
  cases i <;> cases j <;> rfl

theorem State.putInput_twice (s : State) (i : InputId) (v w : DiscreteInput) :
    (s.putInput i v).putInput i w = s.putInput i w := by
  cases i <;> rfl

theorem State.putInput_channels (s : State) (i : InputId) (v : DiscreteInput) :
    (s.putInput i v).fc.channels = s.fc.channels := by
  cases i <;> rfl

/-- The inputs are all of FC's that an input tells of: with the same FC they read the same. -/
theorem State.input_of_fc {s t : State} (h : t.fc = s.fc) (i : InputId) : t.input i = s.input i := by
  cases i <;> simp [State.input, h]

@[simp] theorem finish_input (s : State) (i : InputId) : (finish s).input i = s.input i := State.input_of_fc (by simp) i

@[simp] theorem begin_input (s : State) (now : RunTime) (i : InputId) : (s.begin now).input i = s.input i :=
  State.input_of_fc rfl i

@[simp] theorem condition_inputs (j : Source) (b : Bool) (s : State) (i : InputId) :
    (condition j b s).input i = s.input i :=
  State.input_of_fc (by simp) i

@[simp] theorem finish_source (s : State) (j : Source) : (finish s).source j = s.source j := by simp [State.source]

/-- An input that keeps its value leaves every block as it was. -/
theorem State.putInput_blocks {s u : State} (h : u.blocks = s.blocks) (i : InputId) (v : DiscreteInput) :
    (u.putInput i v).blocks = (s.putInput i v).blocks := by
  have fc : u.fc = s.fc := congrArg Blocks.fc h
  cases i <;> simp_all [State.blocks, State.putInput]

theorem State.putInput_same (s : State) (i : InputId) : s.putInput i (s.input i) = s := by
  cases i <;> rfl

/-- The input at a level that has passed its filter, and reported (R53, R54). -/
def passed (i : InputId) (l : Level) (s : State) : State := reportInput i (s.putInput i ⟨l, l, none⟩)

/-- A changed raw level, with no filter timer running and off the filtered level (R53). -/
theorem inputChange_filtered {i : InputId} {l : Level} {s : State} (raw : (s.input i).raw ≠ l)
    (timer : (s.input i).timer = none) (level : l ≠ (s.input i).filtered) : inputChange i l s =
      if s.par (filterParam i) = 0 then passed i l s
      else s.putInput i { s.input i with raw := l, timer := some (s.timer (s.par (filterParam i))) } := by
  have pass : ∀ w : DiscreteInput, w.raw = l → passInput i (s.putInput i w) = passed i l s := fun w h => by
    unfold passInput passed
    subst h
    rw [State.putInput_twice, State.input_putInput, if_pos rfl]
  have par : ∀ w, (s.putInput i w).par (filterParam i) = s.par (filterParam i) := fun w => by simp [State.par]
  have start : ∀ w d, (s.putInput i w).timer d = s.timer d := fun w d => by simp [State.timer]
  unfold inputChange
  dsimp only
  rw [if_neg raw, timer]
  dsimp only
  rw [if_neg level, par, start, pass _ rfl, State.putInput_twice]

/-- A change back, which stops the running filter timer (R53). -/
theorem inputChange_back {i : InputId} {l : Level} {s : State} (raw : (s.input i).raw ≠ l)
    (timer : (s.input i).timer ≠ none) :
    inputChange i l s = s.putInput i { s.input i with raw := l, timer := none } := by
  obtain ⟨g, hg⟩ := Option.ne_none_iff_exists'.1 timer
  unfold inputChange
  dsimp only
  rw [if_neg raw, hg]
  exact State.putInput_twice _ _ _ _

theorem filterExpiry_due {i : InputId} {s : State} {g : Timer} (timer : (s.input i).timer = some g)
    (due : g.due s.runTime = true) : filterExpiry i s = passed i (s.input i).raw s := by
  unfold filterExpiry
  rw [timer]
  exact if_pos due

theorem filterExpiry_early {i : InputId} {s : State} {g : Timer} (timer : (s.input i).timer = some g)
    (early : g.due s.runTime = false) : filterExpiry i s = s := by
  unfold filterExpiry
  rw [timer]
  exact if_neg (by simp [timerDue, early])

/-! ### EMERGENCY -/

/-- EMERGENCY stops the modes that cut or hold (R37). -/
theorem emergencyStandby_mode (s : State) :
    (emergencyStandby s).mp = { s.mp with
      mode := if s.mp.mode = .manual ∨ s.mp.mode = .auto ∨ s.mp.mode = .hold then .standby else s.mp.mode } ∧
    (emergencyStandby s).reports = s.reports ++
      if s.mp.mode = .manual ∨ s.mp.mode = .auto ∨ s.mp.mode = .hold then [.mode .standby] else [] := by
  unfold emergencyStandby
  split <;> rename_i h <;> simp [h, changeMode_mp, changeMode_reports]
  all_goals (rw [← h])

/-- EMERGENCY reported: a source that enters ACTIVE also stops the mode (R37, R203). -/
theorem condition_emergency (b : Bool) (s : State) :
    (condition Source.emergency b s).mp = { s.mp with
      mode := if (b = true ∧ s.source Source.emergency ≠ .active) ∧
          (s.mp.mode = .manual ∨ s.mp.mode = .auto ∨ s.mp.mode = .hold) then .standby else s.mp.mode } ∧
    (condition Source.emergency b s).reports = s.reports ++
      ((if b = true ∧ s.source Source.emergency ≠ .active then [.trip Source.emergency] else []) ++
        if (b = true ∧ s.source Source.emergency ≠ .active) ∧
          (s.mp.mode = .manual ∨ s.mp.mode = .auto ∨ s.mp.mode = .hold) then [.mode .standby] else []) := by
  obtain ⟨mp, reports⟩ := emergencyStandby_mode ((setSource Source.emergency .active s).report (.trip Source.emergency))
  unfold condition
  split <;> rename_i h <;> simp [h, mp, reports]

/-- A passed level told by what it reports: the source, the mode and the reports of the event (R37, R54, R203). -/
theorem condition_input (i : InputId) (b : Bool) (s : State) :
    let trips := b = true ∧ s.source (inputSource i) ≠ .active
    let stops := trips ∧ i = .emergencyIn ∧ (s.mp.mode = .manual ∨ s.mp.mode = .auto ∨ s.mp.mode = .hold)
    (condition (inputSource i) b s).mp = { s.mp with mode := if stops then .standby else s.mp.mode } ∧
    (condition (inputSource i) b s).reports = s.reports ++
      ((if trips then [.trip (inputSource i)] else []) ++ if stops then [.mode .standby] else []) := by
  intro trips stops
  cases i with
  | emergencyIn =>
    have h : stops ↔ trips ∧ (s.mp.mode = .manual ∨ s.mp.mode = .auto ∨ s.mp.mode = .hold) := by simp [stops]
    rw [if_congr h rfl rfl, if_congr h rfl rfl]
    exact condition_emergency b s
  | gearPressLow =>
    have h : ¬stops := by simp [stops]
    rw [if_neg h, if_neg h, List.append_nil]
    exact condition_other (i := Source.gearPressure) (by decide) b s
  | oilHot =>
    have h : ¬stops := by simp [stops]
    rw [if_neg h, if_neg h, List.append_nil]
    exact condition_other (i := Source.oilTemp) (by decide) b s

theorem passed_eq (i : InputId) (l : Level) (s : State) :
    passed i l s = condition (inputSource i) (l == activeLevel i) (s.putInput i ⟨l, l, none⟩) := by
  unfold passed reportInput
  rw [State.input_putInput, if_pos rfl]

end Sys2Proof.Machine

open Sys2Proof Sys2Proof.Machine in
/-- Settles O31: the raw level waits for its filter, and a passed level is the report of a condition. -/
theorem discreteInputFiltered : Obligations.DiscreteInputFiltered := by
  unfold Obligations.DiscreteInputFiltered
  intro s i l now v active source time becomes passes
  have same : (s.begin now).input i = v := begin_input s now i
  have par : (s.begin now).par (filterParam i) = s.par (filterParam i) := rfl
  have unmoved : ∀ w, w = (s.begin now).input i → s.begin now = (s.begin now).putInput i w := fun w h =>
    h ▸ (State.putInput_same _ i).symm
  have stays : ∀ w, s.BlocksBecome (event now (fun u => u.putInput i w) s) now (s.putInput i w) := fun w =>
    event_blocksBecome (by simp) (by simp) (State.putInput_blocks (s := s) (u := s.begin now) rfl i w) (by simp)
      ((State.begin_noReport now s).of_eq (by simp) (by simp) (by simp))
  have toSource : inputSource i = source := by cases i <;> rfl
  have toActive : activeLevel i = active := by cases i <;> rfl
  have toTime : s.par (filterParam i) = time := by cases i <;> rfl
  have pass : ∀ c f l, exec c s = .next (event now f s) → f (s.begin now) = passed i l (s.begin now) → passes c l := by
    intro c f l run act
    rw [passed_eq, toActive, toSource] at act
    obtain ⟨mp, reports⟩ := condition_input i (l == active) ((s.begin now).putInput i ⟨l, l, none⟩)
    have sources := fun j => condition_source (inputSource i) j (l == active) ((s.begin now).putInput i ⟨l, l, none⟩)
    have stands : ∀ j, ((s.begin now).putInput i ⟨l, l, none⟩).source j = s.source j := fun j => by simp [State.source]
    have inputs : ∀ j, (f (s.begin now)).input j = if j = i then ⟨l, l, none⟩ else s.input j := fun j => by
      rw [act, condition_inputs, State.input_putInput, begin_input]
    have keeps : (f (s.begin now)).li = s.li ∧ (f (s.begin now)).plateBusy = s.pm.busy := by
      rw [act]
      simp
    rw [toSource, stands] at mp reports
    simp only [toSource] at sources
    refine ⟨_, run, ?_, ?_, ?_, ?_, ?_, ?_, ?_, ?_, ?_, ?_⟩
    · simp [event, act]
    · simp [event, act]
    · rw [event, finish_input, inputs, if_pos rfl]
    · intro j other
      rw [event, finish_input, inputs, if_neg other]
    · simp [event, act, State.putInput_channels]
    · simp [event, act]
    · simp [event, act]
    · rw [event, finish_source, act, sources, if_pos rfl, stands]
      by_cases h : l = active <;> cases s.source source <;> simp [h, SourceState.after]
    · intro j other
      rw [event, finish_source, act, sources, if_neg other, stands]
    · intro trips stops
      have mode : ((s.begin now).putInput i ⟨l, l, none⟩).mp = s.mp := by simp
      have none : ((s.begin now).putInput i ⟨l, l, none⟩).reports = [] := by simp
      have trips_iff : ((l == active) = true ∧ s.source source ≠ .active) ↔ trips := by simp [trips]
      have stops_iff : (((l == active) = true ∧ s.source source ≠ .active) ∧ i = .emergencyIn ∧
          (s.mp.mode = .manual ∨ s.mp.mode = .auto ∨ s.mp.mode = .hold)) ↔ stops := by simp [stops, trips]
      rw [mode, if_congr stops_iff rfl rfl, ← act] at mp
      rw [mode, none, if_congr trips_iff rfl rfl, if_congr stops_iff rfl rfl] at reports
      refine ⟨?_, event_reported keeps.1 ?_ keeps.2⟩
      · show (finish _).mp = _
        rw [(finish_keeps _).2.2.2.1]
        exact mp
      · rw [act, reports]
        rfl
  have become : ∀ c f w, exec c s = .next (event now f s) → f (s.begin now) = (s.begin now).putInput i w → becomes c w := by
    intro c f w run act
    have done := stays w
    unfold event at done run
    exact ⟨_, run.trans (by rw [act]), done⟩
  refine ⟨fun h => ?_, fun raw timer => ?_, fun raw timer level => ⟨fun h => ?_, fun h => ?_⟩, fun g timer => ⟨fun h => ?_,
    fun h => ?_⟩⟩
  · exact become _ (inputChange i l) v rfl ((if_pos (same.symm ▸ h)).trans (unmoved _ same.symm))
  · have back := inputChange_back (l := l) (same.symm ▸ raw) (same.symm ▸ timer)
    rw [same] at back
    exact become _ (inputChange i l) _ rfl back
  · have run := inputChange_filtered (same.symm ▸ raw) (same.symm ▸ timer) (same.symm ▸ level)
    rw [par, toTime, if_pos h] at run
    exact pass _ (inputChange i l) l rfl run
  · have run := inputChange_filtered (same.symm ▸ raw) (same.symm ▸ timer) (same.symm ▸ level)
    rw [par, toTime, if_neg h, same] at run
    exact become _ (inputChange i l) _ rfl run
  · have due := filterExpiry_due (s := s.begin now) (same.symm ▸ timer) (decide_eq_true h)
    rw [same] at due
    exact pass _ (filterExpiry i) _ rfl due
  · have early := filterExpiry_early (s := s.begin now) (same.symm ▸ timer) (decide_eq_false (Nat.not_le.2 h))
    exact become _ (filterExpiry i) v rfl (early.trans (unmoved _ same.symm))
end

section
/-! DEPTH_ZERO (O25), with the waits that an answered request leaves WAITING. -/

namespace Sys2Proof.Machine

/-! ### The waits that stay -/

/-- The entries that still wait are those that waited and that `f` does not end. -/
theorem filter_map_endBy (f : WaitEntry → Option Reply) (l : List WaitEntry) :
    (l.map (WaitEntry.endBy f)).filter (fun e => e.state == .waiting) =
      (l.filter fun e => e.state == .waiting).filter fun e => (f e).isNone := by
  induction l with
  | nil => rfl
  | cons e l ih =>
    rw [List.map_cons, WaitEntry.endBy_eq]
    cases he : e.state with
    | held r => simp [he, ih]
    | waiting => cases hf : f e <;> simp [he, hf, ih]

theorem endWaits_waiting (f : WaitEntry → Option Reply) (s : State) :
    (endWaits f s).waiting = s.waiting.filter fun e => (f e).isNone := by
  rw [endWaits_def, grantSlots_waiting, ← grantSlots_waiting s]
  generalize grantSlots s = g
  exact filter_map_endBy f g.li.waits

/-- A wait that no report of the event meets is still waiting (R14). -/
theorem takeReports_stay (s : State) :
    (takeReports s).waiting = s.waiting.filter fun e => (e.firstMet s.allReports).isNone := by
  rw [takeReports_eq]
  split
  · rename_i none
    have all : s.allReports = [] := List.isEmpty_iff.mp none
    rw [all]
    exact (List.filter_eq_self.2 fun e _ => by rw [WaitEntry.firstMet_none (by simp)]; rfl).symm
  · rw [← endWaits_waiting]
    generalize endWaits _ s = w
    rfl

theorem handlerReply_stay (p : ReplyPart) (s : State) : (handlerReply p s).waiting = s.waiting := by
  have waits := grantSlots_waiting s
  unfold handlerReply
  generalize grantSlots s = g at waits ⊢
  dsimp only
  split <;> exact waits

theorem sendRecords_stay (s : State) : (sendRecords s).waiting = s.waiting := by simp [State.waiting]

/-- The waits that an answered request leaves (R8, R14). -/
theorem answerPlaced_stay (x : State) (r : Request) (reply : Reply) :
    (answerPlaced r (x, some reply)).waiting = x.waiting.filter fun e => (e.firstMet x.allReports).isNone := by
  have placed : answerPlaced r (x, some reply) =
      sendRecords (handlerReply (singlePart r.kind r.tag reply) (takeReports x)) := rfl
  rw [placed, sendRecords_stay, handlerReply_stay, takeReports_stay]

/-- A manifold that is as busy as at the event's begin adds no report (R143). -/
theorem State.allReports_of_busy {s : State} {reports : List Report} (h : s.reports = reports)
    (busy : s.plateBusy = s.pm.busy) : s.allReports = reports := by
  rw [State.allReports, busy, h]
  cases s.pm.busy <;> simp

/-- A report of the depth meets the DEPTH waits that it has reached (section 1.6). -/
theorem firstMet_depth (d : Int) (e : WaitEntry) :
    (e.firstMet [.depth d]).isNone = !(e.cond == .depth && decide (e.arg ≤ d)) := by
  unfold WaitEntry.firstMet WaitEntry.metBy
  cases e.cond <;> simp
  split <;> simp_all

/-! ### The ring, the open station and its copy -/

/-- SR's part of a recomputed pump command is the command alone (R174). -/
theorem recomputePump_sr (s : State) :
    (recomputePump s).sr = { s.sr with command := (recomputePump s).sr.command } := by
  unfold recomputePump
  split <;> rfl

/-- An emptied ring gives the feed rate 0 (R79). -/
theorem emptyRing_di (s : State) : (emptyRing s).di = { s.di with ring := [], feedRate := 0 } := by
  unfold emptyRing setRing
  dsimp only
  split <;> simp <;> rfl

/-- The feed rate 0 is handed to SR where it was another (R75, R79). -/
theorem emptyRing_sr (s : State) :
    (emptyRing s).sr = { s.sr with
      feedCopy := if s.di.feedRate = 0 then s.sr.feedCopy else 0
      required := (emptyRing s).sr.required, command := (emptyRing s).sr.command } ∧
    (s.di.feedRate = 0 → (emptyRing s).sr = s.sr) := by
  unfold emptyRing setRing
  by_cases h : s.di.feedRate = 0
  · have same : ringRate [] = s.di.feedRate := h.symm
    simp only [same, if_true, h]
    exact ⟨trivial, fun _ => trivial⟩
  · have other : ¬ringRate [] = s.di.feedRate := Ne.symm h
    simp only [other, if_false, h]
    refine ⟨?_, fun no => no.elim⟩
    rw [feedHandOff, recomputePump_sr]
    rfl

/-- The flags of a record at its reset, each over both axes (R84). -/
theorem State.seededFlags_eq (s : State) : s.seededFlags =
    { estimated := s.di.copies.x.case == .none || s.di.copies.y.case == .none || !s.fresh .depth || !s.fresh .twist
      single := s.di.copies.x.case == .single || s.di.copies.y.case == .single
      disagree := s.di.copies.x.disagreeing || s.di.copies.y.disagreeing
      saturated := s.di.copies.x.clamped || s.di.copies.y.clamped } := by
  simp [State.seededFlags, OpenFlags.withSlope]

theorem State.freshRecord_congr {s u : State} (log : u.di.log = s.di.log) (copies : u.di.copies = s.di.copies)
    (channels : u.fc.channels = s.fc.channels) : u.freshRecord = s.freshRecord := by
  funext k
  have fresh : ∀ c, u.fresh c = s.fresh c := fun c => by simp [State.fresh, State.chan, channels]
  simp [State.freshRecord, State.seededFlags, log, copies, fresh]

/-- The record open at a depth, field by field (R80, R81, R84). -/
theorem stationAt_freshRecord (s : State) (d i : Int) : (stationAt d i).map s.freshRecord =
    if 0 ≤ d then some
      { station := (d / i).toNat, pass := passFor s.di.log (d / i).toNat
        speed := ⟨⟨0, 0⟩, ⟨0, 0⟩⟩, press := ⟨⟨0, 0⟩, ⟨0, 0⟩⟩, flow := ⟨0, 0⟩
        flags :=
          { estimated :=
              s.di.copies.x.case == .none || s.di.copies.y.case == .none || !s.fresh .depth || !s.fresh .twist
            single := s.di.copies.x.case == .single || s.di.copies.y.case == .single
            disagree := s.di.copies.x.disagreeing || s.di.copies.y.disagreeing
            saturated := s.di.copies.x.clamped || s.di.copies.y.clamped }
        recovery := false, densityVolume := 0, volume := 0, attributions := 0, lastDensity := none }
    else none := by
  unfold stationAt
  split
  · rw [← s.seededFlags_eq]
    rfl
  · rfl

/-! ### DEPTH_ZERO -/

/-- FC's reference and DI's integrator at a new zero, before the ring is emptied (R41). -/
def State.zeroedAt (d oX oY raw : Int) (s : State) : State :=
  { s with
    fc := { s.fc with reference := d - raw, lastAccepted := some d }
    di := { s.di with depth := d, path := ⟨⟨oX, 0, false⟩, ⟨oY, 0, false⟩⟩, anchored := true } }

theorem zeroDepth_eq (d oX oY raw : Int) (s : State) : zeroDepth d oX oY raw s =
    (cutterHandOff (resetOpenAtDepth (emptyRing (s.zeroedAt d oX oY raw)))).report (.depth d) := rfl

/-- What DEPTH_ZERO leaves of LI and of the event. -/
@[simp] theorem zeroDepth_keeps (d oX oY raw : Int) (s : State) :
    (zeroDepth d oX oY raw s).runTime = s.runTime ∧ (zeroDepth d oX oY raw s).params = s.params ∧
    (zeroDepth d oX oY raw s).counters = s.counters ∧ (zeroDepth d oX oY raw s).li = s.li ∧
    (zeroDepth d oX oY raw s).mp = s.mp ∧ (zeroDepth d oX oY raw s).sl = s.sl ∧ (zeroDepth d oX oY raw s).pm = s.pm ∧
    (zeroDepth d oX oY raw s).wd = s.wd ∧ (zeroDepth d oX oY raw s).tu = s.tu ∧
    (zeroDepth d oX oY raw s).reports = s.reports ++ [.depth d] ∧
    (zeroDepth d oX oY raw s).plateBusy = s.plateBusy ∧ (zeroDepth d oX oY raw s).pending = s.pending := by
  simp [zeroDepth, resetOpenAtDepth, setOpen, State.report, emptyRing_di]

/-- FC, DI and SR at a new zero (R41, R65, R79, R190). -/
theorem zeroDepth_fields (d oX oY raw : Int) (s : State) :
    (zeroDepth d oX oY raw s).fc = { s.fc with reference := d - raw, lastAccepted := some d } ∧
    (zeroDepth d oX oY raw s).di = { s.di with
      depth := d, path := ⟨⟨oX, 0, false⟩, ⟨oY, 0, false⟩⟩, anchored := true, ring := [], feedRate := 0
      openRecord := (stationAt d s.mp.interval).map s.freshRecord } ∧
    (zeroDepth d oX oY raw s).sr = { s.sr with
      cutter := ((stationAt d s.mp.interval).map s.freshRecord).map fun q => ⟨q.station, q.pass, d⟩
      feedCopy := if s.di.feedRate = 0 then s.sr.feedCopy else 0
      required := (zeroDepth d oX oY raw s).sr.required, command := (zeroDepth d oX oY raw s).sr.command } ∧
    (s.di.feedRate = 0 → (zeroDepth d oX oY raw s).sr.required = s.sr.required ∧
      (zeroDepth d oX oY raw s).sr.command = s.sr.command) := by
  obtain ⟨sr, held⟩ := emptyRing_sr (s.zeroedAt d oX oY raw)
  have di := emptyRing_di (s.zeroedAt d oX oY raw)
  obtain ⟨-, -, -, -, mp, fc, -⟩ := emptyRing_keeps (s.zeroedAt d oX oY raw)
  rw [zeroDepth_eq]
  generalize emptyRing (s.zeroedAt d oX oY raw) = u at *
  have fresh : u.freshRecord = s.freshRecord := State.freshRecord_congr (by rw [di]; rfl) (by rw [di]; rfl) (by rw [fc]; rfl)
  have opened : (stationAt u.di.depth u.mp.interval).map u.freshRecord = (stationAt d s.mp.interval).map s.freshRecord := by
    rw [fresh, di, mp]
    rfl
  refine ⟨fc, ?_, ?_, ?_⟩
  · show { u.di with openRecord := (stationAt u.di.depth u.mp.interval).map u.freshRecord } = _
    rw [opened, di]
    rfl
  · show { u.sr with
      cutter := ((stationAt u.di.depth u.mp.interval).map u.freshRecord).map
        (fun q : OpenRecord => CutterCopy.mk q.station q.pass u.di.depth) } = _
    rw [opened, di, sr]
    rfl
  · intro zero
    show u.sr.required = s.sr.required ∧ u.sr.command = s.sr.command
    rw [held zero]
    exact ⟨rfl, rfl⟩

/-- The range test of DEPTH_ZERO (R41 step 1). -/
theorem zeroRange_iff (d oX oY : Int) :
    (d < Config.depthMin ∨ Config.depthMax < d ∨ !offsetAllowed oX ∨ !offsetAllowed oY) ↔
      ¬(-5000 ≤ d ∧ d ≤ 300000 ∧ -2000000 ≤ oX ∧ oX ≤ 2000000 ∧ -2000000 ≤ oY ∧ oY ≤ 2000000) := by
  have limits : ∀ o, (!offsetAllowed o) = true ↔ ¬(-2000000 ≤ o ∧ o ≤ 2000000) := fun o => by
    rw [Bool.not_eq_true', ← Bool.not_eq_true, offsetAllowed, Bool.and_eq_true, decide_eq_true_eq, decide_eq_true_eq]
    rfl
  rw [limits, limits, Config.depthMin, Config.depthMax]
  omega

theorem State.zeroAllowed_iff (s : State) : s.zeroAllowed = true ↔
    s.mp.mode = .standby ∧ s.mp.panel = .opened ∧ s.di.closure = false ∧ s.fresh .depth = true := by
  simp [State.zeroAllowed, and_assoc]

/-- What is the same in two states with the same blocks, of the parts that the event itself does not write. -/
theorem State.parts_of_blocks {t v : State} (h : t.blocks = v.blocks) :
    t.params = v.params ∧ t.counters = v.counters ∧ t.mp = v.mp ∧ t.fc = v.fc ∧ t.di = v.di ∧ t.sl = v.sl ∧
      t.pm.unsent = v.pm.unsent ∧ t.wd.unsent = v.wd.unsent ∧ t.sr.unsent = v.sr.unsent ∧ t.tu = v.tu := by
  simpa only [State.blocks, Blocks.mk.injEq] using h

end Sys2Proof.Machine

open Sys2Proof Sys2Proof.Machine in
/-- Settles O25: the tests of `ownDepthZero` in their order, then the fields of `zeroDepth`. -/
theorem depthZeroed : Obligations.DepthZeroed := by
  unfold Obligations.DepthZeroed
  intro s now r rest takes d oX oY answered x y seeded inRange allowed
  have taken : exec (.depthZero now) s = .next (answerPlaced r (ownDepthZero r (s.taken now rest))) := by
    rw [← takeRequest_taken takes]
    rfl
  have refused : ∀ res, ownDepthZero r (s.taken now rest) = refuse res (s.taken now rest) → answered res := fun res h =>
    ⟨_, taken.trans (by rw [h]; rfl), answerPlaced_only (Reply.refuse res) takes.1 takes.2.1⟩
  have range := zeroRange_iff d oX oY
  have zero : inRange → ownDepthZero r (s.taken now rest) =
      if s.zeroAllowed then
        match s.fc.lastRaw with
        | some raw => Machine.done (zeroDepth d oX oY raw (s.taken now rest))
        | none => refuse .wrongState (s.taken now rest)
      else refuse .wrongState (s.taken now rest) := fun h => if_neg fun bad => range.1 bad h
  refine ⟨fun h => refused _ (if_pos (range.2 h)), fun inside h => refused _ ?_, fun raw inside h hraw => ?_⟩
  · rw [zero inside]
    split
    · rename_i yes
      obtain ⟨mode, panel, closure, fresh⟩ := s.zeroAllowed_iff.1 yes
      have none : s.fc.lastRaw = Option.none := by
        by_contra some
        exact h ⟨mode, panel, closure, fresh, some⟩
      rw [none]
    · rfl
  · obtain ⟨mode, panel, closure, fresh, -⟩ := h
    have acts := zero inside
    rw [if_pos (s.zeroAllowed_iff.2 ⟨mode, panel, closure, fresh⟩), hraw] at acts
    replace acts : ownDepthZero r (s.taken now rest) = (zeroDepth d oX oY raw (s.taken now rest), some (Reply.ok [])) :=
      acts
    rw [acts] at taken
    refine ⟨_, taken, ?_⟩
    obtain ⟨fc, di, sr, held⟩ := zeroDepth_fields d oX oY raw (s.taken now rest)
    obtain ⟨time, params, counters, li, mp, sl, pm, wd, tu, reports, busy, pending⟩ :=
      zeroDepth_keeps d oX oY raw (s.taken now rest)
    have opened := stationAt_freshRecord (s.taken now rest) d s.mp.interval
    generalize zeroDepth d oX oY raw (s.taken now rest) = v at *
    have few := answerPlaced_stay v r (Reply.ok [])
    obtain ⟨replied, blocks, reported⟩ :=
      answerPlaced_answer (reply := Reply.ok []) takes.1 takes.2.1 time pending li reports busy
    generalize answerPlaced r (v, some (Reply.ok [])) = t at *
    obtain ⟨tparams, tcounters, tmp, tfc, tdi, tsl, tpm, twd, tsr, ttu⟩ := State.parts_of_blocks blocks
    have record : t.di.openRecord = _ := (congrArg Integrator.openRecord (tdi.trans di)).trans opened
    refine ⟨replied, tfc.trans fc, ?_, record, ?_, ?_, ?_, ?_, tmp.trans mp, tsl.trans sl, ttu.trans tu, ?_, ?_,
      tparams.trans params, tcounters.trans counters, ?_, ?_, ?_, reported⟩
    · rw [tdi, di]
      rfl
    · intro empty q hq
      rw [record] at hq
      split at hq
      · cases hq
        show passFor s.di.log _ = 1
        rw [empty]
        rfl
      · cases hq
    · have cutter : t.sr.cutter = v.sr.cutter := (congrArg Slurry.cutter tsr :)
      rw [cutter, sr, tdi, di]
    · have copy : t.sr.feedCopy = v.sr.feedCopy := (congrArg Slurry.feedCopy tsr :)
      rw [copy, sr]
      rfl
    · have pump : t.sr.required = v.sr.required ∧ t.sr.command = v.sr.command :=
        ⟨(congrArg Slurry.required tsr :), (congrArg Slurry.command tsr :)⟩
      rw [pump.1, pump.2]
      exact held
    · rw [tpm, pm]
      rfl
    · rw [twd, wd]
      rfl
    · have line : t.sr.line = v.sr.line := (congrArg Slurry.line tsr :)
      rw [line, sr]
      rfl
    · have pumped : t.sr.vPump = v.sr.vPump := (congrArg Slurry.vPump tsr :)
      rw [pumped, sr]
      rfl
    · have all : v.allReports = [.depth d] := State.allReports_of_busy reports (busy.trans (congrArg Manifold.busy pm.symm))
      have waits : v.waiting = s.waiting := by
        unfold State.waiting
        rw [li]
        rfl
      rw [few, all, waits]
      exact List.filter_congr fun e _ => firstMet_depth d e
end

section
/-! PANEL_OPEN (O24). -/

namespace Sys2Proof.Machine

/-! ### The formulas of SR that a panel sets -/

/-- Outside AUTO the required flow is the base flow within the pump's range (R171, R173). -/
theorem State.requiredFlow_of_mode {s : State} (h : s.mp.mode ≠ .auto) :
    s.requiredFlow = clamp 0 (s.par .pumpMaxRpm * s.par .displacement / 1000) (s.par .baseFlow) := by
  unfold State.requiredFlow State.feedForFlow
  rw [if_neg h]
  simp [floorDiv, State.maxFlow]

/-- The feed limit outside START (R177). -/
theorem State.feedLimitNow_of_mode {s : State} (h : s.mp.mode ≠ .start) : s.feedLimitNow =
    if s.sr.softMark then
      min (s.par .operatorFeedLimit) (clamp 0 2000 ((s.par .pumpMaxRpm * s.par .displacement / 1000 - s.par .baseFlow) *
        1000000 / (s.mp.cutArea * s.par .carry))) / 2
    else min (s.par .operatorFeedLimit) (clamp 0 2000 ((s.par .pumpMaxRpm * s.par .displacement / 1000 -
      s.par .baseFlow) * 1000000 / (s.mp.cutArea * s.par .carry))) := by
  unfold State.feedLimitNow
  rw [if_neg h]
  rfl

/-- The command of an IDLE pump (R174). -/
theorem recomputePump_idle {s : State} (h : s.sr.pumpState = .idle) :
    (recomputePump s).sr.command = s.pumpFor (s.par .idleFlow) 0 := by
  unfold recomputePump State.flowBasis
  rw [h]

/-! ### The steps of PANEL_OPEN -/

/-- Header, log, counter 7 and integrator of a panel that opens, before the ring is emptied (R40 steps 1 to 3). -/
def State.panelAt (number : Nat) (area interval : Int) (s : State) : State :=
  { s.zeroCounter 7 with
    mp := { s.mp with panelNumber := number, cutArea := area, interval := interval }
    di := { s.di with
      log := [], path := ⟨⟨0, 0, false⟩, ⟨0, 0, false⟩⟩, closure := false
      depth := s.latestAccepted, anchored := s.fc.lastAccepted.isSome } }

/-- The panel with its station open and its line empty, before SR recomputes (R40 steps 4 and 5). -/
def State.panelOpened (number : Nat) (area interval : Int) (s : State) : State :=
  let u := emptyLine (resetOpenAtDepth (emptyRing (s.panelAt number area interval)))
  cutterHandOff { u with mp := { u.mp with panel := .opened } }

theorem openPanel_eq (number : Nat) (area interval : Int) (s : State) : openPanel number area interval s =
    (recomputeFeedLimit (recomputePump (recomputeRequired (s.panelOpened number area interval)))).report
      (.depth (s.panelOpened number area interval).di.depth) := by
  rfl

theorem State.panelOpened_fields (n : Nat) (a i : Int) (s : State) :
    (s.panelOpened n a i).mp = { s.mp with panel := .opened, panelNumber := n, cutArea := a, interval := i } ∧
    (s.panelOpened n a i).di = { s.di with
      log := [], path := ⟨⟨0, 0, false⟩, ⟨0, 0, false⟩⟩, closure := false, depth := s.latestAccepted, ring := []
      feedRate := 0, anchored := s.fc.lastAccepted.isSome
      openRecord := (stationAt s.latestAccepted i).map (s.panelAt n a i).freshRecord } ∧
    (s.panelOpened n a i).sr = { s.sr with
      line := []
      cutter := ((stationAt s.latestAccepted i).map (s.panelAt n a i).freshRecord).map
        (fun q : OpenRecord => CutterCopy.mk q.station q.pass s.latestAccepted)
      feedCopy := if s.di.feedRate = 0 then s.sr.feedCopy else 0
      required := (s.panelOpened n a i).sr.required, command := (s.panelOpened n a i).sr.command } := by
  obtain ⟨sr, -⟩ := emptyRing_sr (s.panelAt n a i)
  have di := emptyRing_di (s.panelAt n a i)
  obtain ⟨-, -, -, -, mp, fc, -⟩ := emptyRing_keeps (s.panelAt n a i)
  unfold State.panelOpened
  generalize emptyRing (s.panelAt n a i) = u at *
  have fresh : u.freshRecord = (s.panelAt n a i).freshRecord :=
    State.freshRecord_congr (by rw [di]) (by rw [di]) (by rw [fc])
  have opened : (stationAt u.di.depth u.mp.interval).map u.freshRecord =
      (stationAt s.latestAccepted i).map (s.panelAt n a i).freshRecord := by
    rw [fresh, di, mp]
    rfl
  refine ⟨?_, ?_, ?_⟩
  · show { u.mp with panel := .opened } = _
    rw [mp]
    rfl
  · show { u.di with openRecord := (stationAt u.di.depth u.mp.interval).map u.freshRecord } = _
    rw [opened, di]
    rfl
  · show { u.sr with
      line := []
      cutter := ((stationAt u.di.depth u.mp.interval).map u.freshRecord).map
        (fun q : OpenRecord => CutterCopy.mk q.station q.pass u.di.depth) } = _
    rw [opened, di, sr]
    rfl

@[simp] theorem State.panelOpened_keeps (n : Nat) (a i : Int) (s : State) :
    (s.panelOpened n a i).params = s.params ∧ (s.panelOpened n a i).fc = s.fc ∧ (s.panelOpened n a i).sl = s.sl ∧
    (s.panelOpened n a i).pm = s.pm ∧ (s.panelOpened n a i).wd = s.wd ∧ (s.panelOpened n a i).tu = s.tu ∧
    (s.panelOpened n a i).reports = s.reports ∧ (s.panelOpened n a i).plateBusy = s.plateBusy := by
  simp [State.panelOpened, State.panelAt, resetOpenAtDepth, setOpen]

/-- What PANEL_OPEN leaves of the blocks outside MP, DI and SR, and its one report (R14, R40). -/
theorem openPanel_keeps (n : Nat) (a i : Int) (s : State) :
    (openPanel n a i s).params = s.params ∧ (openPanel n a i s).fc = s.fc ∧ (openPanel n a i s).sl = s.sl ∧
    (openPanel n a i s).pm = s.pm ∧ (openPanel n a i s).wd = s.wd ∧ (openPanel n a i s).tu = s.tu ∧
    (openPanel n a i s).mp = (s.panelOpened n a i).mp ∧ (openPanel n a i s).di = (s.panelOpened n a i).di ∧
    (openPanel n a i s).reports = s.reports ++ [.depth (s.panelOpened n a i).di.depth] ∧
    (openPanel n a i s).plateBusy = s.plateBusy := by
  rw [openPanel_eq]
  simp [State.report]

/-- SR's recomputations for the new cut area, in STANDBY (R173, R174, R177). -/
theorem openPanel_sr (n : Nat) (a i : Int) {s : State} (mode : s.mp.mode = .standby) :
    let most := s.par .pumpMaxRpm * s.par .displacement / 1000
    let feed := min (s.par .operatorFeedLimit)
      (clamp 0 2000 ((most - s.par .baseFlow) * 1000000 / (a * s.par .carry)))
    (openPanel n a i s).sr = { (s.panelOpened n a i).sr with
      required := clamp 0 most (s.par .baseFlow), feedLimit := if s.sr.softMark then feed / 2 else feed
      command := (openPanel n a i s).sr.command } ∧
    (s.sr.pumpState = .idle → (openPanel n a i s).sr.command = s.pumpFor (s.par .idleFlow) 0) := by
  intro most feed
  obtain ⟨mp, -, sr⟩ := s.panelOpened_fields n a i
  obtain ⟨params, -⟩ := s.panelOpened_keeps n a i
  rw [openPanel_eq]
  generalize s.panelOpened n a i = u at *
  have par : ∀ p, u.par p = s.par p := fun p => by rw [State.par, params, State.par]
  have modes : u.mp.mode = .standby := by rw [mp]; exact mode
  have area : u.mp.cutArea = a := by rw [mp]
  have mark : u.sr.softMark = s.sr.softMark := by rw [sr]
  have state : u.sr.pumpState = s.sr.pumpState := by rw [sr]
  have required : u.requiredFlow = clamp 0 most (s.par .baseFlow) := by
    rw [State.requiredFlow_of_mode (by rw [modes]; decide), par, par, par]
  have pumped := recomputePump_sr (recomputeRequired u)
  have limited : (recomputePump (recomputeRequired u)).feedLimitNow = if s.sr.softMark then feed / 2 else feed := by
    have mode' : (recomputePump (recomputeRequired u)).mp.mode ≠ .start := by simp [modes]
    have par' : ∀ p, (recomputePump (recomputeRequired u)).par p = s.par p := fun p => by
      rw [← par]
      simp [State.par]
    have mark' : (recomputePump (recomputeRequired u)).sr.softMark = s.sr.softMark := by
      rw [pumped, ← mark]
      rfl
    rw [State.feedLimitNow_of_mode mode', mark', par', par', par', par', par']
    simp [area, feed, most]
  refine ⟨?_, fun idle => ?_⟩
  · show { (recomputePump (recomputeRequired u)).sr with
      feedLimit := (recomputePump (recomputeRequired u)).feedLimitNow } = _
    rw [limited, pumped, ← required]
    rfl
  · show (recomputePump (recomputeRequired u)).sr.command = _
    have idle' : (recomputeRequired u).sr.pumpState = .idle := state.trans idle
    rw [recomputePump_idle idle']
    have par' : ∀ p, (recomputeRequired u).par p = s.par p := par
    rw [State.pumpFor, State.pumpFor, par', par', par']

theorem State.counter_panel (s : State) (k n : Nat) (low : 1 ≤ n) (high : n ≤ 17) :
    ((s.zeroCounter 7).addCounter 9 k).counter n =
      if n = 7 then 0 else if n = 9 then min (s.counter 9 + k) 65535 else s.counter n := by
  have inside : n - 1 < 17 := by omega
  unfold State.addCounter State.zeroCounter State.counter
  by_cases nine : n = 9
  · subst nine
    simp [Config.counterCap, Vector.get_eq_getElem]
  · simp [inside, nine, Vector.get_eq_getElem]

end Sys2Proof.Machine

open Sys2Proof Sys2Proof.Machine in
/-- Settles O24: the steps of `openPanel` field by field, then SR's formulas in STANDBY. -/
theorem panelOpened : Obligations.PanelOpened := by
  unfold Obligations.PanelOpened
  intro s now r rest takes area interval a i d x y seeded limit rpm most speed required feed
  have taken : exec (.panelOpen now) s = .next (answerPlaced r (ownPanelOpen r (s.taken now rest))) := by
    rw [← takeRequest_taken takes]
    rfl
  refine ⟨fun h => ⟨_, taken.trans (by rw [show ownPanelOpen r (s.taken now rest) = _ from if_pos h]; rfl),
    answerPlaced_only (Reply.refuse .wrongMode) takes.1 takes.2.1⟩, fun mode => ?_⟩
  have acts : ownPanelOpen r (s.taken now rest) = (openPanel (unsignedAt r.body 0 2) a i (s.taken now rest),
      some (Reply.stored (a != area || i != interval) (encode 2 (unsignedAt r.body 0 2) ++ encode 4 a ++ encode 2 i))) :=
    if_neg (not_not.2 mode)
  rw [acts] at taken
  refine ⟨_, taken, ?_⟩
  obtain ⟨time, pending, li⟩ := openPanel_li (unsignedAt r.body 0 2) a i (s.taken now rest)
  obtain ⟨params, fc, sl, pm, wd, tu, mp, di, reports, busy⟩ := openPanel_keeps (unsignedAt r.body 0 2) a i (s.taken now rest)
  obtain ⟨sr, idle⟩ := openPanel_sr (unsignedAt r.body 0 2) a i (s := s.taken now rest) mode
  have counters := openPanel_counters (unsignedAt r.body 0 2) a i (s.taken now rest)
  obtain ⟨mp', di', sr'⟩ := (s.taken now rest).panelOpened_fields (unsignedAt r.body 0 2) a i
  have opened := stationAt_freshRecord ((s.taken now rest).panelAt (unsignedAt r.body 0 2) a i) d i
  generalize openPanel (unsignedAt r.body 0 2) a i (s.taken now rest) = v at *
  generalize (s.taken now rest).panelOpened (unsignedAt r.body 0 2) a i = u at *
  generalize hreply : Reply.stored (a != area || i != interval)
    (encode 2 (unsignedAt r.body 0 2) ++ encode 4 a ++ encode 2 i) = reply
  have few := answerPlaced_stay v r reply
  obtain ⟨replied, blocks, reported⟩ := answerPlaced_answer (reply := reply) takes.1 takes.2.1 time pending li reports busy
  generalize answerPlaced r (v, some reply) = t at *
  obtain ⟨tparams, tcounters, tmp, tfc, tdi, tsl, tpm, twd, tsr, ttu⟩ := State.parts_of_blocks blocks
  have result : reply.result = if a = area ∧ i = interval then .done else .doneClamped := by
    rw [← hreply]
    by_cases ha : a = area <;> by_cases hi : i = interval <;> simp [Reply.stored, ha, hi]
  have data : reply.data = encode 2 (unsignedAt r.body 0 2) ++ encode 4 a ++ encode 2 i := by
    rw [← hreply]
    rfl
  rw [result, data] at replied
  have depth : u.di.depth = d := by
    rw [di']
    rfl
  have record : t.di.openRecord = _ := (congrArg Integrator.openRecord (tdi.trans (di.trans di'))).trans opened
  have keep : t.sr.unsent = _ := tsr.trans (congrArg Slurry.unsent (sr.trans (by rw [sr'])))
  refine ⟨replied, tmp.trans (mp.trans mp'), ?_, record, ?_, (congrArg Slurry.feedCopy keep :),
    (congrArg Slurry.required keep :), (congrArg Slurry.feedLimit keep :), fun h => ?_, (congrArg Slurry.line keep :), ?_,
    tsl.trans sl, ttu.trans tu, ?_, tfc.trans fc, tparams.trans params, ?_, (congrArg Slurry.vPump keep :),
    (congrArg Slurry.flowResidue keep :), ?_, ?_⟩
  · rw [tdi, di, di']
    rfl
  · have cutter : t.sr.cutter = _ := (congrArg Slurry.cutter keep :)
    refine cutter.trans ?_
    show ((stationAt d i).map _).map _ = _
    unfold stationAt
    split <;> rfl
  · exact (congrArg Slurry.command tsr :).trans (idle h)
  · intro n low high
    rw [State.counter, tcounters, counters]
    exact (s.taken now rest).counter_panel _ n low high
  · rw [tpm, pm]
    rfl
  · rw [twd, wd]
    rfl
  · have all : v.allReports = [.depth d] :=
      State.allReports_of_busy (reports.trans (by rw [depth]; rfl)) (busy.trans (congrArg Manifold.busy pm.symm))
    have waits : v.waiting = s.waiting := by
      unfold State.waiting
      rw [li]
      rfl
    rw [few, all, waits]
    exact List.filter_congr fun e _ => firstMet_depth d e
  · rw [depth] at reported
    exact reported
end

section
/-! PARAM_SET (O16): what the owner of each parameter does when it is stored. -/

namespace Sys2Proof.Machine

/-! ### WD's targets -/

/-- A wheel's target, its cases by state and direction (R159). -/
theorem State.targetOf_eq (s : State) (w : WheelId) (v : Wheel) : s.targetOf w v =
    if v.state = .ramping ∨ v.state = .running then
      if v.direction = .reverse then -v.base
      else clamp 0 (s.par .maxWheelSpeed) (if w = .a then v.base - s.wd.applied else v.base + s.wd.applied)
    else if v.state = .reversing then v.target
    else 0 := by
  unfold State.targetOf
  cases v.state <;> cases v.direction <;> cases w <;> rfl

/-- Both targets formed anew, and nothing else (R158, R159). -/
theorem formTargets_wheel (s : State) (w : WheelId) :
    (formTargets s).wheel w = { s.wheel w with target := s.targetOf w (s.wheel w) } := by
  cases w <;> rfl

/-! ### SR's command -/

/-- The pump command of each pump state (R174). -/
def State.pumpCommand (s : State) : Int :=
  match s.sr.pumpState with
  | .backflush => s.sr.command
  | .idle => s.pumpFor (s.par .idleFlow) 0
  | .manual => s.pumpFor s.sr.manualTarget 0
  | .balance => s.pumpFor s.sr.required s.sr.trim
  | .off | .tripped => 0

theorem recomputePump_eq (s : State) : recomputePump s = { s with sr := { s.sr with command := s.pumpCommand } } := by
  unfold recomputePump State.pumpCommand State.flowBasis
  cases s.sr.pumpState <;> rfl

/-! ### The rules at storing -/

/-- A parameter without a rule of its own at storing (R20). -/
theorem parameterStored_plain {p : ParamId} (h : p ∉ [ParamId.maxWheelSpeed, .diffMax, .idleFlow, .baseFlow, .carry,
    .pumpMaxRpm, .displacement, .operatorFeedLimit]) (old : Int) (s : State) : parameterStored p old s = s := by
  unfold parameterStored
  split <;> simp at h ⊢

/-- The parameters of the flow balance (R187). -/
theorem parameterStored_flow {p : ParamId} (h : p = .baseFlow ∨ p = .carry ∨ p = .pumpMaxRpm ∨ p = .displacement)
    (old : Int) (s : State) : parameterStored p old s = recomputeFeedLimit (recomputePump (recomputeRequired s)) := by
  rcases h with rfl | rfl | rfl | rfl <;> rfl

/-- A lowered maximum clamps both wheels and forms the targets anew (R157, log entry 19). -/
theorem maximumStored_lowered {old : Int} {s : State} (h : s.par .maxWheelSpeed < old) :
    maximumStored old s = { s with wd := (maximumStored old s).wd } ∧
    (maximumStored old s).wd.applied = s.wd.applied ∧
    ∀ w, (maximumStored old s).wheel w = { (s.wheel w).limit (s.par .maxWheelSpeed) with
      target := s.targetOf w ((s.wheel w).limit (s.par .maxWheelSpeed)) } := by
  have lowered : maximumStored old s = formTargets ((s.putWheel .a ((s.wheel .a).limit (s.par .maxWheelSpeed))).putWheel .b
      ((s.wheel .b).limit (s.par .maxWheelSpeed))) := if_pos h
  rw [lowered]
  refine ⟨rfl, rfl, fun w => ?_⟩
  cases w <;> rfl

/-- A differential limit that changes the demand sends it to WD (R131, R158, log entry 35). -/
theorem diffMaxStored_changed {s : State} {demand applied : Int}
    (clamped : clamp (-(s.par .diffMax)) (s.par .diffMax) s.sl.diffDemand = demand) (h : demand ≠ s.sl.diffDemand)
    (sent : applied = if s.mp.mode = .auto ∧ (s.wheel .a).state = .running ∧ (s.wheel .b).state = .running then demand
      else 0) :
    diffMaxStored s = { s with sl := { s.sl with diffDemand := demand }, wd := (diffMaxStored s).wd } ∧
    (diffMaxStored s).wd.applied = applied ∧
    ∀ w, (diffMaxStored s).wheel w = { s.wheel w with
      target := if applied = s.wd.applied then (s.wheel w).target else
        { s with wd := { s.wd with applied := applied } }.targetOf w (s.wheel w) } := by
  have changed : diffMaxStored s = setApplied applied { s with sl := { s.sl with diffDemand := demand } } := by
    unfold diffMaxStored
    dsimp only
    rw [clamped, if_neg h, sent]
    rfl
  rw [changed]
  unfold setApplied
  by_cases same : applied = s.wd.applied
  · rw [if_pos same]
    exact ⟨rfl, same.symm, fun w => by rw [if_pos same]; rfl⟩
  · rw [if_neg same]
    exact ⟨rfl, rfl, fun w => by rw [formTargets_wheel, if_neg same]; rfl⟩

/-! ### Values and blocks -/

/-- The value stored: clamped, and the density limits tied (R21, R179). -/
theorem State.storedValue_eq (s : State) (p : ParamId) (sent : Int) : s.storedValue p sent =
    if p = .softLimit then min (clamp p.lo p.hi sent) (s.par .hardLimit)
    else if p = .hardLimit then max (clamp p.lo p.hi sent) (s.par .softLimit)
    else clamp p.lo p.hi sent := by
  unfold State.storedValue
  dsimp only
  split
  · rw [if_pos rfl]
  · rw [if_neg (by decide), if_pos rfl]
  · rename_i soft hard
    rw [if_neg soft, if_neg hard]

/-- A wheel of WD without the value last sent. -/
theorem WheelDrives.wheel_of_unsent {t v : State} (h : t.wd.unsent = v.wd.unsent) :
    t.wd.applied = v.wd.applied ∧ ∀ w, (t.wheel w).unsent = (v.wheel w).unsent := by
  refine ⟨(congrArg WheelDrives.applied h :), fun w => ?_⟩
  cases w
  · exact (congrArg (fun d : WheelDrives => d.wheels.a) h :)
  · exact (congrArg (fun d : WheelDrives => d.wheels.b) h :)

end Sys2Proof.Machine

open Sys2Proof Sys2Proof.Machine in
/-- Settles O16: the stored value, then the rule of each parameter at storing. -/
theorem parameterStored : Obligations.ParameterStored := by
  unfold Obligations.ParameterStored
  refine ⟨fun p => by cases p <;> simp [ParamId.number, ParamId.lo, ParamId.hi], fun s now r rest takes => ⟨?_, ?_⟩⟩
  · intro p sent body low high inRange v
    have taken : exec (.paramSet now) s = .next (answerPlaced r (ownParamSet r (s.taken now rest))) := by
      rw [← takeRequest_taken takes]
      rfl
    have number : unsignedAt r.body 0 2 = p.number := by
      rw [body]
      exact ParamId.ofNumber_body p _
    have value : signedAt r.body 2 4 = sent := by
      rw [body]
      have read := signedAt_encode (encode 2 p.number) [] 4 (v := sent) (by omega) (by omega)
      simpa using read
    have stored : (s.taken now rest).storedValue p sent = v := State.storedValue_eq _ p sent
    have acts : ownParamSet r (s.taken now rest) = (storeParameter p v (s.taken now rest),
        some (Reply.stored (v != sent) (encode 2 p.number ++ encode 4 v))) := by
      unfold ownParamSet
      dsimp only
      rw [number, value, ParamId.ofNumber_number, ← stored]
      rfl
    rw [acts] at taken
    refine ⟨_, taken, ?_⟩
    obtain ⟨time, pending, li⟩ := storeParameter_keeps p v (s.taken now rest)
    obtain ⟨-, params, -, -, -, -, -, pm, -, -, reports, busy, -⟩ :=
      parameterStored_keeps p (s.par p) ((s.taken now rest).setPar p v)
    have made : storeParameter p v (s.taken now rest) =
      Machine.parameterStored p (s.par p) ((s.taken now rest).setPar p v) := rfl
    rw [made] at time pending li ⊢
    have quiet : (Machine.parameterStored p (s.par p) ((s.taken now rest).setPar p v)).NoReport :=
      (State.taken_noReport s now rest).of_eq reports busy pm
    have waits : (Machine.parameterStored p (s.par p) ((s.taken now rest).setPar p v)).waiting = s.waiting ∧
        (Machine.parameterStored p (s.par p) ((s.taken now rest).setPar p v)).li.nextSeq = s.li.nextSeq := by
      rw [State.waiting, li]
      exact ⟨rfl, rfl⟩
    clear_value v
    generalize hy : (s.taken now rest).setPar p v = y at *
    have same : y.blocks = (s.setPar p v).blocks := by rw [← hy]; rfl
    generalize hw : Machine.parameterStored p (s.par p) y = w at *
    obtain ⟨replied, blocks, only⟩ := answerPlaced_replied (now := now) (u := w)
      (reply := Reply.stored (v != sent) (encode 2 p.number ++ encode 4 v)) takes.1 takes.2.1 ⟨time, pending⟩
      (by rw [li]; exact .refl _)
    obtain ⟨waiting, seq⟩ := only quiet
    obtain ⟨-, -, -, -, -, -, -, twd, -, -⟩ := State.parts_of_blocks blocks
    generalize answerPlaced r (w, some (Reply.stored (v != sent) (encode 2 p.number ++ encode 4 v))) = t at *
    have par : ∀ q, t.par q = (s.setPar p v).par q := fun q => by
      have table : t.params = (s.setPar p v).params := (congrArg Blocks.params blocks).trans (params.trans (by rw [← hy]; rfl))
      rw [State.par, State.par, table]
    have result : (Reply.stored (v != sent) (encode 2 p.number ++ encode 4 v)).result =
        if v = sent then .done else .doneClamped := by
      by_cases hv : v = sent <;> simp [Reply.stored, hv]
    rw [result] at replied
    obtain ⟨waitsW, seqW⟩ := waits
    refine ⟨⟨replied, waiting.trans waitsW, seq.trans seqW⟩, (par p).trans (State.par_setPar_same s p v), fun q other =>
      (par q).trans (State.par_setPar_other s p q v (Ne.symm other)), ?_⟩
    intro u limit aim rpm most speed required pumped feed feedLimit
    refine ⟨fun plain => ?_, fun h => ⟨fun kept => ?_, fun lowered => ?_⟩, fun h => ?_, fun h => ?_, fun h => ?_, fun h => ?_⟩
    · rw [blocks, ← hw, parameterStored_plain plain, same]
    · have rule : w = y := by
        have top : ¬y.par .maxWheelSpeed < s.par p := by rw [← hy, ← h, State.par_setPar_same]; omega
        rw [← hw, h]
        exact if_neg (h ▸ top)
      rw [blocks, rule, same]
    · have top : y.par .maxWheelSpeed = v := by rw [← hy, ← h, State.par_setPar_same]
      have rule : maximumStored (s.par p) y = w := by rw [← hw, h]; rfl
      obtain ⟨shape, applied, wheels⟩ := maximumStored_lowered (old := s.par p) (s := y) (by rw [top]; exact lowered)
      rw [rule, top] at wheels
      rw [rule] at shape applied
      obtain ⟨appliedT, wheelsT⟩ := WheelDrives.wheel_of_unsent twd
      refine ⟨?_, appliedT.trans (applied.trans (by rw [← hy]; rfl)), fun wheel => ?_⟩
      · rw [twd, blocks, ← same]
        exact (congrArg State.blocks shape :)
      · rw [wheelsT, wheels, State.targetOf_eq, ← hy]
        rfl
    · have top : y.par .diffMax = v := by rw [← hy, ← h, State.par_setPar_same]
      have rule : diffMaxStored y = w := by rw [← hw, h]; rfl
      intro demand both applied
      have clamped : clamp (-(y.par .diffMax)) (y.par .diffMax) y.sl.diffDemand = demand := by rw [top, ← hy]; rfl
      refine ⟨fun stands => ?_, fun changed => ?_⟩
      · have none : diffMaxStored y = y := if_pos (clamped.trans (stands.trans (by rw [← hy]; rfl)))
        rw [blocks, ← rule, none, same]
      · obtain ⟨shape, sent, wheels⟩ := diffMaxStored_changed (applied := applied) clamped (by rw [← hy]; exact changed)
          (by rw [← hy]; rfl)
        rw [rule] at shape sent wheels
        obtain ⟨appliedT, wheelsT⟩ := WheelDrives.wheel_of_unsent twd
        refine ⟨?_, appliedT.trans sent, fun wheel => ?_⟩
        · have sl : s.sl = y.sl := by rw [← hy]; rfl
          rw [twd, blocks, ← same, sl]
          exact (congrArg State.blocks shape :)
        · rw [wheelsT, wheels, State.targetOf_eq, ← hy]
          rfl
    · have rule : w = if y.sr.pumpState = .idle then recomputePump y else y := by rw [← hw, h]; rfl
      have flow : y.par .idleFlow = v := by rw [← hy, ← h, State.par_setPar_same]
      have state : y.sr.pumpState = s.sr.pumpState := by rw [← hy]; rfl
      rw [state] at rule
      by_cases idle : s.sr.pumpState = .idle
      · have command : y.pumpCommand = y.pumpFor v 0 := by
          unfold State.pumpCommand
          rw [state, idle, ← flow]
        rw [if_pos idle, recomputePump_eq, command] at rule
        rw [blocks, rule, if_pos idle, ← hy]
        rfl
      · rw [if_neg idle] at rule
        rw [blocks, rule, if_neg idle, ← hy]
        rfl
    · have rule := parameterStored_flow h (s.par p) y
      rw [hw, recomputePump_eq] at rule
      have state : (recomputeRequired y).sr.pumpState = s.sr.pumpState := by rw [← hy]; rfl
      rw [blocks, rule, State.pumpCommand, state, ← hy]
      cases s.sr.pumpState <;> rfl
    · have rule : w = recomputeFeedLimit y := by rw [← hw, h]; rfl
      rw [blocks, rule, ← hy]
      rfl
  · intro unknown
    have taken : exec (.paramSet now) s = .next (answerPlaced r (ownParamSet r (s.taken now rest))) := by
      rw [← takeRequest_taken takes]
      rfl
    have none : ownParamSet r (s.taken now rest) = (s.taken now rest, some (Reply.refuse .notFound)) := by
      unfold ownParamSet
      dsimp only
      rw [ParamId.ofNumber_none unknown]
      rfl
    rw [none] at taken
    exact ⟨_, taken, answerPlaced_only (Reply.refuse .notFound) takes.1 takes.2.1⟩
end

section
/-! Arrivals in a quiet state: the groups follow their sources, SENSOR_STALE follows the channels, and MP has nothing to
test (R29, R34, R48, R51). -/

namespace Sys2Proof.Machine

/-! ### Groups that follow their sources -/

/-- A bit of the group states, over the sources (R204). -/
theorem groupFold_bit (tu : TripUnit) (n : Nat) (l : List Source) : ∀ g : GroupSet,
    ((l.foldl (fun g i => if tu.sources.get i = .clear then g else g ||| tu.sets.get i) g).getLsbD n = true ↔
      g.getLsbD n = true ∨ ∃ i ∈ l, tu.sources.get i ≠ .clear ∧ (tu.sets.get i).getLsbD n = true) := by
  induction l with
  | nil => simp
  | cons i l ih =>
    intro g
    rw [List.foldl_cons, ih]
    by_cases h : tu.sources.get i = .clear
    · simp [h]
    · simp [h, or_assoc]

theorem Source.mem_all (i : Source) : i ∈ Source.all := by
  fin_cases i <;> decide

theorem TripUnit.groupsNow_bit (tu : TripUnit) (n : Nat) : tu.groupsNow.getLsbD n = true ↔
    ∃ i : Source, tu.sources.get i ≠ .clear ∧ (tu.sets.get i).getLsbD n = true := by
  unfold TripUnit.groupsNow
  rw [groupFold_bit]
  simp [Source.mem_all]

/-- Groups that follow are those that TU would compute (R204). -/
theorem State.GroupsFollow.groupsNow {s : State} (h : s.GroupsFollow) : s.tu.groupsNow = s.tu.groups := by
  have bits : ∀ g : Group, s.tu.groupsNow.getLsbD g.bit = s.tu.groups.getLsbD g.bit := fun g =>
    Bool.eq_iff_iff.2 ((s.tu.groupsNow_bit g.bit).trans (h.1 g).symm)
  refine BitVec.eq_of_getLsbD_eq fun n hn => ?_
  have small : n = 0 ∨ n = 1 ∨ n = 2 ∨ n = 3 ∨ n = 4 := by omega
  rcases small with rfl | rfl | rfl | rfl | rfl
  · exact bits (.wheel .a)
  · exact bits (.wheel .b)
  · exact bits .plates
  · exact bits .pump
  · exact bits .feed

theorem State.GroupsFollow.of_tu {s t : State} (h : s.GroupsFollow) (tu : t.tu = s.tu) : t.GroupsFollow := by
  unfold State.GroupsFollow State.tripped State.source at h ⊢
  rw [tu]
  exact h

/-- Groups that stand as TU computes them are not reported (R204, R205). -/
theorem recomputeGroups_same {s : State} (h : s.tu.groupsNow = s.tu.groups) : recomputeGroups s = s := by
  unfold recomputeGroups
  rw [h]
  simp [Group.all]

/-- A source may move between ACTIVE and LATCHED without a group that changes (R204). -/
theorem groupsNow_set {tu : TripUnit} {i : Source} {st : SourceState} (h : st = .clear ↔ tu.sources.get i = .clear) :
    TripUnit.groupsNow { tu with sources := tu.sources.set i.val st i.isLt } = tu.groupsNow := by
  have clear : ∀ j : Source, (tu.sources.set i.val st i.isLt).get j = .clear ↔ tu.sources.get j = .clear := fun j => by
    rw [Vector.get_eq_getElem, Vector.getElem_set]
    by_cases e : j = i
    · subst e
      simpa using h
    · have apart : i.val ≠ j.val := fun k => e (Fin.ext k.symm)
      simp [apart, Vector.get_eq_getElem]
  unfold TripUnit.groupsNow
  simp only [clear]

theorem sources_set_same (s : State) (i : Source) : s.tu.sources.set i.val (s.source i) i.isLt = s.tu.sources := by
  simp [State.source, Vector.get_eq_getElem]

/-- A condition that goes leaves its source LATCHED if it was ACTIVE, and touches no group (R203, R204). -/
theorem condition_gone {s : State} (h : s.GroupsFollow) (i : Source) :
    condition i false s =
      { s with tu := { s.tu with sources := s.tu.sources.set i.val ((s.source i).after false) i.isLt } } ∧
    (condition i false s).GroupsFollow := by
  have stays : ∀ st, s.source i = st → st.after false = st →
      ({ s with tu := { s.tu with sources := s.tu.sources.set i.val (st.after false) i.isLt } } : State) = s := by
    intro st hst same
    rw [same, ← hst, sources_set_same]
  have same : TripUnit.groupsNow { s.tu with sources := s.tu.sources.set i.val ((s.source i).after false) i.isLt } =
      s.tu.groups := by
    refine (groupsNow_set ?_).trans h.groupsNow
    show _ ↔ s.source i = .clear
    cases s.source i <;> simp [SourceState.after]
  have eq : condition i false s =
      { s with tu := { s.tu with sources := s.tu.sources.set i.val ((s.source i).after false) i.isLt } } := by
    unfold condition
    cases hs : s.source i with
    | clear => exact (stays _ hs rfl).symm
    | latched => exact (stays _ hs rfl).symm
    | active =>
      rw [hs] at same
      exact recomputeGroups_same same
  refine ⟨eq, ?_⟩
  rw [eq]
  refine ⟨fun g => ?_, h.2⟩
  show s.tu.groups.getLsbD g.bit = true ↔ _
  rw [← same]
  exact TripUnit.groupsNow_bit _ _

/-! ### SENSOR_STALE -/

theorem Channel.mem_all (c : Channel) : c ∈ Channel.all := List.mem_of_find?_eq_some (Channel.ofNumber_idx c)

theorem State.sensorStaleNow_iff (s : State) : s.sensorStaleNow = true ↔
    ∃ c, (s.chan c).state = .stale ∨ s.fc.startOver = true ∧ (s.chan c).state = .absent := by
  simp [State.sensorStaleNow, Channel.mem_all]

theorem State.sensorStaleFollows_iff (s : State) : s.SensorStaleFollows ↔ s.fc.sensorStale = s.sensorStaleNow := by
  unfold State.SensorStaleFollows
  rw [← s.sensorStaleNow_iff]
  exact Bool.eq_iff_iff.symm

/-- SENSOR_STALE that can only go changes FC's mark and its own source (R51, R203). -/
theorem sensorStaleWatch_quiet {s : State} (h : s.GroupsFollow) (down : s.sensorStaleNow = true → s.fc.sensorStale = true) :
    sensorStaleWatch s = { s with
      fc := { s.fc with sensorStale := s.sensorStaleNow }
      tu := { s.tu with sources :=
        s.tu.sources.set Source.sensorStale.val ((sensorStaleWatch s).source Source.sensorStale) Source.sensorStale.isLt } } ∧
    (sensorStaleWatch s).GroupsFollow := by
  unfold sensorStaleWatch
  by_cases same : s.sensorStaleNow = s.fc.sensorStale
  · simp only [same, if_true]
    rw [sources_set_same]
    exact ⟨rfl, h⟩
  · have gone : s.sensorStaleNow = false := by
      cases now : s.sensorStaleNow with
      | false => rfl
      | true => exact absurd (now.trans (down now).symm) same
    simp only [same, if_false]
    have follow : ({ s with fc := { s.fc with sensorStale := s.sensorStaleNow } } : State).GroupsFollow := h.of_tu rfl
    rw [gone] at follow ⊢
    obtain ⟨eq, kept⟩ := condition_gone follow Source.sensorStale
    refine ⟨?_, kept⟩
    have source : (condition Source.sensorStale false { s with fc := { s.fc with sensorStale := false } }).source
        Source.sensorStale = (s.source Source.sensorStale).after false := by
      rw [condition_source, if_pos rfl]
      rfl
    rw [source, eq]
    rfl

theorem State.SensorStaleFollows.of_fc {s t : State} (h : s.SensorStaleFollows) (fc : t.fc = s.fc) :
    t.SensorStaleFollows := by
  unfold State.SensorStaleFollows State.chan at h ⊢
  rw [fc]
  exact h

theorem sensorStaleWatch_same {s : State} (h : s.SensorStaleFollows) : sensorStaleWatch s = s :=
  if_pos (s.sensorStaleFollows_iff.1 h).symm

/-! ### A quiet arrival -/

/-- The channel entry of an arrival (R48 steps 1 to 3). -/
def State.seen (s : State) (c : Channel) (v : Int) : State :=
  s.setChan c { s.chan c with
    value := v
    windowCount := (s.chan c).windowCount + 1
    state := if (s.chan c).state = .absent then .fresh else (s.chan c).state
    unjudged := if (s.chan c).state = .absent then true else (s.chan c).unjudged }

theorem arrival_seen (c : Channel) (v : Int) (s : State) : arrival c v s = passValue c v
    (if (s.chan c).state = .absent then sensorStaleWatch (holdTest (channelReport c (s.seen c v))) else s.seen c v) := rfl

theorem State.seen_state (s : State) (c d : Channel) (v : Int) : ((s.seen c v).chan d).state =
    if d = c ∧ (s.chan c).state = .absent then .fresh else (s.chan d).state := by
  unfold State.seen
  by_cases h : d = c
  · subst h
    simp
  · rw [State.chan_setChan_other _ _ _ _ (Ne.symm h), if_neg fun k => h k.1]

theorem State.seen_fresh (s : State) (c d : Channel) (v : Int) : (s.seen c v).fresh d =
    (s.fresh d || decide (d = c ∧ (s.chan c).state = .absent)) := by
  unfold State.fresh
  rw [State.seen_state]
  by_cases h : d = c ∧ (s.chan c).state = .absent <;> simp [h]

theorem State.seen_value (s : State) (c d : Channel) (v : Int) :
    (s.seen c v).value d = if d = c then v else s.value d := by
  unfold State.value State.seen
  by_cases h : d = c
  · subst h
    simp
  · rw [State.chan_setChan_other _ _ _ _ (Ne.symm h), if_neg h]

/-- What an arrival of a channel without a report of its own leaves before its users take the value: the channel entry,
and SENSOR_STALE (R48, R51). -/
structure State.Arrived (s : State) (c : Channel) (v : Int) (u : State) : Prop where
  only : u = { s with
    fc := u.fc
    tu := { s.tu with sources :=
      s.tu.sources.set Source.sensorStale.val (u.source Source.sensorStale) Source.sensorStale.isLt } }
  fc : u.fc = { (s.seen c v).fc with sensorStale := u.fc.sensorStale }
  tu : (s.chan c).state ≠ .absent → u.tu = s.tu
  groups : s.GroupsFollow → u.GroupsFollow
  stale : s.SensorStaleFollows → u.SensorStaleFollows

/-- The channels whose change to FRESH no block but SENSOR_STALE is told of (R50). -/
def Channel.plain : Channel → Bool
  | .incl _ _ | .depth => false
  | _ => true

theorem channelReport_fresh {c : Channel} {s : State} (plain : c.plain = true) (fresh : s.fresh c = true) :
    channelReport c s = s := by
  unfold channelReport
  rw [fresh]
  cases c with
  | incl m a => cases plain
  | depth => cases plain
  | _ => rfl

theorem holdTest_quiet {s : State} (auto : s.mp.mode = .auto → s.mp.holdCauses.present = false)
    (hold : s.mp.mode = .hold → s.mp.holdCauses.present = true) : holdTest s = s := by
  unfold holdTest
  split
  · rename_i h
    rw [auto h]
    rfl
  · rename_i h
    rw [hold h]
    rfl
  · rfl
  · rfl
  · rfl

/-- A quiet arrival (R29, R34, R48, R51). -/
theorem arrival_quiet {c : Channel} (plain : c.plain = true) {s : State} (v : Int)
    (quiet : (s.chan c).state = .absent → s.ArrivalQuiet) : ∃ u, s.Arrived c v u ∧ arrival c v s = passValue c v u := by
  have groups : s.GroupsFollow → (s.seen c v).GroupsFollow := fun h => h.of_tu rfl
  have source : (s.seen c v).source = s.source := rfl
  rw [arrival_seen]
  by_cases absent : (s.chan c).state = .absent
  · rw [if_pos absent, channelReport_fresh plain (by simp [State.seen_fresh, absent])]
    obtain ⟨follow, stale, -, auto, hold⟩ := quiet absent
    rw [holdTest_quiet (s := s.seen c v) auto hold]
    have down : (s.seen c v).sensorStaleNow = true → (s.seen c v).fc.sensorStale = true := by
      rw [State.sensorStaleNow_iff]
      rintro ⟨d, hd⟩
      refine stale.2 ⟨d, ?_⟩
      have began : (s.seen c v).fc.startOver = s.fc.startOver := rfl
      rw [State.seen_state, began] at hd
      by_cases h : d = c ∧ (s.chan c).state = .absent
      · simp [h] at hd
      · simpa [h] using hd
    obtain ⟨eq, kept⟩ := sensorStaleWatch_quiet (groups follow) down
    generalize sensorStaleWatch (s.seen c v) = w at *
    have fc : w.fc = { (s.seen c v).fc with sensorStale := (s.seen c v).sensorStaleNow } := (congrArg State.fc eq :)
    refine ⟨w, ⟨?_, ?_, fun h => absurd absent h, fun _ => kept, fun _ => ?_⟩, rfl⟩
    · rw [fc]
      exact eq
    · rw [fc]
    · rw [State.sensorStaleFollows_iff]
      unfold State.sensorStaleNow State.chan
      rw [fc]
      rfl
  · rw [if_neg absent]
    refine ⟨_, ⟨?_, rfl, fun _ => rfl, groups, fun h => ?_⟩, rfl⟩
    · rw [source, sources_set_same]
      rfl
    · have state : ∀ d, ((s.seen c v).chan d).state = (s.chan d).state := fun d => by
        rw [State.seen_state, if_neg fun k => absent k.2]
      unfold State.SensorStaleFollows at h ⊢
      simp only [state]
      exact h

/-! ### The end of START -/

/-- The state in which MP ends START (R29). -/
def State.startOver (s : State) : State :=
  { s with mp := { s.mp with startTimer := none }, fc := { s.fc with startOver := true } }

/-- With no channel ABSENT, SENSOR_STALE stays as it is when START ends (R29, R51). -/
theorem endStart_quiet {s : State} (h : s.SensorStaleFollows) (present : ∀ c, (s.chan c).state ≠ .absent) :
    endStart s = changeMode .standby s.startOver := by
  have began : s.startOver.SensorStaleFollows := by
    have chan : ∀ c, s.startOver.chan c = s.chan c := fun _ => rfl
    have flag : s.startOver.fc.sensorStale = s.fc.sensorStale := rfl
    unfold State.SensorStaleFollows at h ⊢
    simp only [chan, flag, h, present, and_false, or_false]
  unfold endStart
  exact sensorStaleWatch_same (began.of_fc (by simp [State.startOver]))

/-- The test after an arrival: START ends with the one entry of STANDBY, or nothing changes (R29). -/
theorem startTest_quiet {s : State} (h : s.mp.mode = .start → s.SensorStaleFollows) :
    startTest s = s ∨ s.mp.mode = .start ∧ startTest s = changeMode .standby s.startOver := by
  unfold startTest
  split
  · rename_i ends
    obtain ⟨start, all⟩ := ends
    have present : ∀ c, (s.chan c).state ≠ .absent := fun c => by
      have here := List.all_eq_true.1 all c (Channel.mem_all c)
      simpa using here
    exact .inr ⟨start, endStart_quiet (h start) present⟩
  · exact .inl rfl

/-- A sample within its range is an arrival (R47). -/
theorem sample_arrival {c : Channel} {v : Int} (low : c.range.1 ≤ v) (high : v ≤ c.range.2) (s : State) :
    sample (c.idx.val + 1) v s = startTest (arrival c v s) := by
  unfold sample
  rw [Channel.ofNumber_idx]
  exact if_pos ⟨low, high⟩

end Sys2Proof.Machine
end

section
/-! The transit line of a return flow sample (O52): placing, arrivals at the meter, and what of the state they read. -/

namespace Sys2Proof.Machine

/-! ### Placing (R191, R192) -/

/-- Litres behind an empty line, by the cutter copy (R191 cases 1 and 2). -/
theorem placeLitres_nowhere {s : State} (h : s.sr.cutter = none) (vIn : Litres) (n : Nat) : placeLitres vIn n s = s := by
  unfold placeLitres placement
  rw [h]

theorem placeLitres_empty {s : State} {c : CutterCopy} (hc : s.sr.cutter = some c) (hl : s.sr.line = []) (vIn : Litres)
    (n : Nat) : placeLitres vIn n s = { s with sr := { s.sr with line := s.sr.line ++ [s.openedParcel c vIn n] } } := by
  unfold placeLitres placement
  rw [hc, hl]
  rfl

/-- Litres behind a youngest parcel, by its place and the room of the line (R191 cases 3 to 7). -/
theorem placeLitres_youngest {s : State} {c : CutterCopy} {older : List Parcel} {y : Parcel} (hc : s.sr.cutter = some c)
    (hl : s.sr.line = older ++ [y]) (vIn : Litres) (n : Nat) :
    let opened := { s with sr := { s.sr with line := s.sr.line ++ [s.openedParcel c vIn n] } }
    let grown := { s with sr := { s.sr with line := older ++ [{ y with volume := y.volume + BitVec.ofNat 32 n }] } }
    placeLitres vIn n s =
      if y.atMeter then opened
      else if y.station ≠ c.station ∨ y.pass ≠ c.pass ∨ s.par .parcelSize ≤ (y.volume.toNat : Int) then
        if older.length + 1 < 64 then opened else grown.count 8
      else grown := by
  intro opened grown
  have size : s.sr.line.length = older.length + 1 := by rw [hl]; simp
  have youngest : s.sr.line.getLast? = some y := by rw [hl]; simp
  have grows : ({ s with sr := { s.sr with line := growYoungest s.sr.line n } } : State) = grown := by
    rw [hl, growYoungest_append]
  unfold placeLitres placement
  rw [hc, youngest]
  dsimp only
  by_cases meter : y.atMeter = true
  · rw [if_pos meter, if_pos meter]
  · rw [if_neg meter, if_neg meter]
    by_cases next : y.station ≠ c.station ∨ y.pass ≠ c.pass ∨ s.par .parcelSize ≤ (y.volume.toNat : Int)
    · rw [if_pos next, if_pos next, size]
      by_cases room : older.length + 1 < 64
      · rw [if_pos (show older.length + 1 < Config.lineSize from room), if_pos room]
      · rw [if_neg (show ¬older.length + 1 < Config.lineSize from room), if_neg room]
        exact congrArg (State.count · 8) grows
    · rw [if_neg next, if_neg next]
      exact grows

/-! ### Arrivals at the meter (R194) -/

/-- A parcel come to the meter. -/
def Parcel.come (p : Parcel) : Parcel := { p with atMeter := true }

/-- No arrival behind a parcel that has not arrived (R194). -/
theorem arrivals_none {v : Litres} {rest : List Parcel} (h : (rest.takeWhile fun p => p.arrived v) = [])
    (head : Option Parcel) : arrivals v head rest = (head.toList ++ rest, []) := by
  cases rest with
  | nil => simp [arrivals]
  | cons p rest =>
    have stops : ¬p.arrived v = true := fun yes => by simp [yes] at h
    unfold arrivals
    rw [if_neg stops]

/-- The parcels that have arrived come to the meter one after the other, each head before the last leaving (R194). -/
theorem arrivals_come {v : Litres} {last : Parcel} {behind : List Parcel} (hlast : last.arrived v = true)
    (stop : (behind.takeWhile fun p => p.arrived v) = []) (passed : List Parcel) :
    (∀ p ∈ passed, p.arrived v = true) → ∀ head : Option Parcel,
      arrivals v head (passed ++ last :: behind) = (last.come :: behind, head.toList ++ passed.map Parcel.come) := by
  induction passed with
  | nil =>
    intro _ head
    rw [List.nil_append, arrivals, if_pos hlast]
    dsimp only
    rw [arrivals_none stop]
    rfl
  | cons p passed ih =>
    intro all head
    rw [List.cons_append, arrivals, if_pos (all p List.mem_cons_self)]
    dsimp only
    rw [ih (fun q hq => all q (List.mem_cons_of_mem _ hq))]
    rfl

/-- A line of an AT_METER head, if there is one, and parcels IN_LINE (R189). -/
theorem lineArrivals_eq (v : Litres) {head inLine : List Parcel} (one : head.length ≤ 1)
    (meter : ∀ p ∈ head, p.atMeter = true) (waits : ∀ p ∈ inLine, p.atMeter = false) :
    lineArrivals v (head ++ inLine) = arrivals v head.head? inLine := by
  cases head with
  | nil =>
    cases inLine with
    | nil => rfl
    | cons p rest =>
      rw [List.nil_append, lineArrivals, if_neg (by simp [waits p List.mem_cons_self])]
      rfl
  | cons p rest =>
    have alone : rest = [] := List.eq_nil_of_length_eq_zero (by simpa using one)
    subst alone
    rw [List.cons_append, lineArrivals, if_pos (meter p List.mem_cons_self)]
    rfl

/-- The attributions of the heads that leave: those with a density sample, each with its mean (R196). -/
theorem attributeParcels_eq (gone : List Parcel) : ∀ s : State, gone.foldl attributeParcel s =
    (gone.filter fun p => p.densityCount ≠ 0).foldl (fun u p =>
      attribution p.station p.pass ((2 * p.densitySum + p.densityCount) / (2 * p.densityCount)) p.volume.toNat u) s := by
  induction gone with
  | nil => intro s; rfl
  | cons p gone ih =>
    intro s
    rw [List.foldl_cons, ih]
    by_cases h : p.densityCount = 0
    · rw [attributeParcel, if_pos h, List.filter_cons_of_neg (by simp [h])]
    · rw [attributeParcel, if_neg h, List.filter_cons_of_pos (by simp [h]), List.foldl_cons]
      rfl

/-! ### What the line reads and writes -/

/-- Two states alike in what an attribution reads and writes: the panel, DI, the counters and the reports. -/
structure State.SameProfile (s u : State) : Prop where
  panel : s.mp.panel = u.mp.panel
  di : s.di = u.di
  counters : s.counters = u.counters
  reports : s.reports = u.reports

theorem State.count_congr {s u : State} (h : s.counters = u.counters) (n : Nat) :
    (s.count n).counters = (u.count n).counters := by
  unfold State.count State.addCounter
  dsimp only
  rw [h]

theorem State.SameProfile.count {s u : State} (h : s.SameProfile u) (n : Nat) : (s.count n).SameProfile (u.count n) :=
  ⟨by simpa using h.panel, by simpa using h.di, State.count_congr h.counters n, by simpa using h.reports⟩

/-- An attribution reads and writes no other part of the state (R92). -/
theorem State.SameProfile.attribution {s u : State} (h : s.SameProfile u) (k pass : Nat) (d : Int) (v : Nat) :
    (attribution k pass d v s).SameProfile (attribution k pass d v u) := by
  have opens : s.openMatches k pass = u.openMatches k pass := by simp only [State.openMatches, h.di]
  unfold Machine.attribution
  rw [h.panel, opens, h.di]
  split
  · exact h.count 10
  · split
    · exact ⟨h.panel, by simp [changeOpen, setOpen, State.report, h.di], h.counters, by
        simp [changeOpen, setOpen, State.report, h.reports]⟩
    · split
      · split
        · exact ⟨h.panel, by simp [State.report], h.counters, by simp [State.report, h.reports]⟩
        · exact h.count 10
      · exact h.count 10

/-- Alike also in the line, the cutter copy, V_pump and the parameters, which placing and the arrival test read. -/
structure State.SameTransit (s u : State) : Prop extends s.SameProfile u where
  line : s.sr.line = u.sr.line
  cutter : s.sr.cutter = u.sr.cutter
  vPump : s.sr.vPump = u.sr.vPump
  params : s.params = u.params

theorem State.SameTransit.placed {s u : State} (h : s.SameTransit u) (vIn : Litres) (n : Nat) :
    (placeLitres vIn n s).SameTransit (placeLitres vIn n u) := by
  have par : ∀ p, s.par p = u.par p := fun p => by simp only [State.par, h.params]
  have opened : ∀ c, s.openedParcel c vIn n = u.openedParcel c vIn n := fun c => by
    simp only [State.openedParcel, State.vlineAt, par]
  unfold placeLitres
  rw [h.cutter, h.line, par]
  split
  · exact h
  · exact ⟨⟨h.panel, h.di, h.counters, h.reports⟩, by simp only [opened], h.cutter, h.vPump, h.params⟩
  · have alike : ∀ l, ({ s with sr := { s.sr with line := l } } : State).SameProfile { u with sr := { u.sr with line := l } } :=
      fun _ => ⟨h.panel, h.di, h.counters, h.reports⟩
    exact ⟨(alike _).count 8, by simp, by simpa using h.cutter, by simpa using h.vPump, by simpa using h.params⟩
  · exact ⟨⟨h.panel, h.di, h.counters, h.reports⟩, rfl, h.cutter, h.vPump, h.params⟩

theorem State.SameProfile.attributed (gone : List Parcel) : ∀ {s u : State}, s.SameProfile u →
    (gone.foldl attributeParcel s).SameProfile (gone.foldl attributeParcel u) := by
  induction gone with
  | nil => exact id
  | cons p gone ih =>
    intro s u h
    refine ih ?_
    unfold attributeParcel
    split
    · exact h
    · exact h.attribution _ _ _ _

/-- The arrival test leaves alike what is alike (R194, R196). -/
theorem State.SameTransit.tested {s u : State} (h : s.SameTransit u) :
    (testArrivals s).SameProfile (testArrivals u) ∧ (testArrivals s).sr.line = (testArrivals u).sr.line := by
  refine ⟨?_, by rw [testArrivals_sr, testArrivals_sr, h.line, h.vPump]⟩
  unfold testArrivals
  rw [h.line, h.vPump]
  exact .attributed _ ⟨h.panel, h.di, h.counters, h.reports⟩

end Sys2Proof.Machine
end

section
/-! A return flow sample as an event (O52). -/

namespace Sys2Proof.Machine

/-! ### The watches before the litres -/

/-- The blockage watch that touches no group changes SR's watch and the source's state alone (R180, R204). -/
theorem blockageWatch_quiet {s : State} (h : s.sr.returnBlocked = true → s.GroupsFollow) :
    blockageWatch s = { s with
      sr := { s.sr with
        blockTimer := (blockageWatch s).sr.blockTimer, returnBlocked := (blockageWatch s).sr.returnBlocked }
      tu := (blockageWatch s).tu } := by
  unfold blockageWatch
  split
  · split
    · split
      · rfl
      · rfl
    · split
      · rename_i blocked
        have follow : ({ s with sr := { s.sr with blockTimer := none, returnBlocked := false } } : State).GroupsFollow :=
          (h blocked).of_tu rfl
        rw [(condition_gone follow Source.returnBlocked).1]
      · rfl
  · rfl

/-- The trim and the command are all that a measured flow adjusts (R174, R175). -/
theorem adjustTrim_eq (v : Int) (s : State) : adjustTrim v s = { s with
    sr := { s.sr with trim := (adjustTrim v s).sr.trim, command := (adjustTrim v s).sr.command } } := by
  unfold adjustTrim
  split
  · rw [recomputePump_eq]
  · rfl

/-- What SR's watches and DI's gathering leave to the pumped volume (R83, R175, R180). -/
theorem flowWatched {s : State} (h : s.sr.returnBlocked = true → s.GroupsFollow) (v : Int) :
    let z := gatherFlow v (adjustTrim v (blockageWatch s))
    z = { s with sr := z.sr, tu := z.tu, di := z.di } ∧
    z.di = { s.di with openRecord := s.di.openRecord.map fun r => { r with flow := r.flow.add v } } ∧
    z.sr.line = s.sr.line ∧ z.sr.cutter = s.sr.cutter ∧ z.sr.vPump = s.sr.vPump ∧ z.sr.flowResidue = s.sr.flowResidue ∧
    z.sr.prevFlow = s.sr.prevFlow ∧ z.sr.backflushTimer = s.sr.backflushTimer := by
  intro z
  have watch := blockageWatch_quiet h
  have trim := adjustTrim_eq v (blockageWatch s)
  have eq : z = gatherFlow v (adjustTrim v (blockageWatch s)) := rfl
  generalize blockageWatch s = x at *
  generalize adjustTrim v x = y at *
  rw [eq, trim, watch]
  exact ⟨rfl, rfl, rfl, rfl, rfl, rfl, rfl, rfl⟩

/-! ### The pumped volume (R188) -/

/-- The elapsed time as a number (R160, R188). -/
theorem elapsedSince_cast (now : RunTime) (prev : Option RunTime) : (elapsedSince now prev : Int) =
    match prev with
    | some p => min ((now - p).toNat : Int) 1000
    | none => 0 := by
  unfold elapsedSince
  cases prev with
  | none => rfl
  | some p =>
    show ((min (now - p).toNat 1000 : Nat) : Int) = _
    push_cast
    rfl

/-- V_pump, the residue and the time of the last flow after an arrival (R188). -/
def State.pumped (s : State) (flow : Int) : State :=
  let total := flow * elapsedSince s.runTime s.sr.prevFlow + s.sr.flowResidue
  let pumps := 0 < flow ∧ s.sr.backflushTimer = none
  { s with sr := { s.sr with
    prevFlow := some s.runTime
    vPump := if pumps then s.sr.vPump + BitVec.ofNat 32 (total / 60000).toNat else s.sr.vPump
    flowResidue := if pumps then total - 60000 * (total / 60000) else s.sr.flowResidue } }

theorem pumpedVolume_eq (flow : Int) (s : State) : pumpedVolume flow s =
    if (0 < flow ∧ s.sr.backflushTimer = none) ∧
      ((flow * elapsedSince s.runTime s.sr.prevFlow + s.sr.flowResidue) / 60000).toNat ≠ 0 then
      testArrivals (placeLitres s.sr.vPump
        ((flow * elapsedSince s.runTime s.sr.prevFlow + s.sr.flowResidue) / 60000).toNat (s.pumped flow))
    else s.pumped flow := by
  have runs : (0 < flow ∧ (!({ s with sr := { s.sr with prevFlow := some s.runTime } } : State).backflushing) = true) ↔
      0 < flow ∧ s.sr.backflushTimer = none := by
    simp [State.backflushing]
  unfold pumpedVolume State.pumped
  dsimp only
  by_cases pumps : 0 < flow ∧ s.sr.backflushTimer = none
  · rw [if_pos (runs.2 pumps)]
    simp only [pumps, and_self, if_true, true_and, ne_eq, floorDiv, keptRemainder, Nat.one_le_iff_ne_zero]
  · rw [if_neg fun h => pumps (runs.1 h), if_neg fun h => pumps h.1, if_neg pumps, if_neg pumps]

theorem placeLitres_sr (vIn : Litres) (n : Nat) (s : State) :
    (placeLitres vIn n s).sr = { s.sr with line := (placeLitres vIn n s).sr.line } := by
  unfold placeLitres
  split <;> simp

/-- The line is all of SR that an arrival changes past V_pump (R191, R194). -/
theorem pumpedVolume_sr (flow : Int) (s : State) :
    (pumpedVolume flow s).sr = { (s.pumped flow).sr with line := (pumpedVolume flow s).sr.line } := by
  rw [pumpedVolume_eq]
  split
  · rw [testArrivals_sr, placeLitres_sr]
  · rfl

/-! ### Changes of mode -/

theorem slurryEnter_copies (old : Mode) (s : State) :
    (slurryEnter old s).sr.cutter = s.sr.cutter ∧ (slurryEnter old s).sr.prevFlow = s.sr.prevFlow := by
  rw [slurryEnter_eq]
  split <;> simp [recomputePermit, recomputeFeedLimit, refreshPump, recomputePump_eq, recomputeRequired, trimmed]

/-- A change of mode leaves SR's copy of the open station and the time of the last flow (R38). -/
theorem changeMode_copies (m : Mode) (s : State) :
    (changeMode m s).sr.cutter = s.sr.cutter ∧ (changeMode m s).sr.prevFlow = s.sr.prevFlow := by
  have wheels : ∀ u : State, (wheelsEnter s.mp.mode u).sr.cutter = u.sr.cutter ∧
      (wheelsEnter s.mp.mode u).sr.prevFlow = u.sr.prevFlow := fun u => ⟨rfl, rfl⟩
  unfold changeMode
  split
  · exact ⟨rfl, rfl⟩
  · obtain ⟨cutter, prev⟩ := slurryEnter_copies s.mp.mode (platesEnter (wheelsEnter s.mp.mode
      (steeringEnter { s with mp := { s.mp with mode := m } })))
    refine ⟨cutter.trans ?_, prev.trans ?_⟩
    · simp [(wheels _).1]
    · simp [(wheels _).2]

end Sys2Proof.Machine
end

section
/-! O52: the event of a return flow sample, and the cases of placing and of the arrival test. -/

namespace Sys2Proof.Machine

/-! ### After the arrival -/

/-- The end of START after an arrival is reported once, and leaves SR's line and copies (R14, R29). -/
theorem startTest_reports {s : State} (h : s.mp.mode = .start → s.SensorStaleFollows) :
    (startTest s).reports = s.reports ++ (if (startTest s).mp.mode = s.mp.mode then [] else [.mode .standby]) ∧
    (startTest s).sr.cutter = s.sr.cutter ∧ (startTest s).sr.prevFlow = s.sr.prevFlow := by
  rcases startTest_quiet h with same | ⟨start, ends⟩
  · rw [same, if_pos rfl, List.append_nil]
    exact ⟨rfl, rfl, rfl⟩
  · have began : s.startOver.mp.mode = .start := start
    obtain ⟨cutter, prev⟩ := changeMode_copies .standby s.startOver
    rw [ends, changeMode_reports, changeMode_mp, start, began]
    exact ⟨rfl, cutter, prev⟩

/-! ### Waits for an attribution -/

/-- A wait for an attribution goes on until a report names its station, whatever else is reported (section 1.6). -/
theorem firstMet_attributed {e : WaitEntry} (h : e.cond = .attributed) (reports others : List Report)
    (other : ∀ p ∈ others, e.metBy p = none) :
    (e.firstMet (reports ++ others)).isNone = !reports.any fun p => match p with
      | .attributed k => e.arg == (k : Int)
      | _ => false := by
  have met : ∀ p, (e.metBy p).isSome = match p with
      | .attributed k => e.arg == (k : Int)
      | _ => false := fun p => by
    unfold WaitEntry.metBy
    rw [h]
    cases p with
    | attributed k => by_cases hk : e.arg = (k : Int) <;> simp [hk]
    | _ => rfl
  unfold WaitEntry.firstMet
  rw [Option.isNone_map, List.findSome?_append, List.findSome?_eq_none_iff.2 other, Option.or_none]
  rw [Bool.eq_iff_iff]
  simp only [Option.isNone_iff_eq_none, List.findSome?_eq_none_iff, Bool.not_eq_true', List.any_eq_false, ← met,
    Option.isSome_iff_ne_none]
  simp

/-- The waits for an attribution that an event leaves. -/
theorem finish_attributed {x : State} {reports : List Report} {p : Prop} [Decidable p]
    (hr : x.reports = reports ++ if p then [] else [.mode .standby]) :
    ((finish x).waiting.filter fun e => e.cond == .attributed) = x.waiting.filter fun e => e.cond == .attributed &&
      !(reports.any fun p => match p with
        | .attributed k => e.arg == (k : Int)
        | _ => false) := by
  unfold finish
  rw [sendRecords_stay, takeReports_stay, List.filter_filter]
  refine List.filter_congr fun e _ => ?_
  by_cases h : e.cond = .attributed
  · have other : ∀ q ∈ (if p then [] else [Report.mode .standby]) ++
        (if x.plateBusy && !x.pm.busy then [Report.platesIdle] else []), e.metBy q = none := fun q hq => by
      unfold WaitEntry.metBy
      rw [h]
      cases q with
      | attributed k => split at hq <;> simp at hq
      | _ => rfl
    rw [State.allReports, hr, List.append_assoc, firstMet_attributed h _ _ other, h]
  · have no : (e.cond == .attributed) = false := beq_eq_false_iff_ne.2 h
    rw [no, Bool.false_and, Bool.false_and]

/-! ### The event -/

/-- What the statement's line sees of a flow sample: DI with the flow gathered, and V_pump (R83, R188). -/
def State.flowSeen (s : State) (v : Int) (vPump : Litres) : State :=
  { s with
    di := { s.di with openRecord := s.di.openRecord.map fun r => { r with flow := r.flow.add v } }
    sr := { s.sr with vPump := vPump }
    reports := [] }

/-- An arrival's pumped volume leaves what placing and the arrival test leave of the statement's state (R188 to R194). -/
theorem pumpedVolume_seen {s z : State} {v : Int} (pumped : Litres) (panel : z.mp = s.mp) (counters : z.counters = s.counters)
    (reports : z.reports = []) (params : z.params = s.params)
    (di : z.di = { s.di with openRecord := s.di.openRecord.map fun r => { r with flow := r.flow.add v } })
    (line : z.sr.line = s.sr.line) (cutter : z.sr.cutter = s.sr.cutter) (vPump : z.sr.vPump = s.sr.vPump)
    (total : (z.pumped v).sr.vPump = pumped) :
    let litres := ((v * elapsedSince z.runTime z.sr.prevFlow + z.sr.flowResidue) / 60000).toNat
    let w := if (0 < v ∧ z.sr.backflushTimer = none) ∧ litres ≠ 0 then
        testArrivals (placeLitres s.sr.vPump litres (s.flowSeen v pumped))
      else s.flowSeen v pumped
    (pumpedVolume v z).SameProfile w ∧ (pumpedVolume v z).sr.line = w.sr.line := by
  intro litres w
  have same : (z.pumped v).SameTransit (s.flowSeen v pumped) :=
    ⟨⟨congrArg ModePanel.panel panel, di, counters, reports⟩, line, cutter, total, params⟩
  rw [pumpedVolume_eq, vPump]
  by_cases runs : (0 < v ∧ z.sr.backflushTimer = none) ∧ litres ≠ 0
  · rw [if_pos runs, show w = _ from if_pos runs]
    exact (same.placed _ _).tested
  · rw [if_neg runs, show w = _ from if_neg runs]
    exact ⟨same.toSameProfile, same.line⟩

/-- The arrival of a flow sample up to the test of START: SR's pumped volume behind a state that differs from the begun
event only where the statement does not look (R48, R83, R175, R180). -/
theorem arrival_flow {s : State} (v : Int) (now : RunTime) (blocked : s.sr.returnBlocked = true → s.GroupsFollow)
    (quiet : (s.chan .retFlow).state = .absent → s.ArrivalQuiet) : ∃ z,
      arrival .retFlow v (s.begin now) = pumpedVolume v z ∧
      (z.runTime = now ∧ z.pending = s.pending ∧ z.li = s.li ∧ z.plateBusy = s.pm.busy) ∧
      (z.mp = s.mp ∧ z.counters = s.counters ∧ z.reports = [] ∧ z.params = s.params) ∧
      z.di = { s.di with openRecord := s.di.openRecord.map fun r => { r with flow := r.flow.add v } } ∧
      (z.sr.line = s.sr.line ∧ z.sr.cutter = s.sr.cutter ∧ z.sr.vPump = s.sr.vPump ∧
        z.sr.flowResidue = s.sr.flowResidue ∧ z.sr.prevFlow = s.sr.prevFlow ∧
        z.sr.backflushTimer = s.sr.backflushTimer) ∧
      (s.SensorStaleFollows → z.SensorStaleFollows) := by
  obtain ⟨u, arrived, eq⟩ := arrival_quiet (c := .retFlow) rfl (s := s.begin now) v quiet
  have sr : u.sr = s.sr := (congrArg State.sr arrived.only :)
  have di : u.di = s.di := (congrArg State.di arrived.only :)
  have follow : u.sr.returnBlocked = true → u.GroupsFollow := fun h =>
    arrived.groups (blocked (sr ▸ h))
  obtain ⟨only, gathered, rest⟩ := flowWatched follow v
  rw [di] at gathered
  rw [sr] at rest
  refine ⟨_, eq, ?_⟩
  generalize gatherFlow v (adjustTrim v (blockageWatch u)) = z at *
  rw [arrived.only] at only
  refine ⟨⟨(congrArg State.runTime only :), (congrArg State.pending only :), (congrArg State.li only :),
    (congrArg State.plateBusy only :)⟩, ⟨(congrArg State.mp only :), (congrArg State.counters only :),
    (congrArg State.reports only :), (congrArg State.params only :)⟩, gathered, rest, fun h => ?_⟩
  exact (arrived.stale h).of_fc (congrArg State.fc only :)

/-- A list cut where a test first fails. -/
theorem takeWhile_parts {α : Type} (f : α → Bool) (l : List α) :
    l.takeWhile f ++ l.dropWhile f = l ∧ (∀ a ∈ l.takeWhile f, f a = true) ∧ (l.dropWhile f).takeWhile f = [] := by
  refine ⟨List.takeWhile_append_dropWhile, fun a h => List.mem_takeWhile_imp h, ?_⟩
  induction l with
  | nil => rfl
  | cons a l ih => by_cases h : f a = true <;> simp [h, ih]

end Sys2Proof.Machine

open Sys2Proof Sys2Proof.Machine in
/-- Settles O52: the arrival up to the pumped volume, the end of START, then the cases of placing and of arriving. -/
theorem flowPumped : Obligations.FlowPumped := by
  unfold Obligations.FlowPumped
  refine ⟨?_, ?_, ?_⟩
  · intro s v now low high blocked quiet elapsed total litres
    have sampled : sample 20 v (s.begin now) = startTest (arrival .retFlow v (s.begin now)) :=
      sample_arrival (c := .retFlow) low high (s.begin now)
    obtain ⟨z, arrives, ⟨time, pending, li, busy⟩, ⟨mp, counters, reports, params⟩, di,
      ⟨line, cutter, vPump, residue, prev, flush⟩, stale⟩ := arrival_flow v now blocked fun h => quiet (.inr h)
    have sum : v * elapsedSince z.runTime z.sr.prevFlow + z.sr.flowResidue = total := by
      have since : elapsedSince now s.sr.prevFlow = elapsed := (elapsedSince_cast now s.sr.prevFlow).trans rfl
      rw [time, prev, residue, since]
    refine ⟨_, rfl, ?_⟩
    rw [show event now (sample 20 v) s = finish (sample 20 v (s.begin now)) from rfl, sampled, arrives]
    have sr := pumpedVolume_sr v z
    have pumped : (z.pumped v).sr = { z.sr with
        prevFlow := some now
        vPump := if 0 < v ∧ s.sr.backflushTimer = none then s.sr.vPump + BitVec.ofNat 32 litres else s.sr.vPump
        flowResidue := if 0 < v ∧ s.sr.backflushTimer = none then total - 60000 * (total / 60000)
          else s.sr.flowResidue } := by
      unfold State.pumped
      dsimp only
      rw [sum, flush, vPump, residue, time]
    obtain ⟨profile, lineY⟩ := pumpedVolume_seen _ mp counters reports params di line cutter vPump
      (congrArg Slurry.vPump pumped)
    rw [sum, flush] at profile lineY
    have timeY : (pumpedVolume v z).runTime = now := by simpa using time
    have pendingY : (pumpedVolume v z).pending = s.pending := by simpa using pending
    have liY : (pumpedVolume v z).li = s.li := by simpa using li
    have mpY : (pumpedVolume v z).mp = s.mp := by simpa using mp
    have busyY : (pumpedVolume v z).plateBusy = s.pm.busy := by simpa using busy
    have staleY : (pumpedVolume v z).mp.mode = .start → (pumpedVolume v z).SensorStaleFollows := fun start => by
      obtain ⟨-, follows, -⟩ := quiet (.inl (by rw [← mpY]; exact start))
      exact (stale follows).of_fc (by simp)
    rw [pumped] at sr
    generalize pumpedVolume v z = y at *
    obtain ⟨reportsX, cutterX, prevX⟩ := startTest_reports staleY
    have diX : (startTest y).di = y.di := by simp
    have countersX : (startTest y).counters = y.counters := by simp
    have timeX : (startTest y).runTime = now := by simpa using timeY
    have pendingX : (startTest y).pending = s.pending := by simpa using pendingY
    have liX : (startTest y).li = s.li := by simpa using liY
    have busyX : (startTest y).plateBusy = s.pm.busy := by simpa using busyY
    obtain ⟨lineX, vPumpX, residueX⟩ := startTest_line y
    generalize startTest y = x at *
    have blocks := finish_blocks x
    obtain ⟨-, countersT, mpT, -, diT, -, -, -, srT, -⟩ := State.parts_of_blocks blocks
    have lineT : (finish x).sr.line = x.sr.line := (congrArg Slurry.line srT :)
    refine ⟨by simpa using timeX, by simpa using pendingX, ?_, ?_, ?_⟩
    · exact (congrArg Slurry.prevFlow srT :).trans (prevX.trans (by rw [sr]))
    · exact (congrArg Slurry.cutter srT :).trans (cutterX.trans (by rw [sr]; exact cutter))
    · intro pumps u w
      have profileW : y.SameProfile w := profile
      have lineW : y.sr.line = w.sr.line := lineY
      refine ⟨?_, ?_, lineT.trans (lineX.trans lineW), diT.trans (diX.trans profileW.di),
        countersT.trans (countersX.trans profileW.counters), ?_, ?_⟩
      · exact (congrArg Slurry.flowResidue srT :).trans (residueX.trans (by rw [sr]))
      · exact (congrArg Slurry.vPump srT :).trans (vPumpX.trans (by rw [sr]))
      · have waits : x.waiting = s.waiting := by rw [State.waiting, liX, State.waiting]
        rw [profileW.reports] at reportsX
        rw [← waits]
        exact finish_attributed reportsX
      · rw [profileW.reports, mpY, ← mpT] at reportsX
        exact finish_reported (by rw [liX]) (by rw [liX]) (by rw [liX]) reportsX busyX
  · intro s vIn litres t lineBecomes
    refine ⟨fun none => placeLitres_nowhere none vIn litres, ?_⟩
    intro c hc vline opened
    refine ⟨fun empty => placeLitres_empty hc empty vIn litres, ?_⟩
    intro older y hl grown next
    have placed := placeLitres_youngest hc hl vIn litres
    refine ⟨fun h => Eq.trans placed ?_, fun meter h full => Eq.trans placed ?_, fun meter h => Eq.trans placed ?_⟩
    · rcases h with meter | ⟨h, room⟩
      · exact if_pos meter
      · by_cases meter : y.atMeter = true
        · exact if_pos meter
        · exact (if_neg meter).trans ((if_pos h).trans (if_pos room))
    · exact (if_neg (by simp [meter])).trans ((if_pos h).trans (if_neg (Nat.not_lt.2 full)))
    · exact (if_neg (by simp [meter])).trans (if_neg h)
  · intro s head inLine split one meter waits arrived behind t
    have tested : t = (arrivals s.sr.vPump head.head? inLine).2.foldl attributeParcel
        { s with sr := { s.sr with line := (arrivals s.sr.vPump head.head? inLine).1 } } := by
      rw [← lineArrivals_eq s.sr.vPump one meter waits, ← split]
      rfl
    have whole : head.head?.toList = head := by
      cases head with
      | nil => rfl
      | cons p rest => rw [List.eq_nil_of_length_eq_zero (l := rest) (by simpa using one)]; rfl
    refine ⟨fun none => ?_, fun passed last come => ?_⟩
    · rw [tested, arrivals_none none, whole, ← split]
      rfl
    · intro gone sends
      obtain ⟨order, all, stop⟩ := takeWhile_parts (fun p : Parcel => p.arrived s.sr.vPump) inLine
      have came : inLine.takeWhile (fun p => p.arrived s.sr.vPump) = passed ++ [last] := come
      have left : behind = inLine.dropWhile fun p => p.arrived s.sr.vPump :=
        (congrArg (List.drop arrived.length) order.symm).trans List.drop_left
      rw [came] at order all
      have line : inLine = passed ++ last :: behind := by
        rw [left]
        exact order.symm.trans (by rw [List.append_assoc]; rfl)
      rw [← left] at stop
      have meets := arrivals_come (all last (by simp)) stop passed (fun p hp => all p (by simp [hp])) head.head?
      rw [tested, line, meets, whole, ← attributeParcels_eq gone, List.foldl_append, List.foldl_append, List.foldl_map]
      rfl
end

section
/-! Speed and pressure samples (O48): the ramp, the tests of the wheel's state, and the event of a quiet arrival. -/

namespace Sys2Proof.Machine

/-! ### The wheel of an arrival -/

theorem magnitude_eq_abs (v : Int) : magnitude v = |v| := by
  unfold magnitude
  split
  · rw [abs_of_neg (by assumption)]
  · rw [abs_of_nonneg (by omega)]

/-- The ramp step of every state (R160). -/
theorem rampStep_eq (v : Wheel) (s : State) :
    let amount := s.par .rampRate * elapsedSince s.runTime v.prevSample + v.carry
    let ramps := v.state = .ramping ∨ v.state = .running ∨ v.state = .stopping
    rampStep v s = { v with
      prevSample := some s.runTime
      commanded :=
        if ¬ramps then v.commanded
        else if |v.target - v.commanded| ≤ amount / 1000 then v.target
        else if v.commanded < v.target then v.commanded + amount / 1000 else v.commanded - amount / 1000
      carry :=
        if ¬ramps then v.carry else if |v.target - v.commanded| ≤ amount / 1000 then 0
        else amount - 1000 * (amount / 1000) } := by
  intro amount ramps
  have moves : (if |v.target - v.commanded| ≤ amount / 1000 then
        { v with prevSample := some s.runTime, commanded := v.target, carry := 0 }
      else { v with
        prevSample := some s.runTime
        commanded := if v.commanded < v.target then v.commanded + amount / 1000 else v.commanded - amount / 1000
        carry := amount - 1000 * (amount / 1000) }) = { v with
      prevSample := some s.runTime
      commanded := if |v.target - v.commanded| ≤ amount / 1000 then v.target
        else if v.commanded < v.target then v.commanded + amount / 1000 else v.commanded - amount / 1000
      carry := if |v.target - v.commanded| ≤ amount / 1000 then 0 else amount - 1000 * (amount / 1000) } := by
    split <;> rfl
  simp only [rampStep, magnitude_eq_abs, floorDiv, keptRemainder]
  by_cases h : ramps
  · rw [if_neg (not_not.2 h), if_neg (not_not.2 h), ← moves]
    rcases h with h | h | h <;> simp only [h] <;> rfl
  · rw [if_pos h, if_pos h]
    obtain ⟨noRamp, noRun, noStop⟩ : v.state ≠ .ramping ∧ v.state ≠ .running ∧ v.state ≠ .stopping := by
      simpa [ramps] using h
    split <;> simp_all

/-- The test of the wheel's state (R161). -/
theorem rampTest_eq (measured : Int) (v : Wheel) (s : State) :
    let runs := v.state = .ramping ∧ v.commanded = v.target ∧ |measured - v.commanded| ≤ s.par .runningBand
    let stops := v.state = .stopping ∧ v.commanded = 0 ∧ |measured| < 5
    rampTest measured v s = { v with
      state := if runs then .running else if stops then .stopped else v.state
      stallTimer := if stops then none else v.stallTimer } := by
  intro runs stops
  unfold rampTest
  rw [magnitude_eq_abs, magnitude_eq_abs]
  obtain ⟨state, base, direction, target, commanded, carry, prev, stall, timer, history, sent⟩ := v
  cases state with
  | ramping =>
    have noStop : ¬stops := fun h => by cases h.1
    rw [if_neg noStop, if_neg noStop]
    by_cases k : commanded = target ∧ |measured - commanded| ≤ s.par .runningBand
    · rw [if_pos (show runs from ⟨rfl, k⟩)]
      exact if_pos k
    · rw [if_neg fun h : runs => k h.2]
      exact if_neg k
  | stopping =>
    rw [if_neg fun h : runs => by cases h.1]
    by_cases k : commanded = 0 ∧ |measured| < 5
    · rw [if_pos (show stops from ⟨rfl, k⟩), if_pos (show stops from ⟨rfl, k⟩)]
      exact if_pos k
    · rw [if_neg fun h : stops => k h.2, if_neg fun h : stops => k h.2]
      exact if_neg k
  | _ => simp [runs, stops]

/-- The stall evaluation of every state (R162). -/
theorem stallEvaluate_eq (w : WheelId) (v : Wheel) (s : State) : stallEvaluate w v s = { v with
    stallTimer :=
      if v.state = .ramping ∨ v.state = .running ∨ v.state = .reversing then
        if s.fresh (.speed w) = true ∧ s.fresh (.press w) = true then
          if s.par .stallPressure < s.value (.press w) ∧ 10 * |s.value (.speed w)| < |v.commanded| then
            if v.stallTimer = none then some (s.timer (s.par .stallTime)) else v.stallTimer
          else none
        else v.stallTimer
      else v.stallTimer } := by
  have evaluated : (if s.fresh (.speed w) && s.fresh (.press w) then
        if stallCondition w v s then
          match v.stallTimer with
          | none => { v with stallTimer := some (s.timer (s.par .stallTime)) }
          | some _ => v
        else { v with stallTimer := none }
      else v) = { v with
      stallTimer :=
        if s.fresh (.speed w) = true ∧ s.fresh (.press w) = true then
          if s.par .stallPressure < s.value (.press w) ∧ 10 * |s.value (.speed w)| < |v.commanded| then
            if v.stallTimer = none then some (s.timer (s.par .stallTime)) else v.stallTimer
          else none
        else v.stallTimer } := by
    have condition : stallCondition w v s = true ↔
        s.par .stallPressure < s.value (.press w) ∧ 10 * |s.value (.speed w)| < |v.commanded| := by
      simp [stallCondition, magnitude_eq_abs]
    by_cases fresh : s.fresh (.speed w) = true ∧ s.fresh (.press w) = true
    · rw [if_pos (by simp [fresh]), if_pos fresh]
      by_cases stalls : s.par .stallPressure < s.value (.press w) ∧ 10 * |s.value (.speed w)| < |v.commanded|
      · rw [if_pos (condition.2 stalls), if_pos stalls]
        cases h : v.stallTimer <;> simp
        rw [← h]
      · rw [if_neg fun k => stalls (condition.1 k), if_neg stalls]
    · rw [if_neg (by simpa using fresh), if_neg fresh]
  unfold stallEvaluate
  by_cases live : v.state = .ramping ∨ v.state = .running ∨ v.state = .reversing
  · rw [if_pos live, ← evaluated]
    rcases live with h | h | h <;> simp only [h] <;> rfl
  · rw [if_neg live]
    split <;> simp_all

end Sys2Proof.Machine
end

section
/-! O48: the event of a speed or pressure sample. -/

namespace Sys2Proof.Machine

/-! ### The event of a quiet arrival -/

/-- An arrival whose users leave the blocks of `R` and report nothing ends with those blocks, or with the entry of STANDBY
from them at the end of START (R29, R48). -/
theorem arrival_event {s R y : State} {c : Channel} {x : Int} {now : RunTime} (low : c.range.1 ≤ x) (high : x ≤ c.range.2)
    (arrives : arrival c x (s.begin now) = y) (stale : s.mp.mode = .start → y.SensorStaleFollows) (shape : y = R.amid y)
    (event : y.runTime = now ∧ y.pending = s.pending ∧ y.li = s.li ∧ y.reports = [] ∧ y.plateBusy = s.pm.busy)
    (mp : R.mp = s.mp) (pm : R.pm.busy = s.pm.busy) :
    ∃ t, exec (.sampleArrival (c.idx.val + 1) x now) s = .next t ∧ t.runTime = now ∧ t.pending = s.pending ∧
      t.di = R.di ∧ t.tu = R.tu ∧
      ((t.mp.mode = s.mp.mode ∧ t.fc = R.fc ∧ t.li = s.li ∧ t.blocks = R.blocks) ∨
        (t.mp.mode ≠ s.mp.mode ∧ t.fc = R.startOver.fc ∧ s.Reported t [.mode .standby] ∧
          t.blocks = (changeMode .standby R.startOver).blocks)) := by
  obtain ⟨time, pending, li, reports, busy⟩ := event
  have mpY : y.mp = s.mp := (congrArg State.mp shape).trans mp
  refine ⟨finish (startTest y), ?_, ?_, ?_, ?_, ?_, ?_⟩
  · show Host.Outcome.next (finish (sample _ x (s.begin now))) = _
    rw [sample_arrival low high, arrives]
  · simpa using time
  · simpa using pending
  · have di : y.di = R.di := (congrArg State.di shape :)
    simpa using di
  · have tu : y.tu = R.tu := (congrArg State.tu shape :)
    rcases startTest_quiet (s := y) (fun h => stale (by rw [← mpY]; exact h)) with same | ⟨-, ends⟩
    · rw [same]
      simpa using tu
    · rw [ends]
      simpa [State.startOver] using tu
  · rcases startTest_quiet (s := y) (fun h => stale (by rw [← mpY]; exact h)) with same | ⟨start, ends⟩
    · refine .inl ?_
      have quiet : y.NoReport := ⟨reports, by
        have still : y.pm = R.pm := (congrArg State.pm shape :)
        rw [busy, still, pm]
        cases s.pm.busy <;> rfl⟩
      rw [same]
      refine ⟨by simp [mpY], ?_, (finish_li quiet).trans li, ?_⟩
      · have fc : y.fc = R.fc := (congrArg State.fc shape :)
        simpa using fc
      · rw [finish_blocks, shape]
        rfl
    · refine .inr ?_
      have began : y.startOver = R.startOver.amid y.startOver := by
        rw [shape]
        rfl
      have mode : y.startOver.mp.mode = .start := start
      rw [ends]
      refine ⟨?_, ?_, ?_, ?_⟩
      · rw [(finish_keeps _).2.2.2.1, changeMode_mp, ← mpY, start]
        exact Mode.noConfusion
      · have fc : y.startOver.fc = R.startOver.fc := (congrArg State.fc began :)
        simpa using fc
      · have liY : (changeMode .standby y.startOver).li = s.li := by simpa [State.startOver] using li
        refine finish_reported (by rw [liY]) (by rw [liY]) (by rw [liY]) ?_ (by simpa [State.startOver] using busy)
        rw [changeMode_reports, mode]
        show y.reports ++ _ = _
        rw [reports]
        rfl
      · rw [finish_blocks, began]
        exact changeMode_amid_blocks _ _ _

/-! ### A wheel's sample -/

/-- A wheel that does not leave RUNNING keeps the applied differential; SR's permit follows (R158, R170, R178). -/
theorem changeWheel_same {w : WheelId} {v : Wheel} {s : State} (h : (s.wheel w).state = .running → v.state = .running) :
    changeWheel w v s = recomputePermit (s.putWheel w v) := by
  unfold changeWheel
  dsimp only
  rw [if_neg fun left => left.2 (h left.1)]

/-- The blocks that a wheel's sample leaves: FC's and TU's of the arrival, DI's statistics, the wheel and the permit. -/
def State.wheelSampled (s u : State) (di : Integrator) (w : WheelId) (v : Wheel) : State :=
  { s with
    fc := u.fc, di := di, wd := (s.putWheel w v).wd
    sr := { s.sr with feedPermit := (s.putWheel w v).permitNow }, tu := u.tu }

/-- The users of a wheel's sample change the wheel, the permit and DI's statistics (R48, R83, R160, R178). -/
theorem wheelSampled_shape {s u : State} {c : Channel} {x : Int} {now : RunTime} {w : WheelId} {v : Wheel}
    {gather : State → State} (arrived : (s.begin now).Arrived c x u) (only : ∀ z, gather z = { z with di := (gather z).di })
    (runs : (s.wheel w).state = .running → v.state = .running) :
    gather (changeWheel w v u) =
      (s.wheelSampled u (gather (changeWheel w v u)).di w v).amid (gather (changeWheel w v u)) ∧
    (gather (changeWheel w v u)).runTime = now ∧ (gather (changeWheel w v u)).pending = s.pending ∧
      (gather (changeWheel w v u)).li = s.li ∧ (gather (changeWheel w v u)).reports = [] ∧
      (gather (changeWheel w v u)).plateBusy = s.pm.busy := by
  obtain ⟨fc, tu, rfl⟩ : ∃ fc tu, u = { s.begin now with fc := fc, tu := tu } := ⟨u.fc, u.tu, by
    have tu := congrArg State.tu arrived.only
    rw [tu]
    exact arrived.only⟩
  have permit : (State.putWheel { s.begin now with fc := fc, tu := tu } w v).permitNow = (s.putWheel w v).permitNow := by
    have groups : tu.groups = s.tu.groups := congrArg (fun z : State => z.tu.groups) arrived.only
    show (_ && !tu.groups.getLsbD Group.feed.bit && _) = _
    rw [groups]
    rfl
  have eq := only (changeWheel w v { s.begin now with fc := fc, tu := tu })
  rw [changeWheel_same (s := { s.begin now with fc := fc, tu := tu }) runs] at eq ⊢
  generalize gather (recomputePermit (State.putWheel { s.begin now with fc := fc, tu := tu } w v)) = y at *
  unfold recomputePermit at eq
  rw [permit] at eq
  have field : ∀ {α : Type} (f : State → α), f y = f _ := fun f => congrArg f eq
  exact ⟨State.eq_amid (field State.params) (field State.counters) (field State.mp) (field State.fc) rfl (field State.sl)
    (field State.pm) (field State.wd) (field State.sr) (field State.tu), field State.runTime, field State.pending,
    field State.li, field State.reports, field State.plateBusy⟩

/-- The event of a wheel's sample (R14, R29, R48). -/
theorem wheelSample_event {s : State} {c : Channel} {x : Int} {now : RunTime} {w : WheelId} {v : Wheel}
    {gather : State → State} (plain : c.plain = true) (low : c.range.1 ≤ x) (high : x ≤ c.range.2)
    (quiet : s.mp.mode = .start ∨ (s.chan c).state = .absent → s.ArrivalQuiet)
    (only : ∀ z, gather z = { z with di := (gather z).di })
    (passes : ∀ u, (s.begin now).Arrived c x u → passValue c x u = gather (changeWheel w v u))
    (runs : (s.wheel w).state = .running → v.state = .running) :
    ∃ t, exec (.sampleArrival (c.idx.val + 1) x now) s = .next t ∧ t.runTime = now ∧ t.pending = s.pending ∧
      let stays := t.mp.mode = s.mp.mode
      let ramped := { s with
        fc := t.fc, di := t.di, wd := (s.putWheel w v).wd
        sr := { s.sr with feedPermit := (s.putWheel w v).permitNow }
        tu := { s.tu with
          sources := s.tu.sources.set Source.sensorStale.val (t.source Source.sensorStale) Source.sensorStale.isLt } }
      ((s.chan c).state ≠ .absent → t.tu = s.tu) ∧ (stays → t.li = s.li ∧ t.blocks = ramped.blocks) ∧
      (¬stays → s.Reported t [.mode .standby] ∧
        t.blocks = (changeMode .standby { ramped with mp := { s.mp with startTimer := none } }).blocks) := by
  obtain ⟨u, arrived, eq⟩ := arrival_quiet plain (s := s.begin now) x fun absent => quiet (.inr absent)
  have arrives := eq.trans (passes u arrived)
  obtain ⟨shape, event⟩ := wheelSampled_shape arrived only runs
  have stale : s.mp.mode = .start → (gather (changeWheel w v u)).SensorStaleFollows := fun start => by
    obtain ⟨-, follows, -⟩ := quiet (.inl start)
    exact (arrived.stale follows).of_fc (congrArg State.fc shape :)
  obtain ⟨t, run, time, pending, di, tu, ends⟩ := arrival_event low high arrives stale shape event rfl rfl
  generalize gather (changeWheel w v u) = y at *
  have source : t.source Source.sensorStale = u.source Source.sensorStale := by rw [State.source, tu]; rfl
  have sources : { s.tu with
      sources := s.tu.sources.set Source.sensorStale.val (t.source Source.sensorStale) Source.sensorStale.isLt } = u.tu := by
    rw [source]
    exact (congrArg State.tu arrived.only :).symm
  refine ⟨t, run, time, pending, ?_⟩
  intro stays ramped
  have same : ramped = { s.wheelSampled u y.di w v with fc := t.fc } := by
    show ({ s with
      fc := t.fc, di := t.di, wd := (s.putWheel w v).wd
      sr := { s.sr with feedPermit := (s.putWheel w v).permitNow }
      tu := { s.tu with
        sources := s.tu.sources.set Source.sensorStale.val (t.source Source.sensorStale) Source.sensorStale.isLt } } :
      State) = _
    rw [sources, di]
    rfl
  refine ⟨fun here => tu.trans (arrived.tu here), fun stay => ?_, fun leave => ?_⟩
  · rcases ends with ⟨-, fc, li, blocks⟩ | ⟨moves, -⟩
    · refine ⟨li, blocks.trans ?_⟩
      rw [same, fc]
    · exact absurd stay moves
  · rcases ends with ⟨still, -⟩ | ⟨-, fc, reported, blocks⟩
    · exact absurd still leave
    · refine ⟨reported, blocks.trans ?_⟩
      rw [same, fc]
      rfl

/-- What the users of an arrival read of the state (R48). -/
theorem State.Arrived.reads {s u : State} {c : Channel} {x : Int} {now : RunTime} (h : (s.begin now).Arrived c x u) :
    u.runTime = now ∧ (∀ p, u.par p = s.par p) ∧ (∀ w, u.wheel w = s.wheel w) ∧
      (∀ d, u.fresh d = true ↔ s.fresh d = true ∨ d = c ∧ (s.chan d).state = .absent) ∧
      ∀ d, u.value d = if d = c then x else s.value d := by
  have channels : u.fc.channels = ((s.begin now).seen c x).fc.channels := by rw [h.fc]
  have chan : ∀ d, u.chan d = ((s.begin now).seen c x).chan d := fun d => by rw [State.chan, channels, State.chan]
  have params : u.params = s.params := (congrArg State.params h.only :)
  have wd : u.wd = s.wd := (congrArg State.wd h.only :)
  refine ⟨(congrArg State.runTime h.only :), fun p => by rw [State.par, params, State.par],
    fun w => by rw [State.wheel, wd, State.wheel], fun d => ?_, fun d => ?_⟩
  · rw [State.fresh, chan, ← State.fresh, State.seen_fresh, Bool.or_eq_true, decide_eq_true_eq]
    exact or_congr Iff.rfl (and_congr_right fun e => by rw [e]; rfl)
  · rw [State.value, chan, ← State.value, State.seen_value]
    rfl

/-- The stall timer of a wheel after an arrival on a channel of it (R162). -/
theorem stallEvaluate_arrived {s u : State} {c : Channel} {x : Int} {now : RunTime} (h : (s.begin now).Arrived c x u)
    (w : WheelId) (v : Wheel) {measured pressure : Int} (speed : u.value (.speed w) = measured)
    (press : u.value (.press w) = pressure) :
    let live := fun d : Channel => s.fresh d = true ∨ d = c ∧ (s.chan d).state = .absent
    stallEvaluate w v u = { v with
      stallTimer :=
        if v.state = .ramping ∨ v.state = .running ∨ v.state = .reversing then
          if live (.speed w) ∧ live (.press w) then
            if s.par .stallPressure < pressure ∧ 10 * |measured| < |v.commanded| then
              if v.stallTimer = none then some ⟨now, (s.par .stallTime).toNat⟩ else v.stallTimer
            else none
          else v.stallTimer
        else v.stallTimer } := by
  intro live
  obtain ⟨time, par, -, fresh, -⟩ := h.reads
  rw [stallEvaluate_eq, par, par, speed, press, State.timer, time]
  refine congrArg (fun timer => { v with stallTimer := timer }) ?_
  exact if_congr Iff.rfl (if_congr (and_congr (fresh _) (fresh _)) rfl rfl) rfl

end Sys2Proof.Machine

open Sys2Proof Sys2Proof.Machine in
/-- Settles O48: the wheel that a sample leaves, and the event of a wheel's sample. -/
theorem speedArrivalRamps : Obligations.SpeedArrivalRamps := by
  unfold Obligations.SpeedArrivalRamps
  intro s w x now v watch becomes
  refine ⟨?_, ?_⟩
  · intro low high elapsed amount step ramps arrives commanded carry runs stops state quiet
    refine wheelSample_event (c := .speed w) (w := w) (gather := gatherSpeed w x) rfl low high quiet (fun _ => rfl)
      (fun u arrived => ?_) (fun run => ?_)
    · obtain ⟨time, par, wheel, -, value⟩ := arrived.reads
      have speed : u.value (.speed w) = x := (value _).trans (if_pos rfl)
      have press : u.value (.press w) = s.value (.press w) := (value _).trans (if_neg Channel.noConfusion)
      have ramp : rampStep (u.wheel w) u = { v with prevSample := some now, commanded := commanded, carry := carry } := by
        have sum : u.par .rampRate * elapsedSince u.runTime v.prevSample + v.carry = amount := by
          have since : (elapsedSince now v.prevSample : Int) = elapsed := (elapsedSince_cast now v.prevSample).trans rfl
          rw [par, time, since]
        have step := rampStep_eq v u
        dsimp only at step
        rw [sum, time] at step
        rw [wheel]
        exact step
      have test : rampTest x (rampStep (u.wheel w) u) u = { v with
          prevSample := some now, commanded := commanded, carry := carry, state := state
          stallTimer := if stops then none else v.stallTimer } := by
        rw [ramp, rampTest_eq, par]
      have made := stallEvaluate_arrived arrived w (rampTest x (rampStep (u.wheel w) u) u) speed press
      refine congrArg (fun z => gatherSpeed w x (changeWheel w z u)) (made.trans ?_)
      rw [test]
      refine congrArg (fun timer => { v with
        prevSample := some now, commanded := commanded, carry := carry, state := state, stallTimer := timer }) ?_
      by_cases h : stops
      · have rests : state = .stopped := (if_neg fun k : runs => absurd (h.1.symm.trans k.1) (by decide)).trans (if_pos h)
        rw [if_pos h, if_neg (by simp [rests]), if_pos h]
      · rw [if_neg h, if_neg h]
    · show state = .running
      have moving : ¬stops := fun h => by rw [h.1] at run; cases run
      have still : ¬runs := fun h => by rw [h.1] at run; cases run
      exact (if_neg still).trans ((if_neg moving).trans run)
  · intro low high quiet
    refine wheelSample_event (c := .press w) (w := w) (gather := gatherPress w x) rfl low high quiet (fun _ => rfl)
      (fun u arrived => ?_) id
    obtain ⟨-, -, wheel, -, value⟩ := arrived.reads
    have speed : u.value (.speed w) = s.value (.speed w) := (value _).trans (if_neg Channel.noConfusion)
    have press : u.value (.press w) = x := (value _).trans (if_pos rfl)
    have made := stallEvaluate_arrived arrived w (u.wheel w) speed press
    rw [wheel] at made
    exact congrArg (fun z => gatherPress w x (changeWheel w z u)) ((congrArg (stallEvaluate w · u) (wheel w)).trans made)
end

section
/-! O46: the end of a plate move and the grant point behind it. -/

namespace Sys2Proof.Machine

/-! ### Snapshots -/

theorem putPlate_get {α : Type} (v : Vector α 8) (p q : Plate) (x : α) :
    (putPlate v p x).get q = if q = p then x else v.get q := by
  show (v.set p.val x p.isLt)[q.val] = _
  rw [Vector.getElem_set]
  exact if_congr (by rw [Fin.ext_iff, eq_comm]) rfl rfl

theorem Plate.mem_all (p : Plate) : p ∈ Plate.all := by revert p; decide

theorem lowestPlate_eq_none (f : Plate → Bool) : Plate.all.find? f = none ↔ ∀ x, f x = false := by
  rw [List.find?_eq_none]
  exact ⟨fun h x => by simpa using h x (Plate.mem_all x), fun h x _ => by simp [h x]⟩

/-- The plates whose entry has a class (R133). -/
def Manifold.holding (pm : Manifold) (c : PlateClass) (q : Plate) : Bool := (pm.table.get q).any fun e => e.cls == c

/-- The plates of a snapshot as a grant point finds it: captured where it is empty (R141). -/
def Manifold.awaiting (pm : Manifold) (snap : Vector Bool 8) (c : PlateClass) (q : Plate) : Bool :=
  if ∃ x : Plate, snap.get x = true then snap.get q else pm.holding c q

/-- A snapshot as a grant point takes it. -/
def Manifold.captured (pm : Manifold) (snap : Vector Bool 8) (c : PlateClass) : Vector Bool 8 :=
  if (lowestPlate snap).isSome then snap else pm.waitingOf c

theorem Manifold.waitingOf_get (pm : Manifold) (c : PlateClass) (q : Plate) :
    (pm.waitingOf c).get q = pm.holding c q := by
  unfold waitingOf holding
  show (Vector.ofFn _)[q.val] = _
  rw [Vector.getElem_ofFn]
  cases pm.table.get q <;> rfl

theorem Manifold.captured_get (pm : Manifold) (snap : Vector Bool 8) (c : PlateClass) (q : Plate) :
    (pm.captured snap c).get q = pm.awaiting snap c q := by
  have full : (lowestPlate snap).isSome = true ↔ ∃ x : Plate, snap.get x = true := by
    rw [← not_iff_not, Bool.not_eq_true, Option.isSome_eq_false_iff, Option.isNone_iff_eq_none, lowestPlate,
      lowestPlate_eq_none]
    simp
  unfold captured awaiting
  by_cases h : ∃ x : Plate, snap.get x = true
  · rw [if_pos (full.2 h), if_pos h]
  · rw [if_neg fun k => h (full.1 k), if_neg h, waitingOf_get]

theorem Manifold.lowestPlate_captured (pm : Manifold) (snap : Vector Bool 8) (c : PlateClass) :
    lowestPlate (pm.captured snap c) = Plate.all.find? (pm.awaiting snap c) :=
  congrArg Plate.all.find? (funext fun q => pm.captured_get snap c q)

theorem lowestPlate_putPlate (v : Vector Bool 8) (p : Plate) :
    lowestPlate (putPlate v p false) = none ↔ ∀ x : Plate, x ≠ p → v.get x = false := by
  rw [lowestPlate, lowestPlate_eq_none]
  refine forall_congr' fun x => ?_
  rw [putPlate_get]
  by_cases h : x = p <;> simp [h]

/-! ### The choice of a grant point -/

/-- The two snapshots of a grant point (R141). -/
def Manifold.urgent (pm : Manifold) : Plate → Bool := pm.awaiting pm.urgentSnap .urgent

def Manifold.trim (pm : Manifold) : Plate → Bool := pm.awaiting pm.trimSnap .trim

/-- The plate whose turn it is (R141). -/
def Manifold.turn (pm : Manifold) : Option Plate :=
  if pm.nextPhase = .urgent then (Plate.all.find? pm.urgent).orElse fun _ => Plate.all.find? pm.trim
  else (Plate.all.find? pm.trim).orElse fun _ => Plate.all.find? pm.urgent

/-- The next phase after a grant to plate `q` (R141). -/
def Manifold.phaseAfter (pm : Manifold) (q : Plate) : PlateClass :=
  if pm.urgent q = true ∧ (pm.nextPhase = .urgent ∨ Plate.all.find? pm.trim = none) ∧
    (∀ x : Plate, x ≠ q → pm.urgent x = false) then .trim
  else .urgent

/-- Step 1 of R141. -/
theorem Manifold.tryUrgent_eq (pm : Manifold) :
    pm.tryUrgent = (Plate.all.find? pm.urgent).map fun p => (p, { pm with
      urgentSnap := putPlate (pm.captured pm.urgentSnap .urgent) p false
      nextPhase := if ∀ x : Plate, x ≠ p → pm.urgent x = false then .trim else .urgent }) := by
  have start : pm.tryUrgent = (lowestPlate (pm.captured pm.urgentSnap .urgent)).map fun p => (p, { pm with
      urgentSnap := putPlate (pm.captured pm.urgentSnap .urgent) p false
      nextPhase := if (lowestPlate (putPlate (pm.captured pm.urgentSnap .urgent) p false)).isSome then .urgent
        else .trim }) := by
    unfold tryUrgent captured
    cases h : lowestPlate pm.urgentSnap with
    | some x => simp [h]
    | none => cases h : lowestPlate (pm.waitingOf .urgent) <;> simp [h]
  rw [start, lowestPlate_captured]
  refine congrArg (Option.map · _) (funext fun p => ?_)
  have rest := lowestPlate_putPlate (pm.captured pm.urgentSnap .urgent) p
  simp only [captured_get] at rest
  by_cases h : ∀ x : Plate, x ≠ p → pm.urgent x = false
  · rw [if_pos h, rest.2 h]
    rfl
  · rw [if_neg h, if_pos (Option.isSome_iff_ne_none.2 fun k => h (rest.1 k))]

/-- Step 2 of R141. -/
theorem Manifold.tryTrim_eq (pm : Manifold) :
    pm.tryTrim = (Plate.all.find? pm.trim).map fun p => (p, { pm with
      trimSnap := putPlate (pm.captured pm.trimSnap .trim) p false, nextPhase := .urgent }) := by
  have start : pm.tryTrim = (lowestPlate (pm.captured pm.trimSnap .trim)).map fun p => (p, { pm with
      trimSnap := putPlate (pm.captured pm.trimSnap .trim) p false, nextPhase := .urgent }) := by
    unfold tryTrim captured
    cases h : lowestPlate pm.trimSnap with
    | some x => simp [h]
    | none => cases h : lowestPlate (pm.waitingOf .trim) <;> simp [h]
  rw [start, lowestPlate_captured]
  rfl

/-- With no plate's turn nothing is chosen (step 4 of R141). -/
theorem Manifold.choose_none {pm : Manifold} (h : pm.turn = none) : pm.choose = none := by
  unfold choose
  unfold turn at h
  rw [tryUrgent_eq, tryTrim_eq]
  cases phase : pm.nextPhase with
  | urgent =>
    rw [if_pos phase] at h
    cases u : Plate.all.find? pm.urgent with
    | none => rw [u] at h; exact congrArg (Option.map _) h
    | some q => rw [u] at h; cases h
  | trim =>
    rw [if_neg (by rw [phase]; decide)] at h
    cases u : Plate.all.find? pm.trim with
    | none => rw [u] at h; exact congrArg (Option.map _) h
    | some q => rw [u] at h; cases h

/-- The choice takes the plate whose turn it is, and changes only the snapshots and the next phase (R141). -/
theorem Manifold.choose_some {pm : Manifold} {q : Plate} (h : pm.turn = some q) :
    ∃ u t, pm.choose = some (q, { pm with urgentSnap := u, trimSnap := t, nextPhase := pm.phaseAfter q }) := by
  have lowest : Plate.all.find? pm.urgent = some q → pm.urgent q = true := fun k => List.find?_some k
  unfold choose phaseAfter
  unfold turn at h
  rw [tryUrgent_eq, tryTrim_eq]
  cases phase : pm.nextPhase with
  | urgent =>
    rw [if_pos phase] at h
    cases u : Plate.all.find? pm.urgent with
    | none =>
      rw [u] at h
      have off := (lowestPlate_eq_none _).1 u q
      have k : Plate.all.find? pm.trim = some q := h
      rw [k, if_neg (by simp [off])]
      exact ⟨_, _, rfl⟩
    | some p =>
      rw [u] at h
      cases h
      simp only [lowest u, true_and, true_or]
      exact ⟨_, _, rfl⟩
  | trim =>
    rw [if_neg (by rw [phase]; decide)] at h
    cases u : Plate.all.find? pm.trim with
    | none =>
      rw [u] at h
      have k : Plate.all.find? pm.urgent = some q := h
      rw [k]
      simp only [lowest k, true_and, or_true]
      exact ⟨_, _, rfl⟩
    | some p =>
      rw [u] at h
      cases h
      rw [if_neg (by simp)]
      exact ⟨_, _, rfl⟩

/-! ### The grant point -/

/-- With nothing pending the arbiter is IDLE (R141). -/
theorem grantPoint_none {s : State} (h : s.pm.turn = none) :
    grantPoint s = s.putPm { s.pm with arbiter := .idle, nextPhase := .urgent } := by
  unfold grantPoint grantRounds
  rw [Manifold.choose_none h]

/-- A granted plate that is FRESH and more than 1 mm off moves (R142). -/
theorem grantPoint_moves {s : State} {q : Plate} {e : PlateEntry} (h : s.pm.turn = some q)
    (entry : s.pm.table.get q = some e) (fresh : s.fresh (.plate q) = true)
    (far : 10 < |10 * (e.target : Int) - s.value (.plate q)|) :
    ∃ u t, grantPoint s = startMove q e.target
      { s.pm with urgentSnap := u, trimSnap := t, nextPhase := s.pm.phaseAfter q } s := by
  obtain ⟨u, t, chosen⟩ := Manifold.choose_some h
  refine ⟨u, t, ?_⟩
  generalize made : ({ s.pm with urgentSnap := u, trimSnap := t, nextPhase := s.pm.phaseAfter q } : Manifold) = pm at *
  have table : pm.table.get q = some e := by rw [← made]; exact entry
  have away : (startMove q e.target pm s).plateAt q e.target = false := by
    refine decide_eq_false ?_
    show ¬magnitude (10 * (e.target : Int) - s.value (.plate q)) ≤ 10
    rw [magnitude_eq_abs]
    omega
  have here : (startMove q e.target pm s).fresh (.plate q) = true := fresh
  unfold grantPoint grantRounds
  simp only [chosen, table]
  rw [if_neg (by simp [here]), if_neg (by simp [away])]

theorem endDone_pm (s : State) : (endDone s).pm = { s.pm with move := none, arbiter := .idle } := rfl

theorem endFailed_pm (p : Plate) (s : State) :
    (endFailed p s).pm = { s.pm with move := none, arbiter := .idle, faulty := putPlate s.pm.faulty p true } := rfl

/-- A grant point leaves a plate without an entry alone, and PM that was not idle stays so for PLATES_IDLE (R141, R143). -/
theorem grantRounds_spares {p : Plate} (n : Nat) {s : State} (free : s.pm.table.get p = none) (busy : s.plateBusy = true) :
    (grantRounds n s).pm.targets.get p = s.pm.targets.get p ∧
      (grantRounds n s).pm.faulty.get p = s.pm.faulty.get p ∧ (grantRounds n s).plateBusy = true := by
  induction n generalizing s with
  | zero => exact ⟨rfl, rfl, busy⟩
  | succ n ih =>
    unfold grantRounds
    cases turn : s.pm.turn with
    | none =>
      rw [Manifold.choose_none turn]
      exact ⟨rfl, rfl, busy⟩
    | some q =>
      obtain ⟨u, t, chosen⟩ := Manifold.choose_some turn
      rw [chosen]
      cases entry : s.pm.table.get q with
      | none =>
        simp only [entry]
        exact ih (s := s.putPm { s.pm with urgentSnap := u, trimSnap := t, nextPhase := s.pm.phaseAfter q }) free busy
      | some e =>
        have other : p ≠ q := fun h => by rw [h, entry] at free; cases free
        simp only [entry]
        generalize moved : startMove q e.target
          { s.pm with urgentSnap := u, trimSnap := t, nextPhase := s.pm.phaseAfter q } s = x
        have table : x.pm.table.get p = none := by
          rw [← moved]
          exact (putPlate_get _ _ _ _).trans ((if_neg other).trans free)
        have target : x.pm.targets.get p = s.pm.targets.get p := by
          rw [← moved]
          exact (putPlate_get _ _ _ _).trans (if_neg other)
        have faulty : x.pm.faulty = s.pm.faulty := by rw [← moved]; rfl
        have on : x.plateBusy = true := by rw [← moved]; rfl
        split
        · have failed := ih (s := endFailed q x) (by rw [endFailed_pm, table]) (by simp [on])
          simpa only [endFailed_pm, putPlate_get, if_neg other, target, faulty] using failed
        · split
          · have ended := ih (s := endDone x) (by rw [endDone_pm, table]) (by simp [on])
            simpa only [endDone_pm, target, faulty] using ended
          · exact ⟨target, by rw [faulty], on⟩

/-! ### The grant point behind the end of a move -/

/-- A move has ended in `x` during an event of `s`, and the grant point is still to come: the table, the snapshots and the
next phase are those of `s`, and so is what a grant to another plate reads (R149). -/
structure State.MoveEnded (s : State) (now : RunTime) (m : PlateMove) (x : State) : Prop where
  time : x.runTime = now
  pending : x.pending = s.pending
  li : x.li = s.li
  reports : x.reports = []
  busy : x.plateBusy = true
  moveGone : x.pm.move = none
  table : x.pm.table = s.pm.table
  targets : x.pm.targets = s.pm.targets
  phase : x.pm.nextPhase = s.pm.nextPhase
  urgentSnap : x.pm.urgentSnap = s.pm.urgentSnap
  trimSnap : x.pm.trimSnap = s.pm.trimSnap
  rate : x.par .plateRate = s.par .plateRate
  fresh : ∀ q, q ≠ m.plate → s.fresh (.plate q) = true → x.fresh (.plate q) = true
  value : ∀ q, q ≠ m.plate → x.value (.plate q) = s.value (.plate q)

/-- A FRESH plate more than 1 mm off the target of its entry, whose turn it is (R142). -/
def State.GrantMoves (s : State) (q : Plate) (e : PlateEntry) : Prop :=
  s.pm.turn = some q ∧ s.pm.table.get q = some e ∧ s.fresh (.plate q) = true ∧
    10 < |10 * (e.target : Int) - s.value (.plate q)|

/-- What the grant point behind the end of move `m` leaves (R141, R142, R144). -/
def State.PlateGranted (s : State) (now : RunTime) (m : PlateMove) (t : State) : Prop :=
  t.runTime = now ∧ t.pending = s.pending ∧ t.pm.targets.get m.plate = m.target ∧ s.Reported t [] ∧
    (s.pm.turn = none → t.pm.move = none ∧ t.pm.arbiter = .idle ∧ t.pm.nextPhase = .urgent) ∧
    ∀ q e, s.pm.turn = some q → s.pm.table.get q = some e → s.fresh (.plate q) = true →
      let distance := |10 * (e.target : Int) - s.value (.plate q)|
      10 < distance →
      t.pm.move = some ⟨q, e.target, ⟨now, (-((-(200 * distance)) / s.par .plateRate) + 2000).toNat⟩⟩ ∧
        t.pm.arbiter = .moving ∧ t.pm.targets.get q = e.target ∧ t.pm.table.get q = none ∧
        (∀ x : Plate, x ≠ q → t.pm.table.get x = s.pm.table.get x) ∧ t.pm.nextPhase = s.pm.phaseAfter q

section
variable {s x : State} {now : RunTime} {m : PlateMove}

theorem State.MoveEnded.turn (h : s.MoveEnded now m x) : x.pm.turn = s.pm.turn := by
  unfold Manifold.turn Manifold.urgent Manifold.trim Manifold.awaiting Manifold.holding
  rw [h.table, h.phase, h.urgentSnap, h.trimSnap]

theorem State.MoveEnded.phaseAfter (h : s.MoveEnded now m x) (q : Plate) : x.pm.phaseAfter q = s.pm.phaseAfter q := by
  unfold Manifold.phaseAfter Manifold.urgent Manifold.trim Manifold.awaiting Manifold.holding
  rw [h.table, h.phase, h.urgentSnap, h.trimSnap]

/-- The grant that follows when the plate whose turn it is moves (R142). -/
theorem State.MoveEnded.grants (h : s.MoveEnded now m x) (free : s.pm.table.get m.plate = none) {q : Plate}
    {e : PlateEntry} (moves : s.GrantMoves q e) :
    ∃ u t, grantPoint x = startMove q e.target
      { x.pm with urgentSnap := u, trimSnap := t, nextPhase := s.pm.phaseAfter q } x := by
  obtain ⟨turn, entry, fresh, far⟩ := moves
  have other : q ≠ m.plate := fun k => by rw [← k, entry] at free; cases free
  rw [← h.phaseAfter]
  exact grantPoint_moves (h.turn.trans turn) (by rw [h.table, entry]) (h.fresh q other fresh) (by rwa [h.value q other])

/-- No counter moves when the grant point idles or moves a plate. -/
theorem State.MoveEnded.counters (h : s.MoveEnded now m x) (free : s.pm.table.get m.plate = none)
    (plain : s.pm.turn = none ∨ ∃ q e, s.GrantMoves q e) : (grantPoint x).counters = x.counters := by
  rcases plain with none | ⟨q, e, moves⟩
  · rw [grantPoint_none (h.turn.trans none)]
    rfl
  · obtain ⟨u, t, granted⟩ := h.grants free moves
    rw [granted]
    rfl

/-- The end of a move and its grant point, at the end of the event (R14, R141, R142, R144, R149). -/
theorem State.MoveEnded.granted (h : s.MoveEnded now m x) (coherent : s.ManifoldCoherent) (move : s.pm.move = some m) :
    s.PlateGranted now m (finish (grantPoint x)) := by
  obtain ⟨-, -, -, moving, -⟩ := coherent
  obtain ⟨free, target⟩ := moving m move
  have keeps := grantPoint_keeps x
  have spares := grantRounds_spares (p := m.plate) 9 (s := x) (by rw [h.table, free]) h.busy
  have none := fun k => grantPoint_none (h.turn.trans k)
  have moves := fun q e => h.grants free (q := q) (e := e)
  have eq : grantRounds 9 x = grantPoint x := rfl
  rw [eq] at spares
  generalize grantPoint x = y at *
  have pm : (finish y).pm.unsent = y.pm.unsent := congrArg Blocks.pm (finish_blocks y)
  have fin := finish_keeps y
  have reported : s.Reported (finish y) [] := by
    have busy : y.plateBusy = s.pm.busy := by
      rw [spares.2.2, Manifold.busy, move]
      rfl
    have li : y.li = s.li := by simp only [keeps, h.li]
    exact finish_reported (by rw [li]) (by rw [li]) (by rw [li]) (by simp only [keeps, h.reports]) busy
  generalize finish y = t at *
  have field : ∀ {α : Type} (f : Manifold → α), f t.pm.unsent = f y.pm.unsent := fun f => congrArg f pm
  refine ⟨by simp only [fin, keeps, h.time], by simp only [fin, keeps, h.pending], ?_, reported, fun idle => ?_, ?_⟩
  · have targets : t.pm.targets = y.pm.targets := field Manifold.targets
    rw [targets, spares.1, h.targets, target]
  · have y_eq := none idle
    refine ⟨(field Manifold.move).trans ?_, (field Manifold.arbiter).trans ?_, (field Manifold.nextPhase).trans ?_⟩
    · rw [y_eq]
      exact h.moveGone
    · rw [y_eq]
      rfl
    · rw [y_eq]
      rfl
  · intro q e turn entry fresh distance far
    obtain ⟨u, v, y_eq⟩ := moves q e ⟨turn, entry, fresh, far⟩
    have other : q ≠ m.plate := fun k => by rw [← k, entry] at free; cases free
    refine ⟨(field Manifold.move).trans ?_, (field Manifold.arbiter).trans ?_, ?_, ?_, fun p hp => ?_,
      (field Manifold.nextPhase).trans ?_⟩
    · rw [y_eq]
      show some (PlateMove.mk q e.target (x.moveDeadline q e.target)) = _
      rw [State.moveDeadline, State.timer, State.plateDistance, magnitude_eq_abs, h.value q other, h.rate, h.time]
      rfl
    · rw [y_eq]
      rfl
    · have targets : t.pm.targets = y.pm.targets := field Manifold.targets
      rw [targets, y_eq]
      exact (putPlate_get _ _ _ _).trans (if_pos rfl)
    · have table : t.pm.table = y.pm.table := field Manifold.table
      rw [table, y_eq]
      exact (putPlate_get _ _ _ _).trans (if_pos rfl)
    · have table : t.pm.table = y.pm.table := field Manifold.table
      rw [table, y_eq]
      exact (putPlate_get _ _ _ _).trans ((if_neg hp).trans (by rw [h.table]))
    · rw [y_eq]
      rfl

/-- The plate whose move has ended keeps the fault mark that the end has left it (R149). -/
theorem State.MoveEnded.faulty (h : s.MoveEnded now m x) (free : s.pm.table.get m.plate = none) :
    (finish (grantPoint x)).pm.faulty.get m.plate = x.pm.faulty.get m.plate := by
  have spares := grantRounds_spares (p := m.plate) 9 (s := x) (by rw [h.table, free]) h.busy
  have pm : (finish (grantPoint x)).pm.unsent = (grantPoint x).pm.unsent :=
    congrArg Blocks.pm (finish_blocks _)
  have faulty : (finish (grantPoint x)).pm.faulty = (grantPoint x).pm.faulty :=
    (congrArg Manifold.faulty pm :)
  rw [faulty]
  exact spares.2.1

end

/-! ### The two ends of a move -/

section
variable {s u : State} {now : RunTime} {m : PlateMove}

theorem Manifold.busy_of_move {pm : Manifold} (move : pm.move = some m) : pm.busy = true := by
  rw [busy, move]
  rfl

/-- A move ends FAILED (R146, R149). -/
theorem endFailed_moveEnded (move : s.pm.move = some m) : s.MoveEnded now m (endFailed m.plate (s.begin now)) where
  time := rfl
  pending := rfl
  li := rfl
  reports := rfl
  busy := by simpa using Manifold.busy_of_move move
  moveGone := rfl
  table := rfl
  targets := rfl
  phase := rfl
  urgentSnap := rfl
  trimSnap := rfl
  rate := rfl
  fresh _ _ h := h
  value _ _ := rfl

/-- A quiet arrival leaves PM and the counters (R48). -/
theorem State.Arrived.pm_counters {c : Channel} {v : Int} (h : (s.begin now).Arrived c v u) :
    u.pm = s.pm ∧ u.counters = s.counters :=
  ⟨(congrArg State.pm h.only :), (congrArg State.counters h.only :)⟩

/-- A move ends DONE at a sample of its plate (R145, R149). -/
theorem endDone_moveEnded {v : Int} (move : s.pm.move = some m) (arrived : (s.begin now).Arrived (.plate m.plate) v u) :
    s.MoveEnded now m (endDone u) := by
  have pm : u.pm = s.pm := arrived.pm_counters.1
  obtain ⟨time, par, -, fresh, value⟩ := arrived.reads
  have busy : u.plateBusy = s.pm.busy := (congrArg State.plateBusy arrived.only :)
  have channels : (endDone u).fc = u.fc := by simp
  have params : (endDone u).params = u.params := by simp
  have chan : ∀ c, (endDone u).chan c = u.chan c := fun c => by rw [State.chan, channels, State.chan]
  constructor
  case time => simpa using time
  case pending => simpa using (congrArg State.pending arrived.only :)
  case li => simpa using (congrArg State.li arrived.only :)
  case reports => simpa using (congrArg State.reports arrived.only :)
  case busy => simpa [busy] using Manifold.busy_of_move move
  case rate => rw [← par, State.par, params, State.par]
  case fresh => exact fun q _ h => by rw [State.fresh, chan]; exact (fresh _).2 (.inl h)
  case value =>
    intro q other
    rw [State.value, chan]
    exact (value _).trans (if_neg fun h => other (by cases h; rfl))
  all_goals simp only [endDone_pm, pm]

end

/-- A sample of a plate within 1 mm of the target that its move holds ends the move; any other leaves PM alone (R145). -/
theorem plateArrival_eq {s u : State} {now : RunTime} {m : PlateMove} {p : Plate} {v : Int} (move : s.pm.move = some m)
    (arrived : (s.begin now).Arrived (.plate p) v u) :
    plateArrival p u = if p = m.plate ∧ |10 * (m.target : Int) - v| ≤ 10 then grantPoint (endDone u) else u := by
  have pm : u.pm = s.pm := arrived.pm_counters.1
  obtain ⟨-, -, -, -, value⟩ := arrived.reads
  have here : u.value (.plate p) = v := (value _).trans (if_pos rfl)
  unfold plateArrival
  rw [pm, move]
  refine if_congr (and_congr eq_comm ?_) rfl rfl
  rw [State.plateAt, State.plateDistance, here, magnitude_eq_abs, decide_eq_true_eq]
  rfl

theorem Channel.number_plate (p : Plate) : (Channel.plate p).idx.val + 1 = p.val + 11 := by revert p; decide

/-- The deadline of the move in flight (R146). -/
theorem moveExpiry_eq {s : State} {now : RunTime} {m : PlateMove} (move : s.pm.move = some m) :
    moveExpiry (s.begin now) = if m.deadline.duration ≤ now.since m.deadline.start
      then grantPoint (endFailed m.plate (s.begin now)) else s.begin now := by
  have move : (s.begin now).pm.move = some m := move
  unfold moveExpiry
  rw [move]
  exact if_congr decide_eq_true_iff rfl rfl

/-- The event of a plate's sample outside START (R29, R47, R48). -/
theorem plateSample_event {s : State} {now : RunTime} {m : PlateMove} {p : Plate} {v : Int} (low : 0 ≤ v) (high : v ≤ 1050)
    (started : s.mp.mode ≠ .start) (move : s.pm.move = some m)
    (quiet : (s.chan (.plate p)).state = .absent → s.ArrivalQuiet) :
    ∃ u, (s.begin now).Arrived (.plate p) v u ∧ exec (.sampleArrival (p.val + 11) v now) s =
      .next (finish (if p = m.plate ∧ |10 * (m.target : Int) - v| ≤ 10 then grantPoint (endDone u) else u)) := by
  obtain ⟨u, arrived, eq⟩ := arrival_quiet (c := .plate p) rfl (s := s.begin now) v quiet
  have value : passValue (.plate p) v u = plateArrival p u := rfl
  have number : (Channel.plate p).idx.val + 1 = p.val + 11 := Channel.number_plate p
  have sampled := sample_arrival (c := .plate p) (s := s.begin now) low high
  have mp : u.mp = s.mp := (congrArg State.mp arrived.only :)
  rw [eq, value, plateArrival_eq move arrived, number] at sampled
  refine ⟨u, arrived, ?_⟩
  show Host.Outcome.next (finish (sample _ v (s.begin now))) = _
  rw [sampled]
  have stays : ∀ y : State, y.mp = s.mp → startTest y = y := fun y h => if_neg fun k => started (by rw [← h]; exact k.1)
  rw [stays]
  split
  · simpa using mp
  · exact mp

end Sys2Proof.Machine

open Sys2Proof Sys2Proof.Machine in
/-- Settles O46: a move that has ended, and the grant point behind it. -/
theorem plateMoveEnds : Obligations.PlateMoveEnds := by
  unfold Obligations.PlateMoveEnds
  intro s now m coherent move holding set urgent trim lowest turn granted ended plain
  obtain ⟨-, -, -, moving, -, -, -, -, -, resting⟩ := id coherent
  obtain ⟨free, -⟩ := moving m move
  have started : s.mp.mode ≠ .start := fun h => by
    rw [resting (.inl h)] at move
    cases move
  have grants : ∀ {x}, s.MoveEnded now m x → granted (finish (grantPoint x)) := fun h => h.granted coherent move
  have counters : ∀ {x}, s.MoveEnded now m x → plain → (finish (grantPoint x)).counters = x.counters := fun h k =>
    (finish_keeps _).2.2.1.trans (h.counters free k)
  refine ⟨fun due => ?_, fun early => ?_, fun p v low high quiet => ⟨fun same near => ?_, fun other => ?_⟩⟩
  · have ends := endFailed_moveEnded (now := now) move
    have expiry : moveExpiry (s.begin now) = grantPoint (endFailed m.plate (s.begin now)) := by
      rw [moveExpiry_eq move, if_pos due]
    refine ⟨finish (grantPoint (endFailed m.plate (s.begin now))), ?_, grants ends, ?_, fun k => ?_⟩
    · show Host.Outcome.next (finish (moveExpiry (s.begin now))) = _
      rw [expiry]
    · rw [ends.faulty free, endFailed_pm]
      exact (putPlate_get _ _ _ _).trans (if_pos rfl)
    · have counter := fun n => State.counter_count (s.begin now) (n := 16) (by decide) (by decide) n
      have done := counters ends k
      generalize finish (grantPoint (endFailed m.plate (s.begin now))) = t at *
      have same : ∀ n, t.counter n = ((s.begin now).count 16).counter n := fun n => by
        rw [State.counter, done]
        rfl
      exact ⟨(same 16).trans ((counter 16 (by decide)).trans (if_pos rfl)),
        (same 15).trans ((counter 15 (by decide)).trans (if_neg (by decide)))⟩
  · refine ⟨event now moveExpiry s, rfl, event_idle ?_⟩
    rw [moveExpiry_eq move, if_neg (by omega)]
  · obtain ⟨u, arrived, run⟩ := plateSample_event low high started move quiet
    rw [if_pos ⟨same, near⟩] at run
    subst same
    have ends := endDone_moveEnded move arrived
    obtain ⟨pm, before⟩ := arrived.pm_counters
    refine ⟨_, run, grants ends, ?_, fun k => ?_⟩
    · rw [ends.faulty free, endDone_pm, pm]
    · have counter := fun n => State.counter_count u (n := 15) (by decide) (by decide) n
      have done := counters ends k
      generalize finish (grantPoint (endDone u)) = t at *
      have same : ∀ n, t.counter n = (u.count 15).counter n := fun n => by
        rw [State.counter, done]
        rfl
      have kept : ∀ n, u.counter n = s.counter n := fun n => by rw [State.counter, before, State.counter]
      exact ⟨(same 15).trans ((counter 15 (by decide)).trans ((if_pos rfl).trans (by rw [kept]))),
        (same 16).trans ((counter 16 (by decide)).trans ((if_neg (by decide)).trans (kept 16)))⟩
  · obtain ⟨u, arrived, run⟩ := plateSample_event low high started move quiet
    rw [if_neg fun k => other.elim (absurd k.1) fun far => absurd k.2 (not_le.2 far)] at run
    obtain ⟨pm, before⟩ := arrived.pm_counters
    have blocks : (finish u).pm.unsent = u.pm.unsent := congrArg Blocks.pm (finish_blocks u)
    exact ⟨_, run, by rw [blocks, pm], (finish_keeps u).2.2.1.trans before⟩
end

section
/-! SUPPORT. What a command does, act by act: a property that every act of an event keeps holds when the records of the
event leave, whatever the command (`Acts.run`), and so at every step (`Kept.step`). The invariants of this family
(O55, O57, O58) each give their acts and use these two rules. -/

namespace Sys2Proof.Machine

/-! ### What leaves all but the counters as it is -/

theorem State.count_shape (n : Nat) (s : State) : ∃ c, s.count n = { s with counters := c } := ⟨_, rfl⟩

theorem emptyLine_shape (s : State) : ∃ c, emptyLine s = { s with counters := c, sr := { s.sr with line := [] } } := ⟨_, rfl⟩

theorem restartState_shape (s : State) : ∃ c, restartState s =
    { State.initial s.fc.emergencyIn.raw s.fc.gearPressLow.raw s.fc.oilHot.raw with counters := c, pending := s.pending } :=
  ⟨_, rfl⟩

/-! ### The acts of an event -/

/-- Steps 2 to 4 of R42: the open record and the transit line go, and the panel is CLOSED. -/
def State.shut (s : State) : State :=
  let s := emptyLine (setOpen none s)
  { s with sr := { s.sr with cutter := none }, mp := { s.mp with panel := .closed } }

theorem State.shut_keeps (s : State) :
    s.shut.runTime = s.runTime ∧ s.shut.params = s.params ∧ s.shut.li = s.li ∧ s.shut.fc = s.fc ∧ s.shut.sl = s.sl ∧
    s.shut.pm = s.pm ∧ s.shut.wd = s.wd ∧ s.shut.tu = s.tu ∧ s.shut.sent = s.sent ∧ s.shut.reports = s.reports ∧
    s.shut.plateBusy = s.plateBusy ∧ s.shut.pending = s.pending := by
  simp [State.shut]

theorem State.shut_fields (s : State) :
    s.shut.mp = { s.mp with panel := .closed } ∧ s.shut.di = { s.di with openRecord := none } ∧
    s.shut.sr = { s.sr with line := [], cutter := none } ∧
    s.shut.counters = (s.addCounter 9 s.sr.line.length).counters := by
  unfold State.shut
  refine ⟨?_, ?_, ?_, ?_⟩
  · simp
  · simp
  · simp [emptyLine]
  · simp [emptyLine, State.addCounter]

/-- The panel closes, its waits having ended: steps 2 to 5 of R42. -/
def shutPanel (s : State) : State := emergencyStandby s.shut

theorem closePanel_eq (s : State) : closePanel s = shutPanel (cancelWaits s) := by
  unfold closePanel shutPanel emergencyStandby
  cases mode : (cancelWaits s).mp.mode <;> simp [State.shut, mode]

/-- The module as a restart starts it, before the inputs report (R44, R45). -/
def State.reborn (keepLog : Bool) (s : State) : State :=
  if keepLog then reopenStation (keepRecord s (restartState s)) else restartState s

theorem restartModule_eq (keepLog : Bool) (s : State) : restartModule keepLog s = finish (reportInputs (s.reborn keepLog)) :=
  rfl

theorem reopenStation_keeps (s : State) : (reopenStation s).runTime = s.runTime ∧ (reopenStation s).params = s.params ∧
    (reopenStation s).counters = s.counters ∧ (reopenStation s).li = s.li ∧ (reopenStation s).mp = s.mp ∧
    (reopenStation s).fc = s.fc ∧ (reopenStation s).sl = s.sl ∧ (reopenStation s).pm = s.pm ∧ (reopenStation s).wd = s.wd ∧
    (reopenStation s).tu = s.tu ∧ (reopenStation s).sent = s.sent ∧ (reopenStation s).reports = s.reports ∧
    (reopenStation s).plateBusy = s.plateBusy ∧ (reopenStation s).pending = s.pending := by
  unfold reopenStation
  split <;> simp [resetOpenAtDepth]

/-- With keep_log 1 the header, the depth reference and the accepted depth are kept of MP, FC, LI and TU (R45). -/
theorem reborn_keepLog (s : State) :
    (s.reborn true).mp = { ModePanel.initial with
      panel := s.mp.panel, panelNumber := s.mp.panelNumber, cutArea := s.mp.cutArea, interval := s.mp.interval } ∧
    (s.reborn true).li = .initial ∧
    (s.reborn true).fc = { FieldChannels.initial s.fc.emergencyIn.raw s.fc.gearPressLow.raw s.fc.oilHot.raw with
      reference := s.fc.reference, lastAccepted := s.fc.lastAccepted, lastRaw := s.fc.lastRaw } ∧
    (s.reborn true).tu = .initial := by
  obtain ⟨-, -, -, li, mp, fc, -, -, -, tu, -⟩ := reopenStation_keeps (keepRecord s (restartState s))
  exact ⟨mp, li, fc, tu⟩

/-- The acts of the events other than power-on, restart and the two wheel timers that send a record at once (R163 to
R166), each with what the event has tested before it acts: a property of states that each of them keeps. -/
structure Acts (P : State → Prop) : Prop where
  line : ∀ {s : State} (li : LineInterface), li.linkTimer = s.li.linkTimer → P s → P (s.putLi li)
  scratch : ∀ {s : State} (l : List Report) (b : Bool), P s → P { s with reports := l, plateBusy := b }
  counters : ∀ {s : State} (c : Vector Nat 17), P s → P { s with counters := c }
  plans : ∀ {s : State} (plan : List Band) (version : BitVec 16) (load : Option PlanLoad), P s →
    P { s with sl := { s.sl with plan := plan, version := version, load := load } }
  falls : ∀ {s : State}, P s → P (linkSilent s)
  hears : ∀ {s : State}, P s → P (linkHeard s)
  arrives : ∀ {s : State} {c : Channel} {v : Int}, c.range.1 ≤ v → v ≤ c.range.2 → P s → P (arrival c v s)
  starts : ∀ {s : State}, s.mp.mode = .start → P s → P (endStart s)
  judges : ∀ {s : State}, P s → P (windowEnd s)
  inputs : ∀ {s : State} (i : InputId) (l : Level), P s → P (inputChange i l s)
  filters : ∀ {s : State} (i : InputId), P s → P (passInput i s)
  persists : ∀ {s : State} (a : Axis), P s → P (disagreementPersists a s)
  fails : ∀ {s : State} {m : PlateMove}, s.pm.move = some m → P s → P (failMove m.plate s)
  reverses : ∀ {s : State} {w : WheelId}, (s.wheel w).state = .reversing → P s → P (reverseEnd w s)
  blocked : ∀ {s : State}, P s → P (blockagePresent s)
  flushed : ∀ {s : State}, P s → P (endBackflush s)
  stores : ∀ {s : State} (p : ParamId) (v : Int), P s → P (storeParameter p (s.storedValue p v) s)
  modes : ∀ {s : State} (m : Mode), P s → P (modeSet m s).1
  opens : ∀ {s : State} (number area interval : Nat), s.mp.mode = .standby → P s →
    P (openPanel number (clamp 10000 80000 area) (clamp 100 2000 interval) s)
  shuts : ∀ {s : State}, s.mp.panel = .opened → P s → P (shutPanel s)
  zeroes : ∀ {s : State} {d oX oY : Int} (raw : Int), Config.depthMin ≤ d → d ≤ Config.depthMax →
    offsetAllowed oX = true → offsetAllowed oY = true → s.zeroAllowed = true → P s → P (zeroDepth d oX oY raw s)
  sets : ∀ {s : State} {w : WheelId} (d : Direction) (v : Nat), s.mp.mode ≠ .start → s.mp.mode ≠ .standby →
    (s.wheel w).state ≠ .lockedOut → P s → P (wheelSet w d (min v (s.par .maxWheelSpeed)) s)
  clears : ∀ {s : State} {w : WheelId}, (s.wheel w).state = .lockedOut → P s →
    P (condition (lockoutSource w) false (wheelClear w s))
  pumps : ∀ {s : State} (v : Nat), s.mp.mode = .manual → P s →
    P (recomputePump { s with sr := { s.sr with manualTarget := min v s.maxFlow } })
  flushes : ∀ {s : State}, s.backflushAllowed = true → P s → P (startBackflush s)
  moves : ∀ {s : State} (p : Plate) (n : Nat), s.mp.mode ≠ .start → P s → P (plateRequest p n .urgent s)
  mends : ∀ {s : State} (p : Plate), P s → P (s.putPm { s.pm with faulty := putPlate s.pm.faulty p false })
  unlatches : ∀ {s : State} {i : Source}, s.source i = .latched → P s → P (setSource i .clear s)
  forces : ∀ {s : State} (on : Bool), P s → P (tripForce on s)
  maps : ∀ {s : State} {i : Source} (set : GroupSet), i ≠ Source.emergency → P s →
    P (recomputeGroups { s with tu := { s.tu with sets := s.tu.sets.set i.val set i.isLt } })

/-- The commands whose records all leave at the end of the event: all but power-on, restart and the two wheel timers of
R163 to R166. -/
def Instr.sendsLast : Instr → Bool
  | .powerOn _ _ _ | .moduleRestart | .stallTimerExpiry _ _ | .stallPauseEnd _ _ => false
  | _ => true

namespace Acts

variable {P : State → Prop}

/-! ### The operator line -/

theorem lineOnly (h : Acts P) {s t : State} (only : s.LineOnly t) (p : P s) : P t := by
  obtain ⟨eq, ⟨-, -, -, -, timer⟩, -⟩ := only
  rw [eq]
  exact h.line _ timer p

theorem grants (h : Acts P) {s : State} (p : P s) : P (grantSlots s) := h.lineOnly (grantSlots_lineOnly s) p

theorem ends (h : Acts P) (f : WaitEntry → Option Reply) {s : State} (p : P s) : P (endWaits f s) :=
  h.lineOnly (endWaits_lineOnly f s) p

theorem handles (h : Acts P) (x : Handler) {s : State} (p : P s) : P (s.putLi { s.li with handler := x }) :=
  h.line _ rfl p

theorem counts (h : Acts P) {s : State} (n : Nat) (p : P s) : P (s.count n) :=
  h.counters _ p

theorem takes (h : Acts P) {s : State} (p : P s) : P (takeReports s) := by
  obtain ⟨t, only, eq⟩ := takeReports_line s
  rw [eq]
  exact h.scratch [] false (h.line (s := s) t.li only.2.1.2.2.2.2 p)

theorem discards (h : Acts P) {s : State} (p : P s) : P (discardFrame s) := h.counts 1 (h.line _ rfl p)

theorem admits (h : Acts P) (r : Request) {s : State} (p : P s) : P (admitRequest r s) := by
  unfold admitRequest
  split
  · exact h.line _ rfl p
  · split
    · exact h.counts 3 (h.line _ rfl p)
    · exact h.counts 2 p

theorem receives (h : Acts P) (b : Byte) {s : State} (p : P s) : P (receiveByte s b) := by
  unfold receiveByte
  split
  · split
    · exact h.line _ rfl p
    · exact p
  · split
    · exact h.discards p
    · dsimp only
      split
      · unfold frameComplete
        split
        · exact h.admits _ (h.hears (h.line _ rfl p))
        · exact h.discards p
      · exact h.line _ rfl p

theorem streams (h : Acts P) (st : Stream) {s : State} (p : P s) : P (streamPart st s) := by
  unfold streamPart
  exact h.grants (h.handles _ (h.grants p))

theorem transmits (h : Acts P) {s : State} (p : P s) : P (startFrame s) ∧ P (completeFrame s) := by
  refine ⟨?_, ?_⟩
  · unfold startFrame
    repeat' split
    all_goals first | exact p | exact h.line _ rfl p
  · unfold completeFrame
    repeat' split
    all_goals first | exact p | exact h.line _ rfl p

/-! ### The owners of the requests -/

/-- An owner that acts if its tests pass, and leaves the state as it is otherwise (R6). -/
theorem chosen {c : Prop} [Decidable c] {a b : Answer} (yes : c → P a.1) (no : ¬c → P b.1) : P (if c then a else b).1 := by
  split
  · exact yes ‹_›
  · exact no ‹_›

theorem ownWheelSet (h : Acts P) (r : Request) {s : State} (p : P s) : P (Machine.ownWheelSet r s).1 := by
  unfold Machine.ownWheelSet
  split
  · unfold wheelSetTests
    refine chosen (fun _ => p) fun mode => chosen (fun _ => p) fun _ => chosen (fun _ => p) fun locked => ?_
    exact h.sets _ _ (fun e => mode (.inl e)) (fun e => mode (.inr e)) (fun e => locked (.inl e)) p
  · exact p

theorem ownWheelClear (h : Acts P) (r : Request) {s : State} (p : P s) : P (Machine.ownWheelClear r s).1 := by
  unfold Machine.ownWheelClear
  split
  · exact p
  · dsimp only [done]
    split
    · exact h.clears ‹_› p
    · exact p

theorem ownPumpSet (h : Acts P) (r : Request) {s : State} (p : P s) : P (Machine.ownPumpSet r s).1 := by
  unfold Machine.ownPumpSet
  exact chosen (fun _ => p) fun mode => chosen (fun _ => p) fun _ => h.pumps _ (not_not.1 mode) p

theorem ownBackflush (h : Acts P) (r : Request) {s : State} (p : P s) : P (Machine.ownBackflush r s).1 := by
  unfold Machine.ownBackflush
  exact chosen (fun _ => p) fun _ => chosen (fun allowed => h.flushes allowed p) fun _ => p

theorem ownPlateMove (h : Acts P) (r : Request) {s : State} (p : P s) : P (Machine.ownPlateMove r s).1 := by
  unfold Machine.ownPlateMove
  split
  · exact p
  · unfold plateMoveTests
    exact chosen (fun _ => p) fun mode => chosen (fun _ => p) fun _ => chosen (fun _ => p) fun _ =>
      h.moves _ _ (fun e => mode (.inl e)) p

theorem ownPlateClear (h : Acts P) (r : Request) {s : State} (p : P s) : P (Machine.ownPlateClear r s).1 := by
  unfold Machine.ownPlateClear
  split
  · exact p
  · exact h.mends _ p

theorem ownParamSet (h : Acts P) (r : Request) {s : State} (p : P s) : P (Machine.ownParamSet r s).1 := by
  unfold Machine.ownParamSet
  dsimp only
  split
  · exact p
  · exact h.stores _ _ p

theorem ownParamGet (r : Request) {s : State} (p : P s) : P (Machine.ownParamGet r s).1 := by
  rw [ownParamGet_unchanged]
  exact p

theorem ownModeSet (h : Acts P) (r : Request) {s : State} (p : P s) : P (Machine.ownModeSet r s).1 := by
  unfold Machine.ownModeSet
  split
  · exact p
  · exact h.modes _ p

theorem ownPanelOpen (h : Acts P) (r : Request) {s : State} (p : P s) : P (Machine.ownPanelOpen r s).1 := by
  unfold Machine.ownPanelOpen
  exact chosen (fun _ => p) fun mode => h.opens _ _ _ (not_not.1 mode) p

theorem ownPanelClose (h : Acts P) (r : Request) {s : State} (p : P s) : P (Machine.ownPanelClose r s).1 := by
  unfold Machine.ownPanelClose
  refine chosen (fun opened => ?_) fun _ => p
  dsimp only [done]
  rw [closePanel_eq]
  unfold cancelWaits
  have panel := congrArg (fun u : State => u.mp.panel) (endWaits_lineOnly (fun _ => some (Reply.refuse .cancelled)) s).1
  exact h.shuts (panel.trans opened) (h.ends _ p)

theorem ownDepthZero (h : Acts P) (r : Request) {s : State} (p : P s) : P (Machine.ownDepthZero r s).1 := by
  unfold Machine.ownDepthZero
  refine chosen (fun _ => p) fun range => chosen (fun allowed => ?_) fun _ => p
  simp only [not_or, not_lt, Bool.not_eq_true, Bool.not_eq_false'] at range
  obtain ⟨low, high, x, y⟩ := range
  split
  · exact h.zeroes _ low high x y allowed p
  · exact p

theorem restarted (h : Acts P) {s : State} (p : P s) : P (restartLoad s) := h.plans _ _ _ p

theorem ownPlanOpen (h : Acts P) (r : Request) {s : State} (p : P s) : P (Machine.ownPlanOpen r s).1 := by
  unfold Machine.ownPlanOpen
  refine chosen (fun _ => h.restarted p) fun _ => ?_
  dsimp only [done]
  split
  · exact h.plans _ _ _ (h.counts 4 p)
  · exact h.plans _ _ _ p

theorem ownPlanBand (h : Acts P) (r : Request) {s : State} (p : P s) : P (Machine.ownPlanBand r s).1 := by
  have timed := h.restarted p
  unfold Machine.ownPlanBand
  split
  · exact p
  · unfold bandTests
    refine chosen (fun _ => timed) fun _ => chosen (fun _ => timed) fun _ => ?_
    split
    · exact timed
    · exact chosen (fun _ => h.plans _ _ _ timed) fun _ => timed

theorem ownPlanClose (h : Acts P) (r : Request) {s : State} (p : P s) : P (Machine.ownPlanClose r s).1 := by
  unfold Machine.ownPlanClose
  split
  · exact p
  · exact chosen (fun _ => h.plans _ _ _ p) fun _ => h.counts 4 (h.plans _ _ _ p)

theorem ownLogRead (h : Acts P) (r : Request) {s : State} (p : P s) : P (Machine.ownLogRead r s).1 := by
  unfold Machine.ownLogRead
  refine chosen (fun _ => p) fun _ => ?_
  dsimp only [noReply]
  exact h.streams _ p

theorem ownPlanGet (h : Acts P) (r : Request) {s : State} (p : P s) : P (Machine.ownPlanGet r s).1 := by
  unfold Machine.ownPlanGet
  dsimp only [noReply]
  exact h.streams _ p

theorem ownAwait (h : Acts P) (r : Request) {s : State} (p : P s) : P (Machine.ownAwait r s).1 := by
  unfold Machine.ownAwait
  split
  · exact p
  · unfold postTests
    exact chosen (fun _ => p) fun _ => chosen (fun _ => p) fun _ => chosen (fun _ => p) fun _ => chosen (fun _ => p)
      fun _ => chosen (fun _ => p) fun _ => h.line _ rfl p

theorem ownAwaitCancel (h : Acts P) (r : Request) {s : State} (p : P s) : P (Machine.ownAwaitCancel r s).1 := by
  unfold Machine.ownAwaitCancel
  refine chosen (fun _ => ?_) fun _ => p
  dsimp only [done]
  exact h.ends _ p

theorem ownRestart (h : Acts P) (r : Request) {s : State} (p : P s) : P (Machine.ownRestart r s).1 := by
  unfold Machine.ownRestart
  split
  · exact p
  · unfold cancelWaits
    dsimp only [noReply]
    exact h.grants (h.handles _ (h.ends _ p))

theorem ownTripClear (h : Acts P) (r : Request) {s : State} (p : P s) : P (Machine.ownTripClear r s).1 := by
  unfold Machine.ownTripClear
  split
  · exact p
  · unfold tripClear
    split
    · exact h.unlatches ‹_› p
    · exact p
    · exact p

theorem ownTripForce (h : Acts P) (r : Request) {s : State} (p : P s) : P (Machine.ownTripForce r s).1 := by
  unfold Machine.ownTripForce
  split
  · exact p
  · exact h.forces _ p

theorem ownTripMapSet (h : Acts P) (r : Request) {s : State} (p : P s) : P (Machine.ownTripMapSet r s).1 := by
  unfold Machine.ownTripMapSet
  split
  · exact p
  · unfold tripMapSet
    exact chosen (fun _ => chosen (fun _ => p) fun other => chosen (fun _ => p) fun _ => h.maps _ other p) fun _ => p

/-! ### Whole commands -/

theorem answered (h : Acts P) (r : Request) (a : Answer) (p : P a.1) : ∃ u, answerPlaced r a = sendRecords u ∧ P u := by
  obtain ⟨x, reply⟩ := a
  cases reply with
  | none => exact ⟨_, rfl, h.takes p⟩
  | some reply =>
    have placed := h.grants (h.takes p)
    refine ⟨_, rfl, ?_⟩
    unfold handlerReply
    generalize grantSlots (takeReports x) = g at placed
    dsimp only
    split
    · exact h.line _ rfl placed
    · exact h.line _ rfl placed

/-- The event at run time `now` has acted, and its records leave: what held as it began still holds then. -/
def Runs (P : State → Prop) (s t : State) : Prop := ∃ now u, t = sendRecords u ∧ (P (s.begin now) → P u)

theorem event (h : Acts P) {f : State → State} {now : RunTime} {s : State} (acts : ∀ {u}, P u → P (f u)) :
    Runs P s (event now f s) :=
  ⟨now, _, rfl, fun p => h.takes (acts p)⟩

theorem refused (h : Acts P) {now : RunTime} {s : State} (r : Request) (rest : List Request) {t : State}
    {owner : State → Answer} (acts : ∀ {u}, P u → P (owner u).1) (e : t = answerPlaced r (owner (s.taken now rest))) :
    Runs P s t := by
  by_cases p : P (s.begin now)
  · obtain ⟨u, placed, pu⟩ := h.answered r _ (acts (h.line (s := s.begin now) { s.li with requestQueue := rest } rfl p))
    exact ⟨now, u, e.trans placed, fun _ => pu⟩
  · have refuses : ∃ u, answerPlaced r (owner (s.taken now rest)) = sendRecords u := ⟨_, rfl⟩
    obtain ⟨u, placed⟩ := refuses
    exact ⟨now, u, e.trans placed, fun q => absurd q p⟩

theorem request (h : Acts P) {kind length : Nat} {now : RunTime} {owner : Request → State → Answer} {s : State}
    (acts : ∀ (r : Request) {u : State}, P u → P (owner r u).1) : Runs P s (takeRequest kind length now owner s) := by
  rcases takeRequest_cases kind length now owner s with e | ⟨r, rest, -, -, e | ⟨-, e⟩⟩
  · rw [e]
    exact h.event id
  · exact h.refused r rest (owner := refuse .badLength) id e
  · exact h.refused r rest (owner := owner r) (acts r) e

/-- Every command that sends its records last acts through the acts, and then sends them. -/
theorem run (h : Acts P) {c : Instr} (last : Instr.sendsLast c = true) {s t : State} (e : exec c s = .next t) :
    Runs P s t := by
  have event : ∀ {now : RunTime} {f : State → State}, (∀ {u : State}, P u → P (f u)) →
      (Host.Outcome.next (Machine.event now f s) : Host.Outcome State Fault Refusal) = .next t → Runs P s t :=
    fun acts he => by cases he; exact h.event acts
  have request : ∀ {kind length : Nat} {now : RunTime} {owner : Request → State → Answer},
      (∀ (r : Request) {u : State}, P u → P (owner r u).1) →
      (Host.Outcome.next (takeRequest kind length now owner s) : Host.Outcome State Fault Refusal) = .next t → Runs P s t :=
    fun acts he => by cases he; exact h.request acts
  cases c with
  | powerOn | moduleRestart | stallTimerExpiry | stallPauseEnd => cases last
  | frameReceived bytes now =>
    exact event (fun p => foldl_preserves P _ (fun _ b q => h.receives b q) bytes _ p) e
  | frameBadLength length now => exact event (h.receives length) e
  | frameLeadByte now => exact event (h.receives Config.leadByte) e
  | badCharacter now =>
    refine event (fun p => ?_) e
    unfold badCharacter
    split
    · exact p
    · exact h.discards p
  | gapTimerExpiry now =>
    refine event (fun p => ?_) e
    unfold gapExpiry
    split
    · exact p
    · split
      · exact h.discards p
      · exact p
  | linkSilenceExpiry now =>
    refine event (fun p => ?_) e
    unfold linkExpiry
    split
    · exact h.falls p
    · exact p
  | transmitFrameStart now => exact event (fun p => (h.transmits p).1) e
  | transmitComplete now => exact event (fun p => (h.transmits p).2) e
  | replySlotGranted now => exact event (fun p => h.lineOnly (grantSlot_lineOnly _) p) e
  | streamNextPart now =>
    refine event (fun p => ?_) e
    unfold nextPart
    split
    · split
      · exact h.streams _ p
      · exact p
    all_goals exact p
  | requestUnknownKind now =>
    cases e
    rcases takeUnknown_cases now s with e | ⟨r, rest, -, -, -, e⟩
    · rw [e]
      exact h.event id
    · exact h.refused r rest (owner := refuse .unknownKind) id e
  | statusGet now => exact request (owner := ownStatusGet) (fun _ _ p => p) e
  | transitGet now => exact request (owner := ownTransitGet) (fun _ _ p => p) e
  | tripGet now => exact request (owner := ownTripGet) (fun _ _ p => p) e
  | paramSet now => exact request h.ownParamSet e
  | paramGet now => exact request ownParamGet e
  | modeSet now => exact request h.ownModeSet e
  | panelOpen now => exact request h.ownPanelOpen e
  | panelClose now => exact request h.ownPanelClose e
  | depthZero now => exact request h.ownDepthZero e
  | wheelSet now => exact request h.ownWheelSet e
  | wheelClear now => exact request h.ownWheelClear e
  | pumpSet now => exact request h.ownPumpSet e
  | backflush now => exact request h.ownBackflush e
  | plateMove now => exact request h.ownPlateMove e
  | plateClear now => exact request h.ownPlateClear e
  | planOpen now => exact request h.ownPlanOpen e
  | planBand now => exact request h.ownPlanBand e
  | planClose now => exact request h.ownPlanClose e
  | planGet now => exact request h.ownPlanGet e
  | logRead now => exact request h.ownLogRead e
  | await now => exact request h.ownAwait e
  | awaitCancel now => exact request h.ownAwaitCancel e
  | countersRead now => exact request (owner := ownCountersRead) (fun _ _ p => h.counters _ p) e
  | tripClear now => exact request h.ownTripClear e
  | tripForce now => exact request h.ownTripForce e
  | tripMapSet now => exact request h.ownTripMapSet e
  | restart now => exact request h.ownRestart e
  | waitDeadlineExpiry tag now => exact event (h.ends _) e
  | sampleArrival n v now =>
    refine event (fun p => ?_) e
    unfold sample
    split
    · split
      · rename_i range
        have arrived := h.arrives range.1 range.2 p
        unfold startTest
        split
        · rename_i ends
          exact h.starts ends.1 arrived
        · exact arrived
      · exact h.counts 6 p
    · exact h.counts 6 p
  | startWindowExpiry now =>
    refine event (fun p => ?_) e
    unfold startExpiry
    split
    · rename_i ends
      exact h.starts ends.1 p
    · exact p
  | windowEnd now =>
    refine event (fun p => ?_) e
    unfold windowExpiry
    split
    · exact h.judges p
    · exact p
  | discreteInputChange i l now => exact event (h.inputs i l) e
  | filterTimerExpiry i now =>
    refine event (fun p => ?_) e
    unfold filterExpiry
    split
    · exact h.filters i p
    · exact p
  | disagreementTimerExpiry a now =>
    refine event (fun p => ?_) e
    unfold disagreementExpiry
    split
    · exact h.persists a p
    · exact p
  | plateMoveDeadline now =>
    refine event (fun p => ?_) e
    unfold moveExpiry
    split
    · rename_i m move
      split
      · exact h.fails move p
      · exact p
    · exact p
  | reverseTimeExpiry w now =>
    refine event (fun p => ?_) e
    unfold reverseExpiry
    split
    · rename_i due
      exact h.reverses due.1 p
    · exact p
  | blockageTimerExpiry now =>
    refine event (fun p => ?_) e
    unfold blockageExpiry
    split
    · exact h.blocked p
    · exact p
  | backflushEnd now =>
    refine event (fun p => ?_) e
    unfold backflushExpiry
    split
    · exact h.flushed p
    · exact p
  | loadTimerExpiry now =>
    refine event (fun p => ?_) e
    unfold loadExpiry
    split
    · split
      · exact h.counts 4 (h.plans _ _ _ p)
      · exact p
    · exact p

end Acts

/-! ### Whole steps -/

/-- A property that the acts keep, and with them the beginning and the end of an event, the two wheel timers of R163 to
R166, power-on and restart. -/
structure Kept (P : State → Prop) : Prop extends Acts P where
  begins : ∀ {s : State} (now : RunTime), P s → P (s.begin now)
  sends : ∀ {s : State}, P s → P (sendRecords s)
  stalls : ∀ {s : State} {w : WheelId}, (s.wheel w).stallTimer ≠ none → P s → P (announceWheel w (stall w s))
  pauses : ∀ {s : State} {w : WheelId}, (s.wheel w).state = .stalled → P s → P (pauseEnd w s)
  powers : ∀ {s : State} (e g o : Level), P s → P (powerOn e g o s)
  restarts : ∀ {s : State} (k : Bool), P s → P (restartModule k s)

/-- Every command keeps such a property. -/
theorem Kept.exec {P : State → Prop} (h : Kept P) {c : Instr} {s t : State} (e : exec c s = .next t) (p : P s) : P t := by
  have finished : ∀ {f : State → State} {now : RunTime}, P (f (s.begin now)) → P (event now f s) :=
    fun p => h.sends (h.takes p)
  by_cases last : Instr.sendsLast c = true
  · obtain ⟨now, u, rfl, holds⟩ := h.run last e
    exact h.sends (holds (h.begins now p))
  · cases c with
    | powerOn a b d =>
      cases e
      exact h.powers a b d p
    | moduleRestart =>
      unfold Machine.exec execModuleRestart at e
      dsimp only at e
      split at e
      · cases e
        exact h.restarts _ p
      · cases e
        exact p
    | stallTimerExpiry w now =>
      cases e
      refine finished ?_
      unfold stallExpiry
      split
      · rename_i due
        refine h.stalls (fun none => ?_) (h.begins now p)
        rw [none] at due
        cases due
      · exact h.begins now p
    | stallPauseEnd w now =>
      cases e
      refine finished ?_
      unfold pauseExpiry
      split
      · rename_i due
        exact h.pauses due.1 (h.begins now p)
      · exact h.begins now p
    | _ => exact absurd rfl last

/-- Every step keeps a property that every command keeps and that does not look at the queue of commands. -/
theorem Kept.step {P : State → Prop} (h : Kept P) (queue : ∀ {s : State} (l : List Instr), P s → P { s with pending := l })
    {s t : State} (p : P s) (e : step s = .next t) : P t := by
  unfold Machine.step at e
  split at e
  · cases e
    exact p
  · exact h.exec e (queue _ p)

end Sys2Proof.Machine
end

section
/-! SUPPORT. What FC's watches, derivations and reports leave in FC, MP and the trip sources (R33, R50 to R60): each watch
stores its condition and tells TU of a change, and TU alone acts on it. -/

namespace Sys2Proof.Machine

/-! ### A condition told to TU (R202, R203) -/

/-- TU is told of a condition that differs from the one told last. -/
def tellChange (i : Source) (old now : Bool) (s : State) : State := if now = old then s else condition i now s

@[simp] theorem tellChange_keeps (i : Source) (old now : Bool) (s : State) :
    (tellChange i old now s).runTime = s.runTime ∧ (tellChange i old now s).params = s.params ∧
    (tellChange i old now s).counters = s.counters ∧ (tellChange i old now s).li = s.li ∧
    (tellChange i old now s).fc = s.fc ∧ (tellChange i old now s).di = s.di ∧
    (tellChange i old now s).sent = s.sent ∧ (tellChange i old now s).plateBusy = s.plateBusy ∧
    (tellChange i old now s).pending = s.pending := by
  unfold tellChange
  split <;> simp

/-- A report about one source leaves the others (R203). -/
theorem tellChange_source {i j : Source} (other : j ≠ i) (old now : Bool) (s : State) :
    (tellChange i old now s).source j = s.source j := by
  unfold tellChange
  split
  · rfl
  · rw [condition_source, if_neg other]

theorem condition_sl {i : Source} (h : i ≠ Source.emergency) (b : Bool) (s : State) : (condition i b s).sl = s.sl := by
  unfold condition
  split <;> simp [h]

/-- A condition other than EMERGENCY changes neither the mode nor SL (R37). -/
theorem tellChange_mode {i : Source} (h : i ≠ Source.emergency) (old now : Bool) (s : State) :
    (tellChange i old now s).mp = s.mp ∧ (tellChange i old now s).sl = s.sl := by
  unfold tellChange
  split
  · exact ⟨rfl, rfl⟩
  · exact ⟨(condition_other h now s).1, condition_sl h now s⟩

/-! ### The watches of FC (R51, R59, R60) -/

theorem sensorStaleWatch_eq (s : State) : sensorStaleWatch s =
    tellChange Source.sensorStale s.fc.sensorStale s.sensorStaleNow
      { s with fc := { s.fc with sensorStale := s.sensorStaleNow } } := by
  unfold sensorStaleWatch tellChange
  dsimp only
  split
  · rename_i same
    rw [same]
  · rfl

/-- INCL_DISAGREE can only end at a derivation (R59). -/
def State.stillDisagrees (s : State) : Bool :=
  s.fc.inclDisagree && (s.fc.slopes.x.disagreeing || s.fc.slopes.y.disagreeing)

theorem disagreeWatch_eq (s : State) : disagreeWatch s =
    tellChange Source.inclDisagree s.fc.inclDisagree s.stillDisagrees
      { s with fc := { s.fc with inclDisagree := s.stillDisagrees } } := by
  have ends : ∀ d x y : Bool, ((d && !x && !y) = true ↔ (d && (x || y)) ≠ d) ∧
      ((d && (x || y)) ≠ d → (d && (x || y)) = false) := by decide
  obtain ⟨test, gone⟩ := ends s.fc.inclDisagree s.fc.slopes.x.disagreeing s.fc.slopes.y.disagreeing
  change (_ ↔ s.stillDisagrees ≠ _) at test
  change (s.stillDisagrees ≠ _ → s.stillDisagrees = false) at gone
  unfold disagreeWatch tellChange
  by_cases same : s.stillDisagrees = s.fc.inclDisagree
  · rw [if_pos same, same, if_neg fun h => test.1 h same]
  · rw [if_neg same, gone same, if_pos (test.2 same)]

/-- A slope is beyond the inclination limit on at least one axis (R60). -/
def State.tilted (s : State) : Bool :=
  s.par .inclLimit < magnitude s.fc.slopes.x.slope || s.par .inclLimit < magnitude s.fc.slopes.y.slope

theorem inclLimitWatch_eq (s : State) : inclLimitWatch s =
    tellChange Source.inclLimit s.fc.inclLimit s.tilted { s with fc := { s.fc with inclLimit := s.tilted } } := by
  unfold inclLimitWatch tellChange
  dsimp only
  change (if s.tilted = s.fc.inclLimit then s else _) = _
  split
  · rename_i same
    rw [same]
  · rfl

/-- The twist is beyond its limit (R60). -/
def State.twisted (s : State) : Bool := s.par .twistLimit < magnitude (s.value .twist)

theorem twistLimitWatch_eq (s : State) : twistLimitWatch s =
    tellChange Source.twistLimit s.fc.twistLimit s.twisted { s with fc := { s.fc with twistLimit := s.twisted } } := by
  unfold twistLimitWatch tellChange
  dsimp only
  change (if s.twisted = s.fc.twistLimit then s else _) = _
  split
  · rename_i same
    rw [same]
  · rfl

/-- The soft-density mark and the feed limit that follows it (R179). -/
def softWatch (v : Int) (s : State) : State :=
  let soft : Bool := s.par .softLimit < v
  if soft = s.sr.softMark then s else recomputeFeedLimit { s with sr := { s.sr with softMark := soft } }

/-- The density watch is the soft mark and then the told condition RETURN_HEAVY (R179). -/
theorem densityWatch_eq (v : Int) (s : State) : densityWatch v s =
    tellChange Source.returnHeavy (softWatch v s).sr.returnHeavy (s.par .hardLimit < v)
      { softWatch v s with sr := { (softWatch v s).sr with returnHeavy := s.par .hardLimit < v } } := by
  change (let u := softWatch v s
    if decide (s.par .hardLimit < v) = u.sr.returnHeavy then u
    else condition Source.returnHeavy (s.par .hardLimit < v)
      { u with sr := { u.sr with returnHeavy := s.par .hardLimit < v } }) = _
  generalize softWatch v s = u
  unfold tellChange
  dsimp only
  split
  · rename_i same
    rw [same]
  · rfl

/-- SENSOR_STALE is stored as it stands, and its own source alone follows (R51). -/
theorem sensorStaleWatch_fields (s : State) :
    (sensorStaleWatch s).fc = { s.fc with sensorStale := s.sensorStaleNow } ∧ (sensorStaleWatch s).mp = s.mp ∧
      (sensorStaleWatch s).sl = s.sl ∧
      ∀ j, j ≠ Source.sensorStale → (sensorStaleWatch s).source j = s.source j := by
  rw [sensorStaleWatch_eq]
  refine ⟨?_, ?_, ?_, fun j other => ?_⟩
  · rw [(tellChange_keeps _ _ _ _).2.2.2.2.1]
  · exact (tellChange_mode (by decide) _ _ _).1
  · exact (tellChange_mode (by decide) _ _ _).2
  · exact tellChange_source other _ _ _

theorem twistLimitWatch_fields (s : State) :
    (twistLimitWatch s).fc = { s.fc with twistLimit := s.twisted } ∧ (twistLimitWatch s).mp = s.mp ∧
      ∀ j, j ≠ Source.twistLimit → (twistLimitWatch s).source j = s.source j := by
  rw [twistLimitWatch_eq]
  refine ⟨?_, ?_, fun j other => ?_⟩
  · rw [(tellChange_keeps _ _ _ _).2.2.2.2.1]
  · exact (tellChange_mode (by decide) _ _ _).1
  · exact tellChange_source other _ _ _

/-! ### The derivation of a slope (R55 to R60) -/

/-- The hand-off of a newly derived slope to DI, and the SLOPE cause (R33, R66). -/
def State.derived (a : Axis) (s : State) : State :=
  let v := s.derivedSlope a
  slopeCause (slopeHandOff a ⟨v.slope, v.case, v.clamped, v.disagreeing⟩ (s.putSlope a v))

theorem derive_eq (a : Axis) (s : State) : derive a s = inclLimitWatch (disagreeWatch (s.derived a)) := rfl

/-- The slope is unavailable on at least one axis (R33, R57). -/
def State.slopeless (s : State) : Bool := s.fc.slopes.x.case == .none || s.fc.slopes.y.case == .none

theorem State.derived_fields (a : Axis) (s : State) :
    (s.derived a).fc = { s.fc with slopes := s.fc.slopes.set a (s.derivedSlope a) } ∧
      (s.derived a).mp = { s.mp with holdCauses := { s.mp.holdCauses with slope := (s.derived a).slopeless } } ∧
      (s.derived a).reports = s.reports ∧ (s.derived a).sl = s.sl ∧ (s.derived a).tu = s.tu ∧ (s.derived a).params = s.params := by
  simp [State.derived, slopeCause, State.slopeless]

/-- FC after a derivation: the slope of the axis, and the two conditions that follow the slopes (R55 to R60). -/
theorem derive_fc (a : Axis) (s : State) : (derive a s).fc =
    { (s.derived a).fc with inclDisagree := (s.derived a).stillDisagrees, inclLimit := (s.derived a).tilted } := by
  rw [derive_eq, inclLimitWatch_eq, (tellChange_keeps _ _ _ _).2.2.2.2.1, disagreeWatch_eq]
  generalize s.derived a = u
  unfold State.tilted State.par
  rw [(tellChange_keeps _ _ _ _).2.2.2.2.1, (tellChange_keeps _ _ _ _).2.1]

theorem derive_mp (a : Axis) (s : State) : (derive a s).mp = (s.derived a).mp := by
  rw [derive_eq, inclLimitWatch_eq, (tellChange_mode (by decide) _ _ _).1]
  rw [disagreeWatch_eq, (tellChange_mode (by decide) _ _ _).1]

theorem derive_sl (a : Axis) (s : State) : (derive a s).sl = s.sl := by
  rw [derive_eq, inclLimitWatch_eq, (tellChange_mode (by decide) _ _ _).2]
  rw [disagreeWatch_eq, (tellChange_mode (by decide) _ _ _).2]
  exact (s.derived_fields a).2.2.2.1

theorem derive_di (a : Axis) (s : State) : (derive a s).di = (s.derived a).di := by
  rw [derive_eq, (inclLimitWatch_keeps _).2.2.2.2.1, (disagreeWatch_keeps _).2.2.2.2.1]

/-- A derivation concerns the two sources of the inclination alone (R59, R60). -/
theorem derive_source (a : Axis) {j : Source} (limit : j ≠ Source.inclLimit) (disagree : j ≠ Source.inclDisagree) (s : State) :
    (derive a s).source j = s.source j := by
  rw [derive_eq, inclLimitWatch_eq, tellChange_source limit]
  change (disagreeWatch (s.derived a)).source j = _
  rw [disagreeWatch_eq, tellChange_source disagree]
  change (s.derived a).tu.sources.get j = s.tu.sources.get j
  rw [(s.derived_fields a).2.2.2.2.1]

/-- The slopes that FC holds once those of the other axis stand as they did (R55). -/
theorem derive_slopes (a : Axis) (s : State) :
    (derive a s).fc.slopes = s.fc.slopes.set a (s.derivedSlope a) ∧ (derive a s).fc.channels = s.fc.channels := by
  rw [derive_fc, (s.derived_fields a).1]
  exact ⟨rfl, rfl⟩

theorem PerAxis.get_set {α : Type} (p : PerAxis α) (a b : Axis) (v : α) :
    (p.set a v).get b = if b = a then v else p.get b := by
  cases a <;> cases b <;> rfl

/-! ### The report of a channel (R50) -/

/-- A report of a channel changes FC only where a slope is derived (R50). -/
theorem channelReport_fc (c : Channel) (s : State) : (channelReport c s).fc =
    match c with
    | .incl _ a => (derive a s).fc
    | _ => s.fc := by
  unfold channelReport
  cases c with
  | incl m a => rfl
  | retDens => rfl
  | _ => dsimp only; split <;> simp

/-- A report of a channel reaches MP only with the DEPTH and the SLOPE cause (R33, R50). -/
theorem channelReport_mp (c : Channel) (s : State) : (channelReport c s).mp =
    match c with
    | .incl _ a => (derive a s).mp
    | .depth => { s.mp with holdCauses := { s.mp.holdCauses with depth := !s.fresh .depth } }
    | _ => s.mp := by
  unfold channelReport
  cases c with
  | incl m a => rfl
  | retDens => rfl
  | _ => dsimp only; split <;> simp

/-- A report of a channel concerns the two sources of the inclination alone (R50, R59, R60). -/
theorem channelReport_source (c : Channel) {j : Source} (limit : j ≠ Source.inclLimit) (disagree : j ≠ Source.inclDisagree)
    (s : State) : (channelReport c s).source j = s.source j := by
  unfold channelReport
  cases c with
  | incl m a => exact derive_source a limit disagree s
  | retDens => rfl
  | _ => dsimp only; split <;> simp [State.source]

theorem channelReport_channels (c : Channel) (s : State) : (channelReport c s).fc.channels = s.fc.channels := by
  rw [channelReport_fc]
  cases c with
  | incl m a => exact (derive_slopes a s).2
  | _ => rfl

/-- What a channel reads depends on the channel table alone. -/
theorem State.chan_congr {s t : State} (h : t.fc.channels = s.fc.channels) : t.chan = s.chan := by
  funext c
  unfold State.chan
  rw [h]

theorem State.fresh_congr {s t : State} (h : t.fc.channels = s.fc.channels) : t.fresh = s.fresh := by
  funext c
  unfold State.fresh
  rw [State.chan_congr h]

theorem State.slopeCase_congr {s t : State} (h : t.fc.channels = s.fc.channels) : t.slopeCase = s.slopeCase := by
  funext a
  unfold State.slopeCase
  rw [State.fresh_congr h]

end Sys2Proof.Machine
end

section
/-! The mode and the HOLD causes (O58): each act keeps cutting to an OPEN panel and a CLEAR emergency source, and AUTO and
HOLD told apart by the causes; between the judgement of a channel and its report the causes owe what the report will set. -/

namespace Sys2Proof.Machine

/-! ### The parts of the invariant -/

/-- MANUAL, AUTO and HOLD need an OPEN panel and a CLEAR emergency source (R31, R32, R37, R42). -/
def State.CutsSafely (s : State) : Prop :=
  s.mp.mode = .manual ∨ s.mp.mode = .auto ∨ s.mp.mode = .hold →
    s.mp.panel = .opened ∧ s.source Source.emergency = .clear

/-- AUTO has no HOLD cause, HOLD has one (R34). -/
def State.HeldByCauses (s : State) : Prop :=
  (s.mp.mode = .auto → s.mp.holdCauses.present = false) ∧ (s.mp.mode = .hold → s.mp.holdCauses.present = true)

/-- The HOLD causes follow, but for what the reports of the channels `l` will set (R33, R50, R55). -/
def State.CausesOwe (l : List Channel) (s : State) : Prop :=
  s.mp.holdCauses.link = s.li.linkTimer.isNone ∧ (Channel.depth ∉ l → s.mp.holdCauses.depth = !s.fresh .depth) ∧
    s.mp.holdCauses.slope = s.slopeless ∧
    ∀ a, (∀ m, Channel.incl m a ∉ l) → (s.fc.slopes.get a).case = s.slopeCase a

theorem State.causesOwe_nil (s : State) : s.CausesOwe [] ↔ s.CausesFollow := by
  unfold State.CausesOwe State.CausesFollow
  simp [State.slopeless]

/-- What every event keeps of the modes. -/
structure State.ModesKept (s : State) : Prop where
  cuts : s.CutsSafely
  held : s.HeldByCauses
  causes : s.CausesFollow

theorem State.modesKept_iff (s : State) : s.ModesKept ↔ s.ModeAllowed ∧ s.CausesFollow :=
  ⟨fun h => ⟨⟨h.cuts, h.held⟩, h.causes⟩, fun ⟨⟨cuts, held⟩, causes⟩ => ⟨cuts, held, causes⟩⟩

theorem State.CutsSafely.congr {s t : State} (h : s.CutsSafely) (mode : t.mp.mode = s.mp.mode)
    (panel : t.mp.panel = s.mp.panel) (source : t.source Source.emergency = s.source Source.emergency) : t.CutsSafely := by
  unfold State.CutsSafely at h ⊢
  rw [mode, panel, source]
  exact h

theorem State.CausesOwe.congr {l : List Channel} {s t : State} (h : s.CausesOwe l)
    (causes : t.mp.holdCauses = s.mp.holdCauses) (link : t.li.linkTimer = s.li.linkTimer)
    (channels : t.fc.channels = s.fc.channels) (slopes : t.fc.slopes = s.fc.slopes) : t.CausesOwe l := by
  unfold State.CausesOwe State.slopeless at h ⊢
  rw [causes, link, slopes, State.fresh_congr channels, State.slopeCase_congr channels]
  exact h

/-- The parts of the state on which the modes and the causes rest are the same. -/
structure State.SameModes (s t : State) : Prop where
  mp : t.mp = s.mp := by rfl
  link : t.li.linkTimer = s.li.linkTimer := by rfl
  channels : t.fc.channels = s.fc.channels := by rfl
  slopes : t.fc.slopes = s.fc.slopes := by rfl
  source : t.source Source.emergency = s.source Source.emergency := by rfl

theorem State.SameModes.cuts {s t : State} (same : s.SameModes t) (h : s.CutsSafely) : t.CutsSafely :=
  h.congr (congrArg ModePanel.mode same.mp) (congrArg ModePanel.panel same.mp) same.source

theorem State.SameModes.owe {l : List Channel} {s t : State} (same : s.SameModes t) (h : s.CausesOwe l) : t.CausesOwe l :=
  h.congr (congrArg ModePanel.holdCauses same.mp) same.link same.channels same.slopes

theorem State.ModesKept.of_same {s t : State} (h : s.ModesKept) (same : s.SameModes t) : t.ModesKept := by
  refine ⟨same.cuts h.cuts, ?_, t.causesOwe_nil.1 (same.owe (s.causesOwe_nil.2 h.causes))⟩
  unfold State.HeldByCauses
  rw [same.mp]
  exact h.held

/-- An act that leaves MP, LI, FC and TU as they are (the frames of Laws/Frames). -/
theorem State.SameModes.of_blocks {s t : State} (mp : t.mp = s.mp) (li : t.li = s.li) (fc : t.fc = s.fc) (tu : t.tu = s.tu) :
    s.SameModes t :=
  ⟨mp, by rw [li], by rw [fc], by rw [fc], by unfold State.source; rw [tu]⟩

/-! ### Changes of mode -/

/-- A mode that may stand with its panel, source and causes is entered safely (R31 to R34). -/
theorem changeMode_kept {m : Mode} {s : State} (causes : s.CausesFollow)
    (cuts : m = .manual ∨ m = .auto ∨ m = .hold → s.mp.panel = .opened ∧ s.source Source.emergency = .clear)
    (auto : m = .auto → s.mp.holdCauses.present = false) (hold : m = .hold → s.mp.holdCauses.present = true) :
    (changeMode m s).ModesKept := by
  have entered : ({ s with mp := { s.mp with mode := m } } : State).ModesKept := ⟨cuts, ⟨auto, hold⟩, causes⟩
  exact entered.of_same ⟨changeMode_mp m s, by simp, by simp, by simp, by simp [State.source]⟩

theorem changeMode_standby_kept {s : State} (causes : s.CausesFollow) : (changeMode .standby s).ModesKept :=
  changeMode_kept causes (by simp) (by simp) (by simp)

theorem State.testedMode_cuts (s : State) : (s.testedMode = .manual ∨ s.testedMode = .auto ∨ s.testedMode = .hold) ↔
    (s.mp.mode = .manual ∨ s.mp.mode = .auto ∨ s.mp.mode = .hold) := by
  unfold State.testedMode
  cases s.mp.mode <;> cases s.mp.holdCauses.present <;> simp

theorem State.testedMode_held (s : State) : (s.testedMode = .auto → s.mp.holdCauses.present = false) ∧
    (s.testedMode = .hold → s.mp.holdCauses.present = true) := by
  unfold State.testedMode
  cases s.mp.mode <;> cases s.mp.holdCauses.present <;> simp

/-- MP's test of the causes makes them tell AUTO from HOLD (R34). -/
theorem holdTest_kept {s : State} (cuts : s.CutsSafely) (causes : s.CausesFollow) : (holdTest s).ModesKept := by
  have counted : s.SameModes s.holdCounted := by
    unfold State.holdCounted
    split
    · exact .of_blocks (by simp) (by simp) (by simp) (by simp)
    · exact {}
  rw [holdTest_eq]
  refine changeMode_kept ((State.causesOwe_nil _).1 (counted.owe (s.causesOwe_nil.2 causes))) ?_ ?_ ?_
  · rw [counted.mp, counted.source, s.testedMode_cuts]
    exact cuts
  · rw [counted.mp]
    exact s.testedMode_held.1
  · rw [counted.mp]
    exact s.testedMode_held.2

/-! ### Conditions -/

theorem condition_same {i : Source} (other : i ≠ Source.emergency) (b : Bool) (s : State) : s.SameModes (condition i b s) :=
  ⟨(condition_other other b s).1, by simp, by simp, by simp, by rw [condition_source, if_neg (Ne.symm other)]⟩

theorem tellChange_same {i : Source} (other : i ≠ Source.emergency) (old now : Bool) (s : State) :
    s.SameModes (tellChange i old now s) :=
  ⟨(tellChange_mode other old now s).1, by simp, by simp, by simp, tellChange_source (Ne.symm other) old now s⟩

theorem tellChange_kept {i : Source} (other : i ≠ Source.emergency) (old now : Bool) {s : State} (h : s.ModesKept) :
    (tellChange i old now s).ModesKept := h.of_same (tellChange_same other old now s)

/-- EMERGENCY that becomes present ends the cutting (R37). -/
theorem condition_emergency_kept (b : Bool) {s : State} (h : s.ModesKept) :
    (condition Source.emergency b s).ModesKept := by
  obtain ⟨cuts, held, causes⟩ := h
  have mp := (condition_emergency b s).1
  generalize new : (condition Source.emergency b s) = t at mp
  have source : t.source Source.emergency = (s.source Source.emergency).after b := by
    rw [← new, condition_source, if_pos rfl]
  have owe : t.CausesFollow := by
    rw [← State.causesOwe_nil] at causes ⊢
    exact causes.congr (by rw [mp]) (by rw [← new]; simp) (by rw [← new]; simp) (by rw [← new]; simp)
  by_cases ends : (b = true ∧ s.source Source.emergency ≠ .active) ∧
      (s.mp.mode = .manual ∨ s.mp.mode = .auto ∨ s.mp.mode = .hold)
  · rw [if_pos ends] at mp
    refine ⟨?_, ?_, owe⟩
    · unfold State.CutsSafely
      simp [mp]
    · unfold State.HeldByCauses
      simp [mp]
  · rw [if_neg ends] at mp
    refine ⟨fun cutting => ?_, ?_, owe⟩
    · rw [mp] at cutting ⊢
      obtain ⟨panel, clear⟩ := cuts cutting
      have absent : b = false := by
        cases b with
        | false => rfl
        | true => exact absurd ⟨⟨rfl, by rw [clear]; decide⟩, cutting⟩ ends
      rw [source, clear, absent]
      exact ⟨panel, rfl⟩
    · unfold State.HeldByCauses
      rw [mp]
      exact held

theorem condition_kept (i : Source) (b : Bool) {s : State} (h : s.ModesKept) : (condition i b s).ModesKept := by
  by_cases emergency : i = Source.emergency
  · rw [emergency]
    exact condition_emergency_kept b h
  · exact h.of_same (condition_same emergency b s)

/-! ### Channels -/

/-- A report leaves the cutting as safe as it was (R50). -/
theorem channelReport_cuts (c : Channel) {s : State} (h : s.CutsSafely) : (channelReport c s).CutsSafely := by
  have mp := channelReport_mp c s
  refine h.congr ?_ ?_ (channelReport_source c (by decide) (by decide) s) <;> rw [mp] <;> cases c with
  | incl m a => simp only [derive_mp, (s.derived_fields a).2.1]
  | _ => rfl

/-- A derivation pays what the causes owe for the axis (R33, R55). -/
theorem derive_owe {l : List Channel} {s : State} (m : Mount) (a : Axis) (h : s.CausesOwe (.incl m a :: l)) :
    (derive a s).CausesOwe l := by
  obtain ⟨link, depth, -, case⟩ := h
  obtain ⟨slopes, channels⟩ := derive_slopes a s
  have mp := (derive_mp a s).trans (s.derived_fields a).2.1
  unfold State.CausesOwe State.slopeless
  rw [mp, State.fresh_congr channels, State.slopeCase_congr channels, slopes, (derive_keeps a s).2.2.2.1]
  refine ⟨link, fun other => depth (by simp [other]), ?_, fun b other => ?_⟩
  · unfold State.slopeless
    rw [(s.derived_fields a).1]
  · rw [PerAxis.get_set]
    split
    · rename_i same
      rw [same]
      rfl
    · rename_i differs
      refine case b fun n member => ?_
      rcases List.mem_cons.1 member with same | tail
      · injection same with _ axis
        exact differs axis
      · exact other n tail

/-- The report of a channel pays what the causes owe for it (R33, R50). -/
theorem channelReport_owe {l : List Channel} {c : Channel} {s : State} (h : s.CausesOwe (c :: l)) :
    (channelReport c s).CausesOwe l := by
  have fc := channelReport_fc c s
  have mp := channelReport_mp c s
  have li : (channelReport c s).li.linkTimer = s.li.linkTimer := by simp
  cases c with
  | incl m a => exact derive_owe m a h
  | depth =>
    obtain ⟨link, -, slope, case⟩ := h
    have kept : s.CausesOwe (.depth :: l) := ⟨link, fun none => absurd (List.mem_cons_self ..) none, slope, fun a other => case a (by simpa using other)⟩
    refine ⟨?_, fun _ => ?_, ?_, fun a other => ?_⟩
    · rw [mp, li]
      exact link
    · rw [mp, State.fresh_congr (congrArg FieldChannels.channels fc)]
    · unfold State.slopeless at slope ⊢
      rw [mp, fc]
      exact slope
    · rw [fc, State.slopeCase_congr (congrArg FieldChannels.channels fc)]
      exact case a (by simpa using other)
  | _ =>
    obtain ⟨link, depth, slope, case⟩ := h
    have owed : s.CausesOwe l := ⟨link, fun other => depth (by simp [other]), slope, fun a other => case a (by simpa using other)⟩
    exact owed.congr (by rw [mp]) li (by rw [fc]) (by rw [fc])

/-- The report of every channel that has changed pays all that the causes owe (R49, R50). -/
theorem channelReports_owe : ∀ (l : List Channel) {s : State}, s.CausesOwe l →
    (l.foldl (fun u c => channelReport c u) s).CausesFollow
  | [], s, h => s.causesOwe_nil.1 h
  | _ :: l, _, h => channelReports_owe l (channelReport_owe h)

theorem channelReports_cuts (l : List Channel) {s : State} (h : s.CutsSafely) :
    (l.foldl (fun u c => channelReport c u) s).CutsSafely :=
  foldl_preserves State.CutsSafely _ (fun _ _ h => channelReport_cuts _ h) l s h

theorem sensorStaleWatch_kept {s : State} (h : s.ModesKept) : (sensorStaleWatch s).ModesKept := by
  obtain ⟨fc, mp, -, source⟩ := sensorStaleWatch_fields s
  exact h.of_same ⟨mp, by simp, by rw [fc], by rw [fc], source _ (by decide)⟩

/-- The reports of the channels that change, with MP's one test of the causes (R34, R50, R51). -/
theorem channelsChange_kept {l : List Channel} {s : State} (cuts : s.CutsSafely) (owe : s.CausesOwe l) :
    (sensorStaleWatch (holdTest (l.foldl (fun u c => channelReport c u) s))).ModesKept :=
  sensorStaleWatch_kept (holdTest_kept (channelReports_cuts l cuts) (channelReports_owe l owe))

/-- Only channels whose freshness differs are owed a report (R33, R55). -/
theorem State.CausesFollow.owe {s t : State} (h : s.CausesFollow) {l : List Channel}
    (differ : ∀ c, c ∉ l → t.fresh c = s.fresh c) (mp : t.mp = s.mp) (link : t.li.linkTimer = s.li.linkTimer)
    (slopes : t.fc.slopes = s.fc.slopes) : t.CausesOwe l := by
  obtain ⟨linkCause, depth, slope, case⟩ := h
  unfold State.CausesOwe State.slopeless State.slopeCase
  rw [mp, link, slopes]
  refine ⟨linkCause, fun other => ?_, slope, fun a other => ?_⟩
  · rw [differ _ other]
    exact depth
  · rw [differ _ (other .upper), differ _ (other .lower)]
    exact case a

/-! ### Arrivals -/

theorem seen_kept {c : Channel} {v : Int} {s : State} (present : (s.chan c).state ≠ .absent) (h : s.ModesKept) :
    (s.seen c v).ModesKept := by
  refine ⟨h.cuts.congr rfl rfl rfl, h.held, (State.causesOwe_nil _).1 (h.causes.owe (fun d _ => ?_) rfl rfl rfl)⟩
  simp [State.seen_fresh, present]

theorem forceStale_kept {s : State} (h : s.ModesKept) : (forceStale s).ModesKept := by
  have entry : ∀ c, c ≠ .depth → ∀ e, (s.setChan .depth e).fresh c = s.fresh c := fun c other e => by
    unfold State.fresh
    rw [State.chan_setChan_other _ _ _ _ (Ne.symm other)]
  unfold forceStale
  dsimp only
  split
  · exact channelsChange_kept (l := [.depth]) (h.cuts.congr rfl rfl rfl)
      (h.causes.owe (fun c other => entry c (by simpa using other) _) rfl rfl rfl)
  · rename_i stale
    refine ⟨h.cuts.congr rfl rfl rfl, h.held, (State.causesOwe_nil _).1 (h.causes.owe (fun c _ => ?_) rfl rfl rfl)⟩
    by_cases depth : c = .depth
    · subst depth
      change (((s.setChan .depth _).chan .depth).state == _) = ((s.chan .depth).state == _)
      rw [State.chan_setChan_same]
      cases state : (s.chan .depth).state with
      | fresh => exact absurd state stale
      | _ => rfl
    · exact entry c depth _

theorem rejectDepth_kept {s : State} (h : s.ModesKept) : (rejectDepth s).ModesKept := by
  have counted : (s.count 5).ModesKept := h.of_same (.of_blocks (by simp) (by simp) (by simp) (by simp))
  unfold rejectDepth
  dsimp only
  generalize s.count 5 = u at counted
  split
  · exact counted.of_same {}
  · exact forceStale_kept counted

theorem acceptDepth_kept (d raw : Int) (recovery : Bool) {s : State} (h : s.ModesKept) :
    (acceptDepth d raw recovery s).ModesKept := by
  refine h.of_same ⟨by simp, by simp, ?_, ?_, by simp [State.source]⟩ <;>
    · unfold acceptDepth
      rw [(depthEvent_keeps _ _ _).2.2.2.2.1]

theorem depthArrival_kept (v : Int) {s : State} (h : s.ModesKept) : (depthArrival v s).ModesKept := by
  unfold depthArrival
  dsimp only
  split
  · exact rejectDepth_kept h
  · split
    · exact acceptDepth_kept _ _ _ h
    · split
      · split
        · exact acceptDepth_kept _ _ _ h
        · exact h
      · split
        · exact rejectDepth_kept h
        · exact acceptDepth_kept _ _ _ h

theorem blockageWatch_kept {s : State} (h : s.ModesKept) : (blockageWatch s).ModesKept := by
  unfold blockageWatch
  split
  · split
    · split
      · exact h
      · exact h.of_same {}
    · dsimp only
      split
      · exact condition_kept _ _ (h.of_same {})
      · exact h.of_same {}
  · exact h

theorem softWatch_same (v : Int) (s : State) : s.SameModes (softWatch v s) := by
  unfold softWatch
  dsimp only
  split <;> exact {}

theorem densityWatch_kept (v : Int) {s : State} (h : s.ModesKept) : (densityWatch v s).ModesKept := by
  rw [densityWatch_eq]
  have marked := h.of_same (softWatch_same v s)
  generalize softWatch v s = u at marked
  exact tellChange_kept (by decide) _ _ (marked.of_same {})

theorem derive_kept (a : Axis) {s : State} (h : s.ModesKept) : (holdTest (derive a s)).ModesKept := by
  obtain ⟨cuts, -, link, depth, slope, case⟩ := h
  have owe : s.CausesOwe [.incl .upper a] := ⟨link, fun _ => depth, slope, fun b _ => case b⟩
  exact holdTest_kept (channelReport_cuts (.incl .upper a) cuts) ((State.causesOwe_nil _).1 (derive_owe .upper a owe))

/-- The users of a value leave the modes as they should be (R34, R48). -/
theorem passValue_kept (c : Channel) (v : Int) {s : State} (h : s.ModesKept) : (passValue c v s).ModesKept := by
  have quiet : ∀ {u t : State}, u.ModesKept → t.mp = u.mp → t.li = u.li → t.fc = u.fc → t.tu = u.tu → t.ModesKept :=
    fun kept mp li fc tu => kept.of_same (.of_blocks mp li fc tu)
  cases c with
  | incl m a => exact derive_kept a h
  | twist =>
    obtain ⟨fc, mp, source⟩ := twistLimitWatch_fields s
    refine h.of_same (t := twistLimitWatch s) ⟨mp, by simp, ?_, ?_, source _ (by decide)⟩ <;> rw [fc]
  | depth => exact depthArrival_kept v h
  | speed w => exact quiet (t := gatherSpeed w v (speedArrival w v s)) h (by simp) (by simp) (by simp) (by simp)
  | press w => exact quiet (t := gatherPress w v (pressArrival w s)) h (by simp) (by simp) (by simp) (by simp)
  | plate p => exact quiet (t := plateArrival p s) h (by simp) (by simp) (by simp) (by simp)
  | pumpPress => exact blockageWatch_kept h
  | retFlow =>
    have watched := blockageWatch_kept h
    generalize made : blockageWatch s = u at watched
    refine quiet (t := passValue .retFlow v s) watched ?_ ?_ ?_ ?_ <;>
      simp [passValue, made]
  | retDens => exact quiet (t := passValue .retDens v s) (densityWatch_kept v h) (by simp [passValue]) (by simp [passValue]) (by simp [passValue]) (by simp [passValue])

theorem arrival_kept (c : Channel) (v : Int) {s : State} (h : s.ModesKept) : (arrival c v s).ModesKept := by
  rw [arrival_seen]
  refine passValue_kept c v ?_
  split
  · refine channelsChange_kept (l := [c]) (h.cuts.congr rfl rfl rfl) (h.causes.owe (fun d other => ?_) rfl rfl rfl)
    simp [State.seen_fresh, show d ≠ c by simpa using other]
  · exact seen_kept ‹_› h

/-! ### Window ends -/

/-- Judging leaves of FC all but the channel table (R49). -/
theorem judgeAll_fc (s : State) : ∃ channels, (judgeAll s).fc = { s.fc with channels := channels } := by
  have judged : ∀ (l : List Channel) (u : State), ∃ channels,
      (l.foldl (fun t c => t.setChan c ((t.chan c).judged c.threshold)) u).fc = { u.fc with channels := channels } := by
    intro l
    induction l with
    | nil => exact fun u => ⟨u.fc.channels, rfl⟩
    | cons c l ih =>
      intro u
      obtain ⟨channels, fc⟩ := ih (u.setChan c ((u.chan c).judged c.threshold))
      exact ⟨channels, fc⟩
  unfold judgeAll
  exact judged Channel.all s

/-- The next window starts at once (R49). -/
def State.nextWindow (s : State) : State :=
  { s with fc := { s.fc with
      windowTimer := ⟨s.fc.windowTimer.start + BitVec.ofNat 32 Config.windowPeriod, Config.windowPeriod⟩ } }

/-- The channels whose state the judgement changes, in the order of the table (R49, R50). -/
def State.changedBy (s t : State) : List Channel := Channel.all.filter fun c => (s.chan c).state != (t.chan c).state

theorem windowEnd_eq (s : State) : windowEnd s = sensorStaleWatch (holdTest
    ((s.changedBy (judgeAll s.nextWindow)).foldl (fun u c => channelReport c u) (judgeAll s.nextWindow))) := rfl

theorem State.mem_changedBy {s t : State} {c : Channel} : c ∈ s.changedBy t ↔ (s.chan c).state ≠ (t.chan c).state := by
  simp [State.changedBy, Channel.mem_all]

theorem windowEnd_kept {s : State} (h : s.ModesKept) : (windowEnd s).ModesKept := by
  rw [windowEnd_eq]
  have slopes : (judgeAll s.nextWindow).fc.slopes = s.fc.slopes := by
    obtain ⟨channels, fc⟩ := judgeAll_fc s.nextWindow
    rw [fc]
    simp only [State.nextWindow]
  have mp : (judgeAll s.nextWindow).mp = s.mp := by simp [State.nextWindow]
  have li : (judgeAll s.nextWindow).li = s.li := by simp [State.nextWindow]
  have tu : (judgeAll s.nextWindow).tu = s.tu := by simp [State.nextWindow]
  generalize judgeAll s.nextWindow = t at *
  refine channelsChange_kept (h.cuts.congr (by rw [mp]) (by rw [mp]) (congrArg (fun x => x.sources.get Source.emergency) tu))
    (h.causes.owe (fun c other => ?_) mp (by rw [li]) slopes)
  have same : (s.chan c).state = (t.chan c).state := not_not.1 fun differ => other (State.mem_changedBy.2 differ)
  unfold State.fresh
  rw [same]

/-! ### The link -/

/-- The LINK cause set as the link-silence timer stands, and MP's test (R19, R33, R34). -/
theorem setLinkCause_kept {b : Bool} {s u : State} (h : s.ModesKept) (mp : u.mp = s.mp)
    (source : u.source Source.emergency = s.source Source.emergency) (fc : u.fc = s.fc)
    (link : u.li.linkTimer.isNone = b) : (holdTest (setLinkCause b u)).ModesKept := by
  obtain ⟨cuts, -, -, depth, slope, case⟩ := h
  have still : u.CutsSafely := cuts.congr (congrArg ModePanel.mode mp) (congrArg ModePanel.panel mp) source
  refine holdTest_kept (still.congr rfl rfl rfl) ⟨link.symm, ?_, ?_, fun a => ?_⟩
  · change u.mp.holdCauses.depth = !u.fresh .depth
    rw [mp, State.fresh_congr (congrArg FieldChannels.channels fc)]
    exact depth
  · change u.mp.holdCauses.slope = u.slopeless
    unfold State.slopeless
    rw [mp, fc]
    exact slope
  · change (u.fc.slopes.get a).case = u.slopeCase a
    rw [fc, State.slopeCase_congr (congrArg FieldChannels.channels fc)]
    exact case a

theorem linkSilent_kept {s : State} (h : s.ModesKept) : (linkSilent s).ModesKept := by
  unfold linkSilent
  have told := condition_same (i := Source.linkSilent) (by decide) true (s.putLi { s.li with linkTimer := none })
  refine setLinkCause_kept h told.mp told.source (condition_keeps _ _ _).2.2.2.2.1 ?_
  rw [told.link]
  rfl

theorem linkHeard_kept {s : State} (h : s.ModesKept) : (linkHeard s).ModesKept := by
  unfold linkHeard
  dsimp only
  generalize s.timer (s.par .linkSilenceTime) = timer
  split
  · have told := condition_same (i := Source.linkSilent) (by decide) false (s.putLi { s.li with linkTimer := some timer })
    refine setLinkCause_kept h told.mp told.source (condition_keeps _ _ _).2.2.2.2.1 ?_
    rw [told.link]
    rfl
  · rename_i heard
    obtain ⟨cuts, held, link, depth, slope, case⟩ := h
    refine ⟨cuts, held, ?_, depth, slope, case⟩
    change s.mp.holdCauses.link = false
    rw [link]
    exact Bool.eq_false_iff.2 heard

/-! ### The other acts -/

theorem passInput_kept (i : InputId) {s : State} (h : s.ModesKept) : (passInput i s).ModesKept := by
  unfold passInput reportInput
  refine condition_kept _ _ (h.of_same ?_)
  generalize ({ s.input i with filtered := (s.input i).raw, timer := none } : DiscreteInput) = v
  refine ⟨by simp, by simp, ?_, ?_, by simp [State.source]⟩ <;> cases i <;> rfl

theorem putInput_same (i : InputId) (v : DiscreteInput) (s : State) : s.SameModes (s.putInput i v) := by
  refine ⟨by simp, by simp, ?_, ?_, by simp [State.source]⟩ <;> cases i <;> rfl

theorem inputChange_kept (i : InputId) (l : Level) {s : State} (h : s.ModesKept) : (inputChange i l s).ModesKept := by
  have put : ∀ (u : State) (v : DiscreteInput), u.ModesKept → (u.putInput i v).ModesKept :=
    fun u v k => k.of_same (putInput_same i v u)
  unfold inputChange
  dsimp only
  split
  · exact h
  · split
    · exact put _ _ (put _ _ h)
    · split
      · exact put _ _ h
      · split
        · exact passInput_kept i (put _ _ h)
        · exact put _ _ (put _ _ h)

theorem endStart_kept {s : State} (h : s.ModesKept) : (endStart s).ModesKept := by
  unfold endStart
  exact sensorStaleWatch_kept (changeMode_standby_kept (s := s.startOver) h.causes)

theorem disagreementPersists_kept (a : Axis) {s : State} (h : s.ModesKept) : (disagreementPersists a s).ModesKept := by
  have marked : (s.putSlope a { s.fc.slopes.get a with timer := none, persistent := true }).ModesKept := by
    obtain ⟨cuts, held, link, depth, slope, case⟩ := h
    have cases : ∀ b, ((s.fc.slopes.set a { s.fc.slopes.get a with timer := none, persistent := true }).get b).case =
        (s.fc.slopes.get b).case := fun b => by
      rw [PerAxis.get_set]
      split
      · rename_i same
        rw [same]
      · rfl
    refine ⟨cuts, held, link, depth, ?_, fun b => (cases b).trans (case b)⟩
    exact slope.trans (congrArg₂ (fun x y => x == SlopeCase.none || y == SlopeCase.none) (cases .x).symm (cases .y).symm)
  unfold disagreementPersists
  dsimp only
  generalize s.putSlope a { s.fc.slopes.get a with timer := none, persistent := true } = u at marked
  split
  · exact marked
  · exact condition_kept _ _ (marked.of_same {})

theorem blockagePresent_kept {s : State} (h : s.ModesKept) : (blockagePresent s).ModesKept := by
  have told : (condition Source.returnBlocked true
      { s with sr := { s.sr with blockTimer := none, returnBlocked := true } }).ModesKept :=
    condition_kept _ _ (h.of_same {})
  unfold blockagePresent
  dsimp only
  generalize condition Source.returnBlocked true
      { s with sr := { s.sr with blockTimer := none, returnBlocked := true } } = u at told
  split
  · exact told.of_same (.of_blocks (by simp) (by simp) (by simp) (by simp))
  · exact told

/-- MODE_SET enters MANUAL and AUTO where they may stand, and HOLD for AUTO with a cause (R36). -/
theorem modeSet_kept (m : Mode) {s : State} (h : s.ModesKept) : (modeSet m s).1.ModesKept := by
  have counted : (s.count 17).ModesKept := h.of_same (.of_blocks (by simp) (by simp) (by simp) (by simp))
  have manual : s.manualAllowed = true → s.mp.panel = .opened ∧ s.source Source.emergency = .clear := fun allowed => by
    simpa [State.manualAllowed, and_comm] using allowed
  unfold modeSet
  refine Acts.chosen (P := State.ModesKept) (fun _ => h) fun _ => Acts.chosen (P := State.ModesKept) (fun _ => h) fun _ =>
    Acts.chosen (P := State.ModesKept) (fun _ => h) fun _ => ?_
  split
  · refine Acts.chosen (P := State.ModesKept) (fun allowed => ?_) fun _ => h
    exact changeMode_kept h.causes (fun _ => manual allowed) (by simp) (by simp)
  · refine Acts.chosen (P := State.ModesKept) (fun allowed => ?_) fun _ => h
    have cuts : s.mp.panel = .opened ∧ s.source Source.emergency = .clear := by
      unfold State.autoAllowed at allowed
      simp only [Bool.and_eq_true] at allowed
      obtain ⟨⟨⟨basic, -⟩, -⟩, -⟩ := allowed
      exact manual basic
    dsimp only [done]
    split
    · rename_i present
      have mp : (s.count 17).mp = s.mp := by simp
      have source : (s.count 17).source Source.emergency = s.source Source.emergency := by simp [State.source]
      exact changeMode_kept counted.causes (fun _ => by rw [mp, source]; exact cuts) (by simp) fun _ => by rw [mp]; exact present
    · rename_i absent
      exact changeMode_kept h.causes (fun _ => cuts) (fun _ => by simpa using absent) (by simp)
  all_goals exact changeMode_standby_kept h.causes

theorem openPanel_kept (n : Nat) (a i : Int) {s : State} (mode : s.mp.mode = .standby) (h : s.ModesKept) :
    (openPanel n a i s).ModesKept := by
  obtain ⟨-, fc, -, -, -, tu, mp, -⟩ := openPanel_keeps n a i s
  rw [(s.panelOpened_fields n a i).1] at mp
  have li : (openPanel n a i s).li = s.li := by simp [openPanel, resetOpenAtDepth]
  generalize openPanel n a i s = t at *
  refine ⟨?_, ?_, (State.causesOwe_nil t).1 (((State.causesOwe_nil s).2 h.causes).congr (by rw [mp]) (by rw [li]) (by rw [fc]) (by rw [fc]))⟩
  · unfold State.CutsSafely
    simp [mp, mode]
  · unfold State.HeldByCauses
    simp [mp, mode]

theorem shutPanel_kept {s : State} (h : s.ModesKept) : (shutPanel s).ModesKept := by
  obtain ⟨-, -, li, fc, -⟩ := s.shut_keeps
  obtain ⟨mp, -⟩ := s.shut_fields
  have causes : s.shut.CausesFollow := (State.causesOwe_nil _).1
    (((State.causesOwe_nil s).2 h.causes).congr (by rw [mp]) (by rw [li]) (by rw [fc]) (by rw [fc]))
  unfold shutPanel emergencyStandby
  generalize s.shut = u at causes
  split <;> rename_i now
  case h_4 | h_5 =>
    refine ⟨?_, ?_, causes⟩
    · unfold State.CutsSafely
      simp [now]
    · unfold State.HeldByCauses
      simp [now]
  all_goals exact changeMode_standby_kept causes

theorem setSource_clear_kept (i : Source) {s : State} (h : s.ModesKept) : (setSource i .clear s).ModesKept := by
  have mp : (setSource i .clear s).mp = s.mp := by simp
  refine ⟨fun cutting => ?_, ?_, (State.causesOwe_nil _).1 (((State.causesOwe_nil s).2 h.causes).congr (by rw [mp]) (by simp) (by simp) (by simp))⟩
  · rw [mp] at cutting ⊢
    obtain ⟨panel, clear⟩ := h.cuts cutting
    refine ⟨panel, ?_⟩
    rw [setSource_source]
    split
    · rfl
    · exact clear
  · unfold State.HeldByCauses
    rw [mp]
    exact h.held

theorem tripForce_kept (on : Bool) {s : State} (h : s.ModesKept) : (tripForce on s).ModesKept := by
  unfold tripForce
  split
  · exact h
  · exact condition_kept _ _ (h.of_same {})

theorem modesActs : Acts State.ModesKept where
  line _ timer h := h.of_same ⟨rfl, timer, rfl, rfl, rfl⟩
  scratch _ _ h := h.of_same {}
  counters _ h := h.of_same {}
  plans _ _ _ h := h.of_same {}
  falls := linkSilent_kept
  hears := linkHeard_kept
  arrives _ _ := arrival_kept _ _
  starts _ := endStart_kept
  judges := windowEnd_kept
  inputs i l := inputChange_kept i l
  filters i := passInput_kept i
  persists a := disagreementPersists_kept a
  fails _ h := h.of_same (.of_blocks (by simp) (by simp) (by simp) (by simp))
  reverses _ h := h.of_same (.of_blocks (by simp) (by simp) (by simp) (by simp))
  blocked := blockagePresent_kept
  flushed h := h.of_same (.of_blocks (by simp) (by simp) (by simp) (by simp))
  stores p v h := h.of_same (.of_blocks (by simp [storeParameter]) (by simp [storeParameter]) (by simp [storeParameter])
    (by simp [storeParameter]))
  modes m := modeSet_kept m
  opens _ _ _ := openPanel_kept _ _ _
  shuts _ := shutPanel_kept
  zeroes raw _ _ _ _ _ h := h.of_same ⟨by simp, by simp, by rw [(zeroDepth_fields _ _ _ _ _).1],
    by rw [(zeroDepth_fields _ _ _ _ _).1], by simp [State.source]⟩
  sets _ _ _ _ _ h := h.of_same (.of_blocks (by simp) (by simp) (by simp) (by simp))
  clears {s w} _ h := condition_kept _ _ (h.of_same (t := wheelClear w s) (.of_blocks (by simp) (by simp) (by simp) (by simp)))
  pumps v _ h := h.of_same (.of_blocks (by simp) (by simp) (by simp) (by simp))
  flushes _ h := h.of_same (.of_blocks (by simp) (by simp) (by simp) (by simp))
  moves _ _ _ h := h.of_same (.of_blocks (by simp) (by simp) (by simp) (by simp))
  mends _ h := h.of_same {}
  unlatches _ := setSource_clear_kept _
  forces on := tripForce_kept on
  maps _ _ h := h.of_same ⟨by simp, by simp, by simp, by simp, by simp [State.source]⟩

/-! ### Power-on and restart -/

theorem reportInputs_kept {s : State} (h : s.ModesKept) : (reportInputs s).ModesKept :=
  condition_kept _ _ (condition_kept _ _ (condition_kept _ _ h))

theorem finish_kept {s : State} (h : s.ModesKept) : (finish s).ModesKept := by
  have taken := modesActs.takes h
  unfold finish
  generalize takeReports s = u at taken
  exact taken.of_same (.of_blocks (by simp) (by simp) (by simp) (by simp))

/-- START with the causes of power-on (R33, R43, R45). -/
structure State.Started (s : State) : Prop where
  mode : s.mp.mode = .start
  causes : s.mp.holdCauses = ⟨false, true, true⟩
  link : s.li.linkTimer.isNone = false
  absent : ∀ c, (s.chan c).state = .absent
  slopes : ∀ a, (s.fc.slopes.get a).case = .none

theorem State.Started.kept {s : State} (h : s.Started) : s.ModesKept := by
  obtain ⟨mode, causes, link, absent, slopes⟩ := h
  have fresh : ∀ c, s.fresh c = false := fun c => by
    unfold State.fresh
    rw [absent]
    rfl
  refine ⟨?_, ?_, ?_, ?_, ?_, fun a => ?_⟩
  · unfold State.CutsSafely
    simp [mode]
  · unfold State.HeldByCauses
    simp [mode]
  · rw [causes, link]
  · rw [causes, fresh]
    rfl
  · rw [causes]
    have x := slopes .x
    rw [show s.fc.slopes.x.case = _ from x]
    rfl
  · rw [slopes]
    unfold State.slopeCase
    rw [fresh, fresh]

theorem initial_kept (e g o : Level) : (State.initial e g o).ModesKept := by
  refine State.Started.kept ⟨rfl, rfl, rfl, fun c => ?_, fun a => ?_⟩
  · unfold State.chan
    simp [State.initial, FieldChannels.initial, ChannelEntry.initial, Vector.get_eq_getElem]
  · cases a <;> rfl

theorem reborn_kept (k : Bool) (s : State) : (s.reborn k).ModesKept := by
  have base : (restartState s).ModesKept := by
    obtain ⟨c, shape⟩ := restartState_shape s
    rw [shape]
    exact (initial_kept s.fc.emergencyIn.raw s.fc.gearPressLow.raw s.fc.oilHot.raw).of_same {}
  cases k with
  | false => exact base
  | true =>
    obtain ⟨-, -, causes⟩ := base
    obtain ⟨mp, li, fc, tu⟩ := reborn_keepLog s
    refine State.Started.kept ⟨by rw [mp]; rfl, by rw [mp]; rfl, by rw [li]; rfl, fun c => ?_, fun a => ?_⟩
    · unfold State.chan
      rw [fc]
      simp [FieldChannels.initial, ChannelEntry.initial, Vector.get_eq_getElem]
    · rw [fc]
      cases a <;> rfl

theorem modesKept : Kept State.ModesKept where
  toActs := modesActs
  begins _ h := h.of_same {}
  sends h := h.of_same (.of_blocks (by simp) (by simp) (by simp) (by simp))
  stalls _ h := h.of_same (.of_blocks (by simp) (by simp) (by simp) (by simp))
  pauses {s w} _ h := by
    unfold pauseEnd
    split
    · exact h.of_same (.of_blocks (by simp) (by simp) (by simp) (by simp))
    · exact condition_kept _ _ (h.of_same (.of_blocks (by simp) (by simp) (by simp) (by simp)))
  powers e g o _ := finish_kept (reportInputs_kept ((initial_kept e g o).of_same {}))
  restarts k _ := finish_kept (reportInputs_kept (reborn_kept k _))

end Sys2Proof.Machine

open Sys2Proof Sys2Proof.Machine in
/-- Settles O58: every command keeps the modes, `modesKept`. -/
theorem modesFollow : Obligations.ModesFollow := by
  unfold Obligations.ModesFollow
  intro kept s t h run
  have start := (s.modesKept_iff).2 h
  exact t.modesKept_iff.1 (modesKept.step (fun _ h => h.of_same {}) start run)

end

section
/-! SUPPORT. What the operations of SR, WD, TU and MP leave of the cutter copy (R190) and of the header of the panel. -/

namespace Sys2Proof.Machine

@[simp] theorem recomputePump_cutter (s : State) : (recomputePump s).sr.cutter = s.sr.cutter := by
  rw [recomputePump_sr]

@[simp] theorem refreshPump_cutter (s : State) : (refreshPump s).sr.cutter = s.sr.cutter := by simp [refreshPump]

@[simp] theorem recomputePermit_cutter (s : State) : (recomputePermit s).sr.cutter = s.sr.cutter := rfl

@[simp] theorem recomputeFeedLimit_cutter (s : State) : (recomputeFeedLimit s).sr.cutter = s.sr.cutter := rfl

@[simp] theorem recomputeRequired_cutter (s : State) : (recomputeRequired s).sr.cutter = s.sr.cutter := rfl

@[simp] theorem feedHandOff_cutter (rate : Int) (s : State) : (feedHandOff rate s).sr.cutter = s.sr.cutter := by
  simp [feedHandOff]

@[simp] theorem slurryEnter_cutter (old : Mode) (s : State) : (slurryEnter old s).sr.cutter = s.sr.cutter := by
  simp only [slurryEnter]
  split <;> simp

@[simp] theorem changeWheel_cutter (w : WheelId) (v : Wheel) (s : State) : (changeWheel w v s).sr.cutter = s.sr.cutter := by
  simp only [changeWheel]
  split <;> simp

@[simp] theorem wheelTripped_cutter (w : WheelId) (s : State) : (wheelTripped w s).sr.cutter = s.sr.cutter := by
  simp only [wheelTripped]
  split <;> simp

@[simp] theorem wheelsEnter_cutter (old : Mode) (s : State) : (wheelsEnter old s).sr.cutter = s.sr.cutter := by
  simp [wheelsEnter]

@[simp] theorem changeMode_cutter (m : Mode) (s : State) : (changeMode m s).sr.cutter = s.sr.cutter := by
  unfold changeMode
  split <;> simp

@[simp] theorem holdTest_cutter (s : State) : (holdTest s).sr.cutter = s.sr.cutter := by
  rw [holdTest_eq, changeMode_cutter]
  unfold State.holdCounted
  split <;> simp

@[simp] theorem emergencyStandby_cutter (s : State) : (emergencyStandby s).sr.cutter = s.sr.cutter := by
  unfold emergencyStandby
  split <;> simp

@[simp] theorem groupReport_cutter (g : Group) (b : Bool) (s : State) : (groupReport g b s).sr.cutter = s.sr.cutter := by
  unfold groupReport
  split <;> simp [pumpTripped, pumpUntripped]

@[simp] theorem recomputeGroups_cutter (s : State) : (recomputeGroups s).sr.cutter = s.sr.cutter := by
  simp only [recomputeGroups]
  refine (foldl_keeps _ (fun u : State => u.sr.cutter) ?_ _ _).trans rfl
  intro b a
  split <;> simp

@[simp] theorem setSource_cutter (i : Source) (st : SourceState) (s : State) :
    (setSource i st s).sr.cutter = s.sr.cutter := by simp [setSource]

@[simp] theorem condition_cutter (i : Source) (b : Bool) (s : State) : (condition i b s).sr.cutter = s.sr.cutter := by
  unfold condition
  split
  · dsimp only
    split <;> simp
  · dsimp only
    split <;> simp
  · simp
  all_goals rfl

/-- Of MP a condition changes the mode alone (R37). -/
theorem condition_mp (i : Source) (b : Bool) (s : State) : ∃ m, (condition i b s).mp = { s.mp with mode := m } := by
  by_cases emergency : i = Source.emergency
  · rw [emergency]
    exact ⟨_, (condition_emergency b s).1⟩
  · exact ⟨s.mp.mode, (condition_other emergency b s).1⟩

@[simp] theorem tellChange_cutter (i : Source) (old now : Bool) (s : State) :
    (tellChange i old now s).sr.cutter = s.sr.cutter := by
  unfold tellChange
  split <;> simp

@[simp] theorem sensorStaleWatch_cutter (s : State) : (sensorStaleWatch s).sr.cutter = s.sr.cutter := by
  rw [sensorStaleWatch_eq, tellChange_cutter]

@[simp] theorem twistLimitWatch_cutter (s : State) : (twistLimitWatch s).sr.cutter = s.sr.cutter := by
  rw [twistLimitWatch_eq, tellChange_cutter]

@[simp] theorem derive_cutter (a : Axis) (s : State) : (derive a s).sr.cutter = s.sr.cutter := by
  rw [derive_eq, inclLimitWatch_eq, tellChange_cutter]
  change (disagreeWatch (s.derived a)).sr.cutter = _
  rw [disagreeWatch_eq, tellChange_cutter]
  simp [State.derived]

@[simp] theorem channelReport_cutter (c : Channel) (s : State) : (channelReport c s).sr.cutter = s.sr.cutter := by
  unfold channelReport
  cases c with
  | incl m a => exact derive_cutter a s
  | retDens => rfl
  | _ => dsimp only; split <;> simp [wheelChannelLeft, blockageSuspend]

@[simp] theorem setRing_cutter (ring : List RingEntry) (s : State) : (setRing ring s).sr.cutter = s.sr.cutter := by
  simp only [setRing]
  split <;> simp

@[simp] theorem updateRing_cutter (d : Int) (s : State) : (updateRing d s).sr.cutter = s.sr.cutter := by
  simp only [updateRing]
  split <;> simp

@[simp] theorem placeLitres_cutter (v : Litres) (n : Nat) (s : State) : (placeLitres v n s).sr.cutter = s.sr.cutter := by
  unfold placeLitres
  split <;> simp

@[simp] theorem testArrivals_cutter (s : State) : (testArrivals s).sr.cutter = s.sr.cutter := by
  simp only [testArrivals]
  refine (foldl_keeps _ (fun u : State => u.sr.cutter) ?_ _ _).trans rfl
  intro b a
  simp

@[simp] theorem pumpedVolume_cutter (f : Int) (s : State) : (pumpedVolume f s).sr.cutter = s.sr.cutter := by
  simp only [pumpedVolume]
  split
  · split <;> simp
  · rfl

@[simp] theorem adjustTrim_cutter (v : Int) (s : State) : (adjustTrim v s).sr.cutter = s.sr.cutter := by
  unfold adjustTrim
  split <;> simp

@[simp] theorem blockageWatch_cutter (s : State) : (blockageWatch s).sr.cutter = s.sr.cutter := by
  unfold blockageWatch
  split
  · split
    · split <;> rfl
    · dsimp only
      split <;> simp
  · rfl

@[simp] theorem densityWatch_cutter (v : Int) (s : State) : (densityWatch v s).sr.cutter = s.sr.cutter := by
  rw [densityWatch_eq, tellChange_cutter]
  unfold softWatch
  dsimp only
  split <;> rfl

@[simp] theorem densitySample_cutter (v : Int) (s : State) : (densitySample v s).sr.cutter = s.sr.cutter := by
  unfold densitySample
  split
  · split <;> rfl
  · rfl

@[simp] theorem emptyLine_cutter (s : State) : (emptyLine s).sr.cutter = s.sr.cutter := by simp [emptyLine]

@[simp] theorem startBackflush_cutter (s : State) : (startBackflush s).sr.cutter = s.sr.cutter := by
  simp [startBackflush]

@[simp] theorem endBackflush_cutter (s : State) : (endBackflush s).sr.cutter = s.sr.cutter := by
  simp [endBackflush]

@[simp] theorem parameterStored_cutter (p : ParamId) (old : Int) (s : State) :
    (parameterStored p old s).sr.cutter = s.sr.cutter := by
  unfold parameterStored
  split
  case h_3 => split <;> simp
  all_goals simp

@[simp] theorem announceWheel_cutter (w : WheelId) (s : State) : (announceWheel w s).sr.cutter = s.sr.cutter := by simp

@[simp] theorem sendRecords_cutter (s : State) : (sendRecords s).sr.cutter = s.sr.cutter :=
  (congrArg (fun b : Blocks => b.sr.cutter) (sendRecords_blocks s) :)

end Sys2Proof.Machine
end

section
/-! The path and the stations (O55): the open record and SR's copy stand at the station of the integrated depth, with the
pass that the log gives, at every crossing of a boundary and so after every step. -/

namespace Sys2Proof.Machine

/-! ### The invariant -/

/-- Station and pass of the open record. -/
def OpenRecord.place (r : OpenRecord) : Nat × Nat := (r.station, r.pass)

/-- Station and pass of the open record, if there is one. -/
def State.openPlace (s : State) : Option (Nat × Nat) := s.di.openRecord.map OpenRecord.place

/-- The station of the integrated depth while the panel is OPEN (R65). -/
def State.here (s : State) : Option Nat := if s.mp.panel = .opened then stationAt s.di.depth s.mp.interval else none

/-- A station with the pass that the log gives it (R81). -/
def State.placeOf (s : State) (k : Nat) : Nat × Nat := (k, passFor s.di.log k)

/-- What DI keeps of the path, the log and the stations, at the end of a step and before its hand-offs too. -/
structure State.StationsStand (s : State) : Prop where
  depth : s.DepthInRange
  path : s.PathInRange
  log : Log.wf s.di.log = true
  empty : s.di.closure = false → s.di.log = []
  record : s.openPlace = s.here.map s.placeOf
  interval : 100 ≤ s.mp.interval ∧ s.mp.interval ≤ 2000

/-- What every event keeps: SR's copy stands as well (R190). -/
structure State.StationsKept (s : State) : Prop extends s.StationsStand where
  cutter : s.sr.cutter = s.here.map fun k => ⟨k, passFor s.di.log k, s.di.depth⟩

theorem State.stationsKept_iff (s : State) :
    s.StationsKept ↔ s.DepthInRange ∧ s.PathInRange ∧ s.LogKept ∧ s.StationFollows := by
  constructor
  · intro ⟨⟨depth, path, log, empty, record, low, high⟩, cutter⟩
    refine ⟨depth, path, ⟨log, empty, fun r opened => ?_⟩, ?_, ?_, low, high⟩
    · unfold State.openPlace at record
      rw [opened] at record
      cases here : s.here with
      | none => simp [here] at record
      | some k =>
        rw [here] at record
        simp only [Option.map_some, Option.some.injEq, OpenRecord.place, State.placeOf, Prod.mk.injEq] at record
        rw [record.1]
        exact record.2
    · have stations := congrArg (Option.map Prod.fst) record
      simpa [State.openPlace, Option.map_map, Function.comp_def, OpenRecord.place, State.placeOf, State.here] using stations
    · have copies := congrArg (Option.map fun p => CutterCopy.mk p.1 p.2 s.di.depth) record
      rw [cutter]
      simpa [State.openPlace, Option.map_map, Function.comp_def, OpenRecord.place, State.placeOf] using copies.symm
  · intro ⟨depth, path, ⟨log, empty, pass⟩, station, copy, interval⟩
    have record : s.openPlace = s.here.map s.placeOf := by
      rw [State.here, ← station]
      unfold State.openPlace
      cases opened : s.di.openRecord with
      | none => rfl
      | some r =>
        simp only [Option.map_some, OpenRecord.place, State.placeOf]
        rw [pass r opened]
    refine ⟨⟨depth, path, log, empty, record, interval⟩, ?_⟩
    have copies := congrArg (Option.map fun p => CutterCopy.mk p.1 p.2 s.di.depth) record
    rw [copy]
    simpa [State.openPlace, Option.map_map, Function.comp_def, OpenRecord.place, State.placeOf] using copies

/-- The parts of the state on which the invariant rests are the same. -/
structure State.SameStations (s t : State) : Prop where
  depth : t.di.depth = s.di.depth := by rfl
  path : t.di.path = s.di.path := by rfl
  log : t.di.log = s.di.log := by rfl
  closure : t.di.closure = s.di.closure := by rfl
  record : t.openPlace = s.openPlace := by rfl
  panel : t.mp.panel = s.mp.panel := by rfl
  interval : t.mp.interval = s.mp.interval := by rfl
  cutter : t.sr.cutter = s.sr.cutter := by rfl
  last : t.fc.lastAccepted = s.fc.lastAccepted := by rfl
  accepted : t.fc.accepted = s.fc.accepted := by rfl

theorem State.SameStations.here {s t : State} (same : s.SameStations t) : t.here = s.here := by
  unfold State.here
  rw [same.panel, same.depth, same.interval]

theorem State.SameStations.placeOf {s t : State} (same : s.SameStations t) : t.placeOf = s.placeOf := by
  unfold State.placeOf
  rw [same.log]

theorem State.StationsStand.of_same {s t : State} (h : s.StationsStand) (same : s.SameStations t) : t.StationsStand := by
  obtain ⟨depth, path, log, empty, record, interval⟩ := h
  refine ⟨?_, ?_, ?_, ?_, ?_, ?_⟩
  · unfold State.DepthInRange at depth ⊢
    rw [same.depth, same.last, same.accepted]
    exact depth
  · unfold State.PathInRange at path ⊢
    rw [same.path]
    exact path
  · rw [same.log]
    exact log
  · rw [same.closure, same.log]
    exact empty
  · rw [same.record, same.here, same.placeOf]
    exact record
  · rw [same.interval]
    exact interval

theorem State.StationsKept.of_same {s t : State} (h : s.StationsKept) (same : s.SameStations t) : t.StationsKept := by
  refine ⟨h.toStationsStand.of_same same, ?_⟩
  rw [same.cutter, same.here, same.log, same.depth]
  exact h.cutter

/-- An act that leaves DI, the header, the cutter copy and FC as they are. -/
theorem State.SameStations.of_blocks {s t : State} (di : t.di = s.di) (mp : t.mp = s.mp) (cutter : t.sr.cutter = s.sr.cutter)
    (fc : t.fc = s.fc) : s.SameStations t :=
  ⟨by rw [di], by rw [di], by rw [di], by rw [di], by unfold State.openPlace; rw [di], by rw [mp], by rw [mp], cutter,
    by rw [fc], by rw [fc]⟩

/-- An act that leaves DI, the panel, the cutter copy and FC as they are, and may change the mode. -/
theorem State.SameStations.of_mode {s t : State} (di : t.di = s.di) (mp : ∃ m, t.mp = { s.mp with mode := m })
    (cutter : t.sr.cutter = s.sr.cutter) (fc : t.fc = s.fc) : s.SameStations t := by
  obtain ⟨m, mp⟩ := mp
  exact ⟨by rw [di], by rw [di], by rw [di], by rw [di], by unfold State.openPlace; rw [di], by rw [mp], by rw [mp],
    cutter, by rw [fc], by rw [fc]⟩

theorem State.SameStations.trans {s t u : State} (h : s.SameStations t) (k : t.SameStations u) : s.SameStations u :=
  ⟨k.depth.trans h.depth, k.path.trans h.path, k.log.trans h.log, k.closure.trans h.closure, k.record.trans h.record,
    k.panel.trans h.panel, k.interval.trans h.interval, k.cutter.trans h.cutter, k.last.trans h.last,
    k.accepted.trans h.accepted⟩

/-- A change of the open record that keeps its station and pass (R80 to R84). -/
theorem changeOpen_stations {f : OpenRecord → OpenRecord} (places : ∀ r, (f r).place = r.place) (s : State) :
    s.SameStations (changeOpen f s) := by
  have record : (changeOpen f s).openPlace = s.openPlace := by
    unfold State.openPlace changeOpen setOpen
    cases s.di.openRecord with
    | none => rfl
    | some r => exact congrArg some (places r)
  exact ⟨rfl, rfl, rfl, rfl, record, rfl, rfl, rfl, rfl, rfl⟩

/-! ### Pieces (R69, R76) -/

theorem AxisPath.piece_inRange {p : AxisPath} (slope delta : Int) : (p.piece slope delta).InRange := by
  have range : Config.offsetLimit = 2000000 := rfl
  have residue : 0 ≤ keptRemainder (slope * delta + p.residue) 100 ∧ keptRemainder (slope * delta + p.residue) 100 ≤ 99 := by
    unfold keptRemainder
    omega
  unfold AxisPath.piece AxisPath.InRange
  dsimp only
  split
  · simp [range]
  · split
    · simp [range]
    · rename_i low high
      exact ⟨not_lt.1 low, not_lt.1 high, residue⟩

theorem integrateTo_path {d : Int} {s : State} (h : s.PathInRange) : (integrateTo d s).PathInRange := by
  unfold integrateTo
  split
  · exact h
  · exact ⟨AxisPath.piece_inRange _ _, AxisPath.piece_inRange _ _⟩

/-- A piece changes of DI the depth and the path alone (R69). -/
theorem integrateTo_di (d : Int) (s : State) : ∃ path, (integrateTo d s).di = { s.di with depth := d, path := path } := by
  unfold integrateTo
  split
  · rename_i same
    exact ⟨s.di.path, by rw [same]⟩
  · exact ⟨_, rfl⟩

/-! ### Crossings (R71 to R74) -/

/-- The pass of a record is within its range whatever the log (R81). -/
theorem passFor_range (log : List StationRecord) (k : Nat) : 1 ≤ passFor log k ∧ passFor log k ≤ 255 := by
  unfold passFor
  split <;> omega

/-- What the crossings keep: the path in range, the log with its form and its mark, the open pass in range. -/
structure State.Crosses (s : State) : Prop where
  path : s.PathInRange
  log : Log.wf s.di.log = true
  empty : s.di.closure = false → s.di.log = []
  pass : ∀ r, s.di.openRecord = some r → 1 ≤ r.pass ∧ r.pass ≤ 255

/-- The open record is that of station `k`, or there is none below 0. -/
def State.OpenAt (s : State) (k : Int) : Prop := s.openPlace = if 0 ≤ k then some (s.placeOf k.toNat) else none

theorem integrateTo_crosses {d : Int} {s : State} (h : s.Crosses) : (integrateTo d s).Crosses := by
  obtain ⟨path, di⟩ := integrateTo_di d s
  refine ⟨integrateTo_path h.path, ?_, ?_, ?_⟩ <;> rw [di]
  · exact h.log
  · exact h.empty
  · exact h.pass

theorem enterStation_openAt (k : Int) (s : State) : (enterStation k s).OpenAt k := by
  unfold State.OpenAt State.openPlace enterStation setOpen
  by_cases low : 0 ≤ k
  · rw [if_pos low, if_pos low]
    rfl
  · rw [if_neg low, if_neg low]
    rfl

theorem enterStation_crosses (k : Int) {s : State} (h : s.Crosses) : (enterStation k s).Crosses := by
  refine ⟨h.path, h.log, h.empty, fun r opened => ?_⟩
  change (if 0 ≤ k then some (s.freshRecord k.toNat) else none) = some r at opened
  split at opened
  · injection opened with made
    rw [← made]
    exact passFor_range s.di.log k.toNat
  · cases opened

theorem closeStation_crosses (k b : Int) (recovery : Bool) {s : State} (h : s.Crosses) :
    (closeStation k b recovery s).Crosses := by
  unfold closeStation
  split
  · rename_i r opened
    split
    · have fits : ∀ index ≤ Config.logTop, (s.closingRecord r index b recovery).fits :=
        fun index low => ⟨low, h.pass r opened⟩
      unfold writeRecord
      dsimp only
      split
      · rename_i low
        exact ⟨h.path, Log.store_wf h.log (fits _ low), fun no => (by cases no), h.pass⟩
      · have counted : ∀ u : State, u.Crosses → (u.count 7).Crosses := fun u k => by
          obtain ⟨c, shape⟩ := u.count_shape 7
          rw [shape]
          exact ⟨k.path, k.log, k.empty, k.pass⟩
        rename_i high
        refine counted _ ⟨h.path, h.log, fun no => (by cases no), h.pass⟩
    · exact h
  · exact h

theorem crossDown_crosses (recovery : Bool) (b : Int) {s : State} (h : s.Crosses) : (crossDown recovery s b).Crosses :=
  enterStation_crosses _ (closeStation_crosses _ _ _ (integrateTo_crosses h))

theorem crossUp_crosses (b : Int) {s : State} (h : s.Crosses) : (crossUp s b).Crosses :=
  enterStation_crosses _ (integrateTo_crosses h)

/-- The crossings of a run of boundaries end in the station of the last one; without any the station stays (R71). -/
theorem crossings_openAt {cross : State → Int → State} {s : State} (station boundary : Nat → Int)
    (mp : ∀ u b, (cross u b).mp = u.mp)
    (enters : ∀ (i : Nat) (u : State), u.mp = s.mp → (cross u (boundary i)).OpenAt (station (i + 1)))
    (h : s.OpenAt (station 0)) : ∀ n : Nat, (((List.range n).map boundary).foldl cross s).OpenAt (station n)
  | 0 => h
  | n + 1 => by
    rw [List.range_succ, List.map_append, List.foldl_append]
    exact enters n _ (foldl_keeps cross State.mp mp _ _)

theorem integrateTo_openAt {d k : Int} {s : State} (h : s.OpenAt k) : (integrateTo d s).OpenAt k := by
  obtain ⟨path, di⟩ := integrateTo_di d s
  unfold State.OpenAt State.openPlace State.placeOf at h ⊢
  rw [di]
  exact h

theorem floorDiv_boundary {i : Int} (pos : 0 < i) (q : Int) : floorDiv (q * i) i = q :=
  Int.mul_ediv_cancel q (Int.ne_of_gt pos)

/-- The boundaries by their numbers (R71). -/
theorem boundariesDown_eq (d0 d1 i : Int) : boundariesDown d0 d1 i =
    (List.range (floorDiv d1 i - floorDiv d0 i).toNat).map fun n : Nat => (floorDiv d0 i + 1 + (n : Int)) * i := by
  simp [boundariesDown, ← List.map_eq_flatMap]

theorem boundariesUp_eq (d0 d1 i : Int) : boundariesUp d0 d1 i =
    (List.range (floorDiv d0 i - floorDiv d1 i).toNat).map fun n : Nat => (floorDiv d0 i - (n : Int)) * i := by
  simp [boundariesUp, ← List.map_eq_flatMap]

/-- The crossings downward end in the station of the depth (R72). -/
theorem crossingsDown_openAt (recovery : Bool) {d0 d i : Int} {s : State} (interval : s.mp.interval = i) (pos : 0 < i)
    (down : d0 ≤ d) (h : s.OpenAt (floorDiv d0 i)) :
    ((boundariesDown d0 d i).foldl (crossDown recovery) s).OpenAt (floorDiv d i) := by
  have order : floorDiv d0 i ≤ floorDiv d i := Int.ediv_le_ediv pos down
  rw [boundariesDown_eq]
  generalize floorDiv d0 i = q0 at *
  generalize floorDiv d i = q at *
  have ends := crossings_openAt (cross := crossDown recovery) (fun n => q0 + (n : Int)) (fun n => (q0 + 1 + (n : Int)) * i)
    (fun u b => by simp) (fun n u mp => ?_) (by simpa using h) (q - q0).toNat
  · have last : q0 + ((q - q0).toNat : Int) = q := by omega
    rw [last] at ends
    exact ends
  · unfold crossDown
    rw [mp, interval, floorDiv_boundary pos, show q0 + ((n + 1 : Nat) : Int) = q0 + 1 + (n : Int) by omega]
    exact enterStation_openAt _ _

/-- The crossings upward end in the station of the depth (R73). -/
theorem crossingsUp_openAt {d0 d i : Int} {s : State} (interval : s.mp.interval = i) (pos : 0 < i) (up : d ≤ d0)
    (h : s.OpenAt (floorDiv d0 i)) : ((boundariesUp d0 d i).foldl crossUp s).OpenAt (floorDiv d i) := by
  have order : floorDiv d i ≤ floorDiv d0 i := Int.ediv_le_ediv pos up
  rw [boundariesUp_eq]
  generalize floorDiv d0 i = q0 at *
  generalize floorDiv d i = q at *
  have ends := crossings_openAt (cross := crossUp) (fun n => q0 - (n : Int)) (fun n => (q0 - (n : Int)) * i)
    (fun u b => by simp) (fun n u mp => ?_) (by simpa using h) (q0 - q).toNat
  · have last : q0 - ((q0 - q).toNat : Int) = q := by omega
    rw [last] at ends
    exact ends
  · unfold crossUp
    rw [mp, interval, floorDiv_boundary pos, show q0 - ((n + 1 : Nat) : Int) = q0 - (n : Int) - 1 by omega]
    exact enterStation_openAt _ _

/-- A step ends in the station of the depth it goes to (R69 to R73). -/
theorem takeStep_openAt {d : Int} (recovery : Bool) {s : State} (pos : 0 < s.mp.interval)
    (h : s.OpenAt (floorDiv s.di.depth s.mp.interval)) :
    (takeStep d recovery s).OpenAt (floorDiv d s.mp.interval) := by
  unfold takeStep
  dsimp only
  refine integrateTo_openAt ?_
  split
  · rename_i down
    exact crossingsDown_openAt recovery rfl pos down h
  · rename_i up
    exact crossingsUp_openAt rfl pos (by omega) h

theorem takeStep_crosses (d : Int) (recovery : Bool) {s : State} (h : s.Crosses) : (takeStep d recovery s).Crosses := by
  unfold takeStep
  dsimp only
  refine integrateTo_crosses ?_
  split
  · exact foldl_preserves State.Crosses _ (fun _ b k => crossDown_crosses recovery b k) _ _ h
  · exact foldl_preserves State.Crosses _ (fun _ b k => crossUp_crosses b k) _ _ h

theorem takeStep_depth (d : Int) (recovery : Bool) (s : State) : (takeStep d recovery s).di.depth = d := by
  unfold takeStep
  dsimp only
  obtain ⟨path, di⟩ := integrateTo_di d (if s.di.depth ≤ d then (boundariesDown s.di.depth d s.mp.interval).foldl (crossDown recovery) s
    else (boundariesUp s.di.depth d s.mp.interval).foldl crossUp s)
  rw [di]

/-- A station's number is that of the depth, from 0 down (R65). -/
theorem openAt_iff {d : Int} {s : State} (pos : 0 < s.mp.interval) : s.OpenAt (floorDiv d s.mp.interval) ↔
    s.openPlace = (stationAt d s.mp.interval).map s.placeOf := by
  have low : 0 ≤ floorDiv d s.mp.interval ↔ 0 ≤ d := Int.ediv_nonneg_iff_of_pos pos
  unfold State.OpenAt stationAt
  simp only [low]
  split <;> rfl

/-! ### Accepted depths (R67 to R75) -/

theorem updateRing_di (d : Int) (s : State) :
    ∃ ring rate, (updateRing d s).di = { s.di with ring := ring, feedRate := rate } := by
  unfold updateRing setRing
  dsimp only
  split
  · exact ⟨s.di.ring, s.di.feedRate, rfl⟩
  · split
    · exact ⟨_, _, rfl⟩
    · exact ⟨ringAfter s.di.ring s.runTime d, ringRate (ringAfter s.di.ring s.runTime d), by simp⟩

theorem updateRing_stations (d : Int) (s : State) : s.SameStations (updateRing d s) := by
  obtain ⟨ring, rate, di⟩ := updateRing_di d s
  have place : (updateRing d s).openPlace = s.openPlace := by
    unfold State.openPlace
    rw [di]
  exact ⟨by rw [di], by rw [di], by rw [di], by rw [di], place, by simp, by simp, by simp, by simp, by simp⟩

theorem emptyRing_stations (s : State) : s.SameStations (emptyRing s) := by
  have di := emptyRing_di s
  have place : (emptyRing s).openPlace = s.openPlace := by
    unfold State.openPlace
    rw [di]
  exact ⟨by rw [di], by rw [di], by rw [di], by rw [di], place, by simp, by simp, setRing_cutter [] s, by simp, by simp⟩

theorem reportDepth_stations (before : Int) (s : State) : s.SameStations (reportDepth before s) := by
  refine .of_blocks (by simp) (by simp) ?_ (by simp)
  unfold reportDepth
  split <;> rfl

theorem markRecovery_stations (recovery : Bool) (s : State) : s.SameStations (markRecovery recovery s) := by
  unfold markRecovery
  split
  · exact changeOpen_stations (f := fun r => { r with recovery := true }) (fun _ => rfl) s
  · exact {}

/-- The stations as they stand are handed to SR and SL (R75, R190). -/
theorem depthHandOff_stations (before : Int) {s : State} (h : s.StationsStand) : (depthHandOff before s).StationsKept := by
  have told := h.of_same (reportDepth_stations before s)
  unfold depthHandOff
  generalize reportDepth before s = u at told
  have copied : (cutterHandOff u).StationsKept := by
    refine ⟨⟨told.depth, told.path, told.log, told.empty, told.record, told.interval⟩, ?_⟩
    change (u.di.openRecord.map fun r => CutterCopy.mk r.station r.pass u.di.depth) =
      u.here.map fun k => CutterCopy.mk k (passFor u.di.log k) u.di.depth
    have copies := congrArg (Option.map fun p => CutterCopy.mk p.1 p.2 u.di.depth) told.record
    simpa [State.openPlace, Option.map_map, Function.comp_def, OpenRecord.place, State.placeOf] using copies
  exact copied.of_same (.of_blocks (by simp) (by simp) (by simp) (by simp))

theorem anchor_stand {d : Int} {s : State} (h : s.StationsStand) (opened : s.mp.panel = .opened) (range : depthAllowed d) :
    (anchor d s).StationsStand := by
  refine ⟨⟨range, h.depth.2⟩, h.path, h.log, h.empty, ?_, h.interval⟩
  have here : (anchor d s).here = stationAt d s.mp.interval := if_pos opened
  rw [here]
  unfold State.openPlace anchor resetOpenAtDepth setOpen
  rw [Option.map_map]
  rfl

theorem takeStep_stand {d : Int} (recovery : Bool) {s : State} (h : s.StationsStand) (opened : s.mp.panel = .opened)
    (range : depthAllowed d) : (takeStep d recovery s).StationsStand := by
  have pos : 0 < s.mp.interval := by
    have := h.interval
    omega
  have here : s.here = stationAt s.di.depth s.mp.interval := if_pos opened
  have record := h.record
  rw [here] at record
  have crosses : s.Crosses := by
    refine ⟨h.path, h.log, h.empty, fun r isOpen => ?_⟩
    unfold State.openPlace at record
    rw [isOpen] at record
    cases at_ : stationAt s.di.depth s.mp.interval with
    | none => simp [at_] at record
    | some k =>
      simp only [at_, Option.map_some, Option.some.injEq, OpenRecord.place, State.placeOf, Prod.mk.injEq] at record
      rw [record.2]
      exact passFor_range _ _
  have stands := takeStep_openAt (d := d) recovery pos ((openAt_iff pos).2 record)
  have kept := takeStep_crosses d recovery crosses
  have depth := takeStep_depth d recovery s
  obtain ⟨-, -, -, mp, fc, -⟩ := takeStep_keeps d recovery s
  generalize takeStep d recovery s = t at *
  rw [← mp] at stands pos opened
  refine ⟨⟨?_, ?_⟩, kept.path, kept.log, kept.empty, ?_, ?_⟩
  · rw [depth]
    exact range
  · rw [fc]
    exact h.depth.2
  · rw [State.here, if_pos opened, depth]
    exact (openAt_iff pos).1 stands
  · rw [mp]
    exact h.interval

/-- A depth while the panel is not OPEN is copied; there is no station (R67). -/
theorem copied_kept {d : Int} {s : State} (h : s.StationsKept) (closed : s.mp.panel ≠ .opened) (range : depthAllowed d) :
    ({ s with di := { s.di with depth := d } } : State).StationsKept := by
  have before : s.here = none := if_neg closed
  have after : ({ s with di := { s.di with depth := d } } : State).here = none := if_neg closed
  refine ⟨⟨⟨range, h.depth.2⟩, h.path, h.log, h.empty, ?_, h.interval⟩, ?_⟩
  · rw [after]
    exact h.record.trans (by rw [before]; rfl)
  · rw [after]
    exact h.cutter.trans (by rw [before]; rfl)

theorem depthEvent_stations {d : Int} (recovery : Bool) {s : State} (h : s.StationsKept) (range : depthAllowed d) :
    (depthEvent d recovery s).StationsKept := by
  have emptied : (if recovery = true then emptyRing s else s).StationsKept := by
    split
    · exact h.of_same (emptyRing_stations s)
    · exact h
  unfold depthEvent
  dsimp only
  generalize (if recovery = true then emptyRing s else s) = u at emptied
  split
  · rename_i closed
    exact ((copied_kept emptied closed range).of_same (updateRing_stations _ _)).of_same (reportDepth_stations _ _)
  · rename_i isOpen
    have opened : u.mp.panel = .opened := not_not.1 isOpen
    split
    · exact emptied.of_same (updateRing_stations _ _)
    · split
      · have stepped := takeStep_stand recovery emptied.toStationsStand opened range
        generalize takeStep d recovery u = w at stepped
        exact depthHandOff_stations _ ((stepped.of_same (markRecovery_stations recovery w)).of_same (updateRing_stations _ _))
      · exact depthHandOff_stations _ ((anchor_stand emptied.toStationsStand opened range).of_same (updateRing_stations _ _))

theorem acceptDepth_stations {d : Int} (raw : Int) (recovery : Bool) {s : State} (h : s.StationsKept)
    (range : depthAllowed d) : (acceptDepth d raw recovery s).StationsKept := by
  refine depthEvent_stations recovery ⟨⟨⟨h.depth.1, fun e last => ?_, fun _ none => ?_⟩, h.path, h.log, h.empty, h.record, h.interval⟩, h.cutter⟩ range
  · cases last
    exact range
  · cases none

/-! ### Conditions, modes and channels -/

theorem condition_stations (i : Source) (b : Bool) (s : State) : s.SameStations (condition i b s) :=
  .of_mode (by simp) (condition_mp i b s) (by simp) (by simp)

theorem tellChange_stations (i : Source) (old now : Bool) (s : State) : s.SameStations (tellChange i old now s) := by
  unfold tellChange
  split
  · exact .of_blocks rfl rfl rfl rfl
  · exact condition_stations i now s

theorem changeMode_stations (m : Mode) (s : State) : s.SameStations (changeMode m s) :=
  .of_mode (by simp) ⟨m, changeMode_mp m s⟩ (by simp) (by simp)

theorem holdTest_stations (s : State) : s.SameStations (holdTest s) :=
  .of_mode (by simp) ⟨_, holdTest_mp s⟩ (by simp) (by simp)

theorem emergencyStandby_stations (s : State) : s.SameStations (emergencyStandby s) :=
  .of_mode (by simp) ⟨_, (emergencyStandby_mode s).1⟩ (by simp) (by simp)

theorem sensorStaleWatch_stations (s : State) : s.SameStations (sensorStaleWatch s) := by
  rw [sensorStaleWatch_eq]
  exact State.SameStations.trans (t := { s with fc := { s.fc with sensorStale := s.sensorStaleNow } })
    {} (tellChange_stations _ _ _ _)

theorem derived_stations (a : Axis) (s : State) : s.SameStations (s.derived a) := by
  unfold State.derived slopeCause slopeHandOff setSlopeCause
  generalize s.derivedSlope a = v
  have marked := changeOpen_stations (f := fun r => { r with flags := r.flags.withSlope ⟨v.slope, v.case, v.clamped, v.disagreeing⟩ })
    (fun _ => rfl) { s.putSlope a v with di := { (s.putSlope a v).di with copies := (s.putSlope a v).di.copies.set a ⟨v.slope, v.case, v.clamped, v.disagreeing⟩ } }
  exact ⟨marked.depth, marked.path, marked.log, marked.closure, marked.record, marked.panel, marked.interval, marked.cutter,
    marked.last, marked.accepted⟩

theorem derive_stations (a : Axis) (s : State) : s.SameStations (derive a s) := by
  have first := derived_stations a s
  rw [derive_eq, inclLimitWatch_eq, disagreeWatch_eq]
  generalize s.derived a = u at first
  have second : u.SameStations (tellChange Source.inclDisagree u.fc.inclDisagree u.stillDisagrees
      { u with fc := { u.fc with inclDisagree := u.stillDisagrees } }) :=
    State.SameStations.trans (t := { u with fc := { u.fc with inclDisagree := u.stillDisagrees } })
      {} (tellChange_stations _ _ _ _)
  generalize tellChange Source.inclDisagree u.fc.inclDisagree u.stillDisagrees
      { u with fc := { u.fc with inclDisagree := u.stillDisagrees } } = w at second
  exact (first.trans second).trans (State.SameStations.trans (t := { w with fc := { w.fc with inclLimit := w.tilted } })
      {} (tellChange_stations _ _ _ _))

theorem channelReport_stations (c : Channel) (s : State) : s.SameStations (channelReport c s) := by
  have mark : ∀ u : State, u.SameStations (markEstimated u) := changeOpen_stations fun _ => rfl
  have same : s.SameStations s := .of_blocks rfl rfl rfl rfl
  unfold channelReport
  cases c with
  | incl m a => exact derive_stations a s
  | retDens => exact same
  | twist =>
    dsimp only
    split
    · exact mark s
    · exact same
  | depth =>
    dsimp only
    split
    · exact State.SameStations.trans (t := setDepthCause (!s.fresh .depth) s)
        {} (mark _)
    · exact {}
  | _ =>
    dsimp only
    split
    · exact .of_blocks (by simp) (by simp) (by simp [wheelChannelLeft, blockageSuspend]) (by simp)
    · exact same

/-- The reports of the channels, MP's test and SENSOR_STALE leave the stations (R49 to R51). -/
theorem channelsChange_stations {l : List Channel} {s : State} (h : s.StationsKept) :
    (sensorStaleWatch (holdTest (l.foldl (fun u c => channelReport c u) s))).StationsKept := by
  have told := foldl_preserves State.StationsKept (fun u c => channelReport c u)
    (fun u c k => k.of_same (channelReport_stations c u)) l s h
  exact (told.of_same (holdTest_stations _)).of_same (sensorStaleWatch_stations _)

theorem forceStale_stations {s : State} (h : s.StationsKept) : (forceStale s).StationsKept := by
  have forced : ∀ e, ({ s.setChan .depth e with fc := { (s.setChan .depth e).fc with recovery := true, rejections := 0 } } : State).StationsKept :=
    fun e => h.of_same {}
  unfold forceStale
  dsimp only
  split
  · exact channelsChange_stations (l := [.depth]) (forced _)
  · exact forced _

theorem depthArrival_stations (v : Int) {s : State} (h : s.StationsKept) : (depthArrival v s).StationsKept := by
  have rejected : (rejectDepth s).StationsKept := by
    have counted : (s.count 5).StationsKept := h.of_same (.of_blocks (by simp) (by simp) (by simp) (by simp))
    unfold rejectDepth
    dsimp only
    generalize s.count 5 = u at counted
    split
    · exact counted.of_same {}
    · exact forceStale_stations counted
  unfold depthArrival
  dsimp only
  split
  · exact rejected
  · rename_i inside
    have range : depthAllowed (v + s.fc.reference) := by
      unfold depthAllowed
      omega
    split
    · exact acceptDepth_stations _ _ h range
    · split
      · split
        · exact acceptDepth_stations _ _ h range
        · exact h
      · split
        · exact rejected
        · exact acceptDepth_stations _ _ h range

/-! ### Attributions (R92 to R94) -/

theorem passFor_weigh {log : List StationRecord} {k : Nat} {r : StationRecord} (found : Log.at log k = some r) (d : Int)
    (v : Nat) : passFor (Log.store log (r.weigh d v)) = passFor log := by
  obtain ⟨-, index⟩ := Log.at_some found
  funext j
  unfold passFor
  rw [Log.at_store, StationRecord.weigh_index, index]
  by_cases same : j = k
  · rw [if_pos same, same, found]
    simp
  · rw [if_neg same]

theorem attribution_stations (k pass : Nat) (d : Int) (v : Nat) {s : State} (h : s.StationsKept) :
    (attribution k pass d v s).StationsKept := by
  have counted : (s.count 10).StationsKept := h.of_same (.of_blocks (by simp) (by simp) (by simp) (by simp))
  unfold attribution
  split
  · exact counted
  · split
    · have accepted := h.of_same (changeOpen_stations (f := fun r => r.accept d v) (fun _ => rfl) s)
      generalize changeOpen (fun r => r.accept d v) s = u at accepted
      exact accepted.of_same {}
    · split
      · rename_i r found
        split
        · obtain ⟨member, -⟩ := Log.at_some found
          have passes := passFor_weigh found d v
          have place : ({ s with di := { s.di with log := Log.store s.di.log (r.weigh d v) } } : State).placeOf = s.placeOf := by
            unfold State.placeOf
            dsimp only
            rw [passes]
          have weighed : ({ s with di := { s.di with log := Log.store s.di.log (r.weigh d v) } } : State).StationsKept := by
            refine ⟨⟨h.depth, h.path, Log.store_wf h.log ?_, fun no => ?_, ?_, h.interval⟩, ?_⟩
            · exact StationRecord.weigh_fits (((Log.wf_iff _).1 h.log).2 r member) d v
            · rw [h.empty no] at member
              cases member
            · rw [place]
              exact h.record
            · dsimp only
              rw [passes]
              exact h.cutter
          exact weighed.of_same {}
        · exact counted
      · exact counted

theorem pumpedVolume_stations (flow : Int) {s : State} (h : s.StationsKept) : (pumpedVolume flow s).StationsKept := by
  have tests : ∀ {u : State}, u.StationsKept → (testArrivals u).StationsKept := fun {u} k => by
    unfold testArrivals
    refine foldl_preserves State.StationsKept _ (fun w p kept => ?_) _ _ (k.of_same {})
    unfold attributeParcel
    split
    · exact kept
    · exact attribution_stations _ _ _ _ kept
  have places : ∀ (v : Litres) (n : Nat) {u : State}, u.StationsKept → (placeLitres v n u).StationsKept := fun v n u k =>
    k.of_same (.of_blocks (by simp) (by simp) (by simp) (by simp))
  unfold pumpedVolume
  dsimp only
  split
  · split
    · exact tests (places _ _ (h.of_same {}))
    · exact h.of_same {}
  · exact h.of_same {}

/-! ### The acts -/

theorem blockageWatch_stations {s : State} (h : s.StationsKept) : (blockageWatch s).StationsKept := by
  unfold blockageWatch
  split
  · split
    · split
      · exact h
      · exact h.of_same {}
    · have cleared : ({ s with sr := { s.sr with blockTimer := none, returnBlocked := false } } : State).StationsKept :=
        h.of_same {}
      dsimp only
      split
      · exact cleared.of_same (condition_stations _ _ _)
      · exact cleared
  · exact h

theorem densityWatch_stations (v : Int) {s : State} (h : s.StationsKept) : (densityWatch v s).StationsKept := by
  have marked : (softWatch v s).StationsKept := by
    unfold softWatch
    dsimp only
    split
    · exact h
    · exact h.of_same {}
  rw [densityWatch_eq]
  generalize softWatch v s = u at marked
  have stored : ({ u with sr := { u.sr with returnHeavy := s.par .hardLimit < v } } : State).StationsKept :=
    marked.of_same {}
  exact stored.of_same (tellChange_stations _ _ _ _)

theorem passValue_stations (c : Channel) (v : Int) {s : State} (h : s.StationsKept) : (passValue c v s).StationsKept := by
  cases c with
  | incl m a => exact (h.of_same (derive_stations a s)).of_same (holdTest_stations _)
  | twist =>
    have same : s.SameStations (twistLimitWatch s) := by
      rw [twistLimitWatch_eq]
      exact State.SameStations.trans (t := { s with fc := { s.fc with twistLimit := s.twisted } })
        {} (tellChange_stations _ _ _ _)
    exact h.of_same same
  | depth => exact depthArrival_stations v h
  | speed w =>
    have driven : (speedArrival w v s).StationsKept := h.of_same (.of_blocks (by simp) (by simp) (by simp [speedArrival]) (by simp))
    exact driven.of_same (changeOpen_stations (f := fun r => { r with speed := r.speed.set w ((r.speed.get w).add v) }) (fun _ => rfl) _)
  | press w =>
    have driven : (pressArrival w s).StationsKept := h.of_same (.of_blocks (by simp) (by simp) (by simp [pressArrival]) (by simp))
    exact driven.of_same (changeOpen_stations (f := fun r => { r with press := r.press.set w ((r.press.get w).add v) }) (fun _ => rfl) _)
  | plate p => exact h.of_same (t := plateArrival p s) (.of_blocks (by simp) (by simp) (by simp) (by simp))
  | pumpPress => exact blockageWatch_stations h
  | retFlow =>
    have watched := blockageWatch_stations h
    change (pumpedVolume v (gatherFlow v (adjustTrim v (blockageWatch s)))).StationsKept
    generalize blockageWatch s = u at watched
    have trimmed : (adjustTrim v u).StationsKept := watched.of_same (.of_blocks (by simp) (by simp) (by simp) (by simp))
    exact pumpedVolume_stations v (trimmed.of_same (changeOpen_stations (f := fun r => { r with flow := r.flow.add v }) (fun _ => rfl) _))
  | retDens =>
    exact (densityWatch_stations v h).of_same (t := densitySample v (densityWatch v s)) (.of_blocks (by simp) (by simp) (by simp) (by simp))

theorem arrival_stations (c : Channel) (v : Int) {s : State} (h : s.StationsKept) : (arrival c v s).StationsKept := by
  have entered : (s.seen c v).StationsKept := h.of_same {}
  rw [arrival_seen]
  refine passValue_stations c v ?_
  split
  · exact channelsChange_stations (l := [c]) entered
  · exact entered

theorem windowEnd_stations {s : State} (h : s.StationsKept) : (windowEnd s).StationsKept := by
  rw [windowEnd_eq]
  obtain ⟨channels, fc⟩ := judgeAll_fc s.nextWindow
  have next : s.SameStations s.nextWindow := by
    unfold State.nextWindow
    generalize s.fc.windowTimer.start + BitVec.ofNat 32 Config.windowPeriod = start
    exact {}
  obtain ⟨-, -, -, -, mp, di, -, -, -, sr, -⟩ := judgeAll_keeps s.nextWindow
  refine channelsChange_stations (h.of_same (next.trans ?_))
  generalize judgeAll s.nextWindow = t at *
  generalize s.nextWindow = u at *
  exact ⟨by rw [di], by rw [di], by rw [di], by rw [di], by unfold State.openPlace; rw [di], by rw [mp], by rw [mp],
    by rw [sr], by rw [fc], by rw [fc]⟩

theorem putInput_stations (i : InputId) (v : DiscreteInput) (s : State) : s.SameStations (s.putInput i v) := by
  cases i <;> exact {}

theorem passInput_stations (i : InputId) (s : State) : s.SameStations (passInput i s) :=
  .trans (putInput_stations i _ s) (condition_stations _ _ _)

theorem inputChange_stations (i : InputId) (l : Level) (s : State) : s.SameStations (inputChange i l s) := by
  unfold inputChange
  dsimp only
  split
  · exact .of_blocks rfl rfl rfl rfl
  · split
    · exact .trans (putInput_stations i _ s) (putInput_stations i _ _)
    · split
      · exact putInput_stations i _ s
      · split
        · exact .trans (putInput_stations i _ s) (passInput_stations i _)
        · exact .trans (putInput_stations i _ s) (putInput_stations i _ _)

theorem disagreementPersists_stations (a : Axis) {s : State} (h : s.StationsKept) : (disagreementPersists a s).StationsKept := by
  have marked : (s.putSlope a { s.fc.slopes.get a with timer := none, persistent := true }).StationsKept :=
    h.of_same {}
  unfold disagreementPersists
  dsimp only
  generalize s.putSlope a { s.fc.slopes.get a with timer := none, persistent := true } = u at marked
  split
  · exact marked
  · have stored : ({ u with fc := { u.fc with inclDisagree := true } } : State).StationsKept :=
      marked.of_same {}
    exact stored.of_same (condition_stations _ _ _)

theorem blockagePresent_stations {s : State} (h : s.StationsKept) : (blockagePresent s).StationsKept := by
  have stored : ({ s with sr := { s.sr with blockTimer := none, returnBlocked := true } } : State).StationsKept :=
    h.of_same {}
  have told := stored.of_same (condition_stations Source.returnBlocked true _)
  unfold blockagePresent
  dsimp only
  generalize condition Source.returnBlocked true
      { s with sr := { s.sr with blockTimer := none, returnBlocked := true } } = u at told
  split
  · exact told.of_same (.of_blocks (by simp) (by simp) (by simp) (by simp))
  · exact told

theorem modeSet_stations (m : Mode) {s : State} (h : s.StationsKept) : (modeSet m s).1.StationsKept := by
  have counted : (s.count 17).StationsKept := h.of_same (.of_blocks (by simp) (by simp) (by simp) (by simp))
  unfold modeSet
  refine Acts.chosen (P := State.StationsKept) (fun _ => h) fun _ => Acts.chosen (P := State.StationsKept) (fun _ => h) fun _ =>
    Acts.chosen (P := State.StationsKept) (fun _ => h) fun _ => ?_
  split
  · exact Acts.chosen (P := State.StationsKept) (fun _ => h.of_same (changeMode_stations _ _)) fun _ => h
  · refine Acts.chosen (P := State.StationsKept) (fun _ => ?_) fun _ => h
    dsimp only [done]
    split
    · exact counted.of_same (changeMode_stations _ _)
    · exact h.of_same (changeMode_stations _ _)
  all_goals exact h.of_same (changeMode_stations _ _)

/-- A path without residue lies in its range if its offset does (R65). -/
theorem AxisPath.inRange_of_offset {o : Int} (low : -Config.offsetLimit ≤ o) (high : o ≤ Config.offsetLimit) (b : Bool) :
    AxisPath.InRange ⟨o, 0, b⟩ := ⟨low, high, Int.le_refl 0, (by decide : (0 : Int) ≤ 99)⟩

theorem AxisPath.inRange_zero : AxisPath.InRange ⟨0, 0, false⟩ := AxisPath.inRange_of_offset (by decide) (by decide) false

theorem openPanel_stations (n : Nat) (a : Int) {i : Int} {s : State} (low : 100 ≤ i) (high : i ≤ 2000)
    (mode : s.mp.mode = .standby) (h : s.StationsKept) : (openPanel n a i s).StationsKept := by
  obtain ⟨-, fc, -, -, -, -, mp, di, -⟩ := openPanel_keeps n a i s
  obtain ⟨sr, -⟩ := openPanel_sr n a i mode
  obtain ⟨mpOpened, diOpened, srOpened⟩ := s.panelOpened_fields n a i
  have cutter : (openPanel n a i s).sr.cutter = (s.panelOpened n a i).sr.cutter := by rw [sr]
  rw [srOpened] at cutter
  rw [mpOpened] at mp
  rw [diOpened] at di
  generalize openPanel n a i s = t at *
  have latest : depthAllowed s.latestAccepted := by
    unfold State.latestAccepted
    split
    · cases last : s.fc.lastAccepted with
      | none => exact ⟨by decide, by decide⟩
      | some d => exact h.depth.2.1 d last
    · exact ⟨by decide, by decide⟩
  have here : t.here = stationAt s.latestAccepted i := by
    unfold State.here
    rw [mp, di]
    exact if_pos rfl
  have place : ∀ k, ((s.panelAt n a i).freshRecord k).place = t.placeOf k := fun k => by
    unfold State.placeOf
    rw [di]
    rfl
  refine ⟨⟨⟨?_, ?_⟩, ?_, ?_, ?_, ?_, ?_⟩, ?_⟩
  · rw [di]
    exact latest
  · rw [fc]
    exact h.depth.2
  · unfold State.PathInRange
    rw [di]
    exact ⟨AxisPath.inRange_zero, AxisPath.inRange_zero⟩
  · rw [di]
    rfl
  · rw [di]
    exact fun _ => rfl
  · rw [here]
    unfold State.openPlace
    rw [di, Option.map_map]
    exact congrArg (fun f => (stationAt s.latestAccepted i).map f) (funext place)
  · rw [mp]
    exact ⟨low, high⟩
  · rw [cutter, here, di, Option.map_map]
    rfl

theorem shutPanel_stations {s : State} (h : s.StationsKept) : (shutPanel s).StationsKept := by
  obtain ⟨mp, di, sr, -⟩ := s.shut_fields
  obtain ⟨-, -, -, fc, -⟩ := s.shut_keeps
  have closed : s.shut.StationsKept := by
    generalize s.shut = t at *
    have here : t.here = none := by
      simp [State.here, mp]
    refine ⟨⟨⟨?_, ?_⟩, ?_, ?_, ?_, ?_, ?_⟩, ?_⟩
    · rw [di]
      exact h.depth.1
    · rw [fc]
      exact h.depth.2
    · unfold State.PathInRange
      rw [di]
      exact h.path
    · rw [di]
      exact h.log
    · rw [di]
      exact h.empty
    · rw [here]
      unfold State.openPlace
      rw [di]
      rfl
    · rw [mp]
      exact h.interval
    · rw [sr, here]
      rfl
  exact closed.of_same (emergencyStandby_stations _)

theorem offsetAllowed_range {o : Int} (h : offsetAllowed o = true) : -Config.offsetLimit ≤ o ∧ o ≤ Config.offsetLimit := by
  simpa [offsetAllowed] using h

theorem zeroDepth_stations {d oX oY : Int} (raw : Int) {s : State} (low : Config.depthMin ≤ d) (high : d ≤ Config.depthMax)
    (x : offsetAllowed oX = true) (y : offsetAllowed oY = true) (allowed : s.zeroAllowed = true) (h : s.StationsKept) :
    (zeroDepth d oX oY raw s).StationsKept := by
  obtain ⟨-, opened, -⟩ := s.zeroAllowed_iff.1 allowed
  obtain ⟨fc, di, sr, -⟩ := zeroDepth_fields d oX oY raw s
  obtain ⟨-, -, -, -, mp, -⟩ := zeroDepth_keeps d oX oY raw s
  generalize zeroDepth d oX oY raw s = t at *
  have here : t.here = stationAt d s.mp.interval := by
    unfold State.here
    rw [mp, di]
    exact if_pos opened
  have place : t.placeOf = s.placeOf := by
    unfold State.placeOf
    rw [di]
  obtain ⟨lowX, highX⟩ := offsetAllowed_range x
  obtain ⟨lowY, highY⟩ := offsetAllowed_range y
  refine ⟨⟨⟨?_, ?_, ?_⟩, ?_, ?_, ?_, ?_, ?_⟩, ?_⟩
  · rw [di]
    exact ⟨low, high⟩
  · rw [fc]
    intro e last
    cases last
    exact ⟨low, high⟩
  · rw [fc]
    exact fun _ none => by cases none
  · unfold State.PathInRange
    rw [di]
    exact ⟨AxisPath.inRange_of_offset lowX highX false, AxisPath.inRange_of_offset lowY highY false⟩
  · rw [di]
    exact h.log
  · rw [di]
    exact h.empty
  · rw [here, place]
    unfold State.openPlace
    rw [di, Option.map_map]
    rfl
  · rw [mp]
    exact h.interval
  · rw [sr, here, di, Option.map_map]
    rfl

theorem stationsActs : Acts State.StationsKept where
  line _ _ h := h.of_same {}
  scratch _ _ h := h.of_same {}
  counters _ h := h.of_same {}
  plans _ _ _ h := h.of_same {}
  falls {s} h := by
    have told : (condition Source.linkSilent true (s.putLi { s.li with linkTimer := none })).StationsKept :=
      h.of_same (.trans (t := s.putLi { s.li with linkTimer := none }) {}
        (condition_stations _ _ _))
    unfold linkSilent
    generalize condition Source.linkSilent true (s.putLi { s.li with linkTimer := none }) = u at told
    exact (told.of_same (t := setLinkCause true u) {}).of_same (holdTest_stations _)
  hears {s} h := by
    unfold linkHeard
    dsimp only
    generalize s.timer (s.par .linkSilenceTime) = timer
    have timed : (s.putLi { s.li with linkTimer := some timer }).StationsKept :=
      h.of_same {}
    generalize s.putLi { s.li with linkTimer := some timer } = u at timed
    split
    · have told := timed.of_same (condition_stations Source.linkSilent false u)
      generalize condition Source.linkSilent false u = w at told
      exact (told.of_same (t := setLinkCause false w) {}).of_same (holdTest_stations _)
    · exact timed
  arrives _ _ := arrival_stations _ _
  starts {s} _ h := by
    have ended : s.startOver.StationsKept := h.of_same {}
    exact (ended.of_same (changeMode_stations .standby _)).of_same (sensorStaleWatch_stations _)
  judges := windowEnd_stations
  inputs i l h := h.of_same (inputChange_stations i l _)
  filters i h := h.of_same (passInput_stations i _)
  persists a := disagreementPersists_stations a
  fails _ h := h.of_same (.of_blocks (by simp) (by simp) (by simp) (by simp))
  reverses _ h := h.of_same (.of_blocks (by simp) (by simp) (by simp [reverseEnd]) (by simp))
  blocked := blockagePresent_stations
  flushed h := h.of_same (.of_blocks (by simp) (by simp) (by simp) (by simp))
  stores p v h := h.of_same (.of_blocks (by simp [storeParameter]) (by simp [storeParameter]) (by simp [storeParameter])
    (by simp [storeParameter]))
  modes m := modeSet_stations m
  opens {s} number area interval mode h := by
    have range := clamp_mem (lo := 100) (hi := 2000) (by decide) interval
    exact openPanel_stations _ _ range.1 range.2 mode h
  shuts _ := shutPanel_stations
  zeroes raw low high x y allowed := zeroDepth_stations raw low high x y allowed
  sets _ _ _ _ _ h := h.of_same (.of_blocks (by simp) (by simp) (by simp [wheelSet]) (by simp))
  clears {s w} _ h := by
    have cleared : (wheelClear w s).StationsKept := h.of_same (.of_blocks (by simp) (by simp) (by simp [wheelClear]) (by simp))
    exact cleared.of_same (condition_stations _ _ _)
  pumps v _ h := h.of_same (.of_blocks (by simp) (by simp) (by simp) (by simp))
  flushes _ h := h.of_same (.of_blocks (by simp) (by simp) (by simp) (by simp))
  moves _ _ _ h := h.of_same (.of_blocks (by simp) (by simp) (by simp) (by simp))
  mends _ h := h.of_same {}
  unlatches _ h := h.of_same (.of_blocks (by simp) (by simp) (by simp) (by simp))
  forces {s} on h := by
    have stored : ({ s with tu := { s.tu with operatorOn := on } } : State).StationsKept :=
      h.of_same {}
    unfold tripForce
    split
    · exact h
    · exact stored.of_same (condition_stations _ _ _)
  maps _ _ h := h.of_same (.of_blocks (by simp) (by simp) (by simp) (by simp))

/-! ### Power-on and restart -/

theorem reportInputs_stations (s : State) : s.SameStations (reportInputs s) :=
  ((condition_stations _ _ s).trans (condition_stations _ _ _)).trans (condition_stations _ _ _)

theorem finish_stations {s : State} (h : s.StationsKept) : (finish s).StationsKept := by
  have taken := stationsActs.takes h
  unfold finish
  generalize takeReports s = u at taken
  exact taken.of_same (.of_blocks (by simp) (by simp) (by simp) (by simp))

theorem initial_stations (e g o : Level) : (State.initial e g o).StationsKept := by
  have depth : depthAllowed 0 := ⟨by decide, by decide⟩
  have interval : 100 ≤ ModePanel.initial.interval ∧ ModePanel.initial.interval ≤ 2000 := ⟨by decide, by decide⟩
  have path : (State.initial e g o).PathInRange := ⟨AxisPath.inRange_zero, AxisPath.inRange_zero⟩
  exact ⟨⟨⟨depth, fun _ (last : none = some _) => (by cases last), fun (no : false = true) => (by cases no)⟩, path, rfl,
    fun _ => rfl, rfl, interval⟩, rfl⟩

/-- A restart with keep_log 1 keeps path, depth and log, and opens the station of the depth again (R45). -/
theorem keepRecord_stations {s : State} (h : s.StationsKept) : (reopenStation (keepRecord s (restartState s))).StationsKept := by
  have depth : (keepRecord s (restartState s)).DepthInRange := ⟨h.depth.1, h.depth.2.1, fun no => by cases no⟩
  have path : (keepRecord s (restartState s)).PathInRange := h.path
  have log : Log.wf (keepRecord s (restartState s)).di.log = true := h.log
  have empty : (keepRecord s (restartState s)).di.closure = false → (keepRecord s (restartState s)).di.log = [] := h.empty
  have interval : 100 ≤ (keepRecord s (restartState s)).mp.interval ∧ (keepRecord s (restartState s)).mp.interval ≤ 2000 := h.interval
  have record : (keepRecord s (restartState s)).di.openRecord = none := rfl
  have cutter : (keepRecord s (restartState s)).sr.cutter = none := rfl
  generalize keepRecord s (restartState s) = t at *
  unfold reopenStation
  split
  · rename_i opened
    have here : t.here = stationAt t.di.depth t.mp.interval := if_pos opened
    refine ⟨⟨depth, path, log, empty, ?_, interval⟩, ?_⟩
    · change ((stationAt t.di.depth t.mp.interval).map t.freshRecord).map OpenRecord.place = t.here.map t.placeOf
      rw [here, Option.map_map]
      rfl
    · change (((stationAt t.di.depth t.mp.interval).map t.freshRecord).map fun r => CutterCopy.mk r.station r.pass t.di.depth) =
        t.here.map fun k => CutterCopy.mk k (passFor t.di.log k) t.di.depth
      rw [here, Option.map_map]
      rfl
  · rename_i closed
    have here : t.here = none := if_neg closed
    refine ⟨⟨depth, path, log, empty, ?_, interval⟩, ?_⟩
    · rw [here]
      unfold State.openPlace
      rw [record]
      rfl
    · rw [here, cutter]
      rfl

theorem reborn_stations (k : Bool) {s : State} (h : s.StationsKept) : (s.reborn k).StationsKept := by
  cases k with
  | true => exact keepRecord_stations h
  | false =>
    obtain ⟨c, shape⟩ := restartState_shape s
    have base := initial_stations s.fc.emergencyIn.raw s.fc.gearPressLow.raw s.fc.oilHot.raw
    rw [State.reborn, if_neg Bool.false_ne_true, shape]
    exact base.of_same {}

theorem stationsKept : Kept State.StationsKept where
  toActs := stationsActs
  begins _ h := h.of_same {}
  sends h := h.of_same (.of_blocks (by simp) (by simp) (by simp) (by simp))
  stalls _ h := h.of_same (.of_blocks (by simp) (by simp) (by simp [stall]) (by simp))
  pauses {s w} _ h := by
    unfold pauseEnd
    split
    · exact h.of_same (.of_blocks (by simp) (by simp) (by simp [reverseEntry]) (by simp))
    · have locked : (announceWheel w (lockOut w s)).StationsKept :=
        h.of_same (.of_blocks (by simp) (by simp) (by simp [lockOut]) (by simp))
      exact locked.of_same (condition_stations _ _ _)
  powers e g o _ := by
    have initial : ∀ pending, ({ State.initial e g o with pending := pending } : State).StationsKept := fun _ =>
      (initial_stations e g o).of_same {}
    exact finish_stations ((initial _).of_same (reportInputs_stations _))
  restarts k h := finish_stations ((reborn_stations k h).of_same (reportInputs_stations _))

end Sys2Proof.Machine

open Sys2Proof Sys2Proof.Machine in
/-- Settles O55: every command keeps the stations, `stationsKept`. -/
theorem stationsFollow : Obligations.StationsFollow := by
  unfold Obligations.StationsFollow
  intro kept s t h run
  have start := s.stationsKept_iff.2 h
  exact t.stationsKept_iff.1
    (stationsKept.step (fun _ h => h.of_same {}) start run)

end

section
/-! O57, its invariant: the wheels and the differential, the flow balance, the pump and the permit as their rules make
them. First WD: what each change of a wheel keeps. -/

namespace Sys2Proof.Machine

/-! ### A wheel within a maximum -/

/-- A coherent wheel whose speeds lie within a maximum (R154, R159). -/
structure Wheel.Fits (top : Int) (v : Wheel) : Prop where
  rests : v.state = .stopped ∨ v.state = .stopping ∨ v.state = .stalled ∨ v.state = .lockedOut → v.target = 0
  stands : v.state = .stopped ∨ v.state = .stalled ∨ v.state = .lockedOut → v.commanded = 0
  timed : v.state = .stalled ∨ v.state = .reversing ↔ v.stateTimer.isSome = true
  watched : v.stallTimer.isSome = true → v.state = .ramping ∨ v.state = .running ∨ v.state = .reversing
  attempts : v.history.length ≤ 3
  base : 0 ≤ v.base ∧ v.base ≤ top
  target : -top ≤ v.target ∧ v.target ≤ top
  commanded : -top ≤ v.commanded ∧ v.commanded ≤ top
  carry : 0 ≤ v.carry ∧ v.carry ≤ 999

theorem State.wheel_fits_iff (s : State) (w : WheelId) :
    (s.wheel w).Coherent ∧ s.WheelInRange w ↔ (s.wheel w).Fits (s.par .maxWheelSpeed) := by
  constructor
  · rintro ⟨⟨rests, stands, timed, watched, attempts⟩, low, high, lowT, highT, lowC, highC, carry⟩
    exact ⟨rests, stands, timed, watched, attempts, ⟨low, high⟩, ⟨lowT, highT⟩, ⟨lowC, highC⟩, carry⟩
  · intro h
    exact ⟨⟨h.rests, h.stands, h.timed, h.watched, h.attempts⟩, h.base.1, h.base.2, h.target.1, h.target.2,
      h.commanded.1, h.commanded.2, h.carry.1, h.carry.2⟩

namespace Wheel.Fits

variable {top : Int} {v : Wheel}

theorem nonneg (h : v.Fits top) : 0 ≤ top := h.base.1.trans h.base.2

theorem weaken {more : Int} (h : v.Fits top) (le : top ≤ more) : v.Fits more where
  __ := h
  base := ⟨h.base.1, h.base.2.trans le⟩
  target := ⟨by have := h.target.1; omega, h.target.2.trans le⟩
  commanded := ⟨by have := h.commanded.1; omega, h.commanded.2.trans le⟩

/-- The value last sent is not bound. -/
theorem of_unsent {u : Wheel} (h : v.Fits top) (same : u.unsent = v.unsent) : u.Fits top := by
  have fits : v.unsent.Fits top :=
    ⟨h.rests, h.stands, h.timed, h.watched, h.attempts, h.base, h.target, h.commanded, h.carry⟩
  rw [← same] at fits
  exact ⟨fits.rests, fits.stands, fits.timed, fits.watched, fits.attempts, fits.base, fits.target, fits.commanded, fits.carry⟩

/-- A wheel is sent to STOPPING (R168, R169). -/
theorem toStopping (h : v.Fits top) : v.toStopping.Fits top where
  rests _ := rfl
  stands no := by simp [Wheel.toStopping] at no
  timed := by simp [Wheel.toStopping]
  watched no := by simp [Wheel.toStopping] at no
  attempts := h.attempts
  base := h.base
  target := ⟨by have := h.nonneg; simp only [Wheel.toStopping]; omega, h.nonneg⟩
  commanded := h.commanded
  carry := h.carry

/-- Base speed and direction may be any within the maximum (R154). -/
theorem directed (h : v.Fits top) {b : Int} (low : 0 ≤ b) (high : b ≤ top) (d : Direction) :
    Wheel.Fits top { v with base := b, direction := d } :=
  ⟨h.rests, h.stands, h.timed, h.watched, h.attempts, ⟨low, high⟩, h.target, h.commanded, h.carry⟩

/-- A wheel whose stall timer stops (R162). -/
theorem unwatched (h : v.Fits top) : Wheel.Fits top { v with stallTimer := none } :=
  { h with watched := fun no => by cases no }

theorem enterStandby (h : v.Fits top) : v.enterStandby.Fits top := by
  have turned := h.directed (Int.le_refl 0) h.nonneg .forward
  unfold Wheel.enterStandby
  dsimp only
  split
  · exact turned.toStopping
  · exact turned

theorem dropReverse (h : v.Fits top) : v.dropReverse.Fits top := by
  have turned := h.directed (Int.le_refl 0) h.nonneg .forward
  unfold Wheel.dropReverse
  split
  · exact h
  · dsimp only
    split
    · exact turned.toStopping
    · exact turned

/-- A target formed anew fits (R159). -/
theorem formed {s : State} (h : v.Fits (s.par .maxWheelSpeed)) (w : WheelId) :
    (s.formed w v).Fits (s.par .maxWheelSpeed) := by
  have range := h.base
  have kept := h.target
  have top := clamp_mem h.nonneg (if w = .a then v.base - s.wd.applied else v.base + s.wd.applied)
  have target := s.targetOf_eq w v
  refine { h with rests := fun rest => ?_, target := ?_ }
  · change s.targetOf w v = 0
    have state : v.state = .stopped ∨ v.state = .stopping ∨ v.state = .stalled ∨ v.state = .lockedOut := rest
    rw [target, if_neg, if_neg]
    · rcases state with e | e | e | e <;> simp [e]
    · rcases state with e | e | e | e <;> simp [e]
  · change -_ ≤ s.targetOf w v ∧ s.targetOf w v ≤ _
    rw [target]
    split
    · split <;> omega
    · split <;> omega

end Wheel.Fits

/-! ### WD's part of the invariant -/

/-- A differential that WD may apply: 0, or SL's demand while both wheels are RUNNING in AUTO (R158). -/
def State.MayApply (s : State) (d : Int) : Prop :=
  (d ≠ 0 → s.mp.mode = .auto ∧ (s.wheel .a).state = .running ∧ (s.wheel .b).state = .running) ∧
    -(s.par .diffMax) ≤ d ∧ d ≤ s.par .diffMax ∧ (d = 0 ∨ d = s.sl.diffDemand)

theorem State.mayApply_zero {s : State} (h : s.ParamsInRange) : s.MayApply 0 := by
  have range := (h.1 .diffMax).1
  simp only [ParamId.lo] at range
  exact ⟨fun no => absurd rfl no, by omega, range, .inl rfl⟩

/-- The wheels are coherent and within the maximum, the applied differential is one that may be, and START holds wheels
and plates (R28, R154, R158). -/
structure State.DrivesKept (s : State) : Prop where
  wheels : ∀ w, (s.wheel w).Fits (s.par .maxWheelSpeed)
  applied : s.MayApply s.wd.applied
  still : s.mp.mode = .start → (∀ w, (s.wheel w).state = .stopped) ∧ s.pm.move = none

theorem State.wheel_of_wd {s t : State} (h : t.wd.unsent = s.wd.unsent) (w : WheelId) :
    (t.wheel w).unsent = (s.wheel w).unsent := (WheelDrives.wheel_of_unsent h).2 w

/-- WD's part rests on WD, the mode, SL's demand, the two limits and, in START, the move. -/
theorem State.DrivesKept.of_blocks {s t : State} (h : s.DrivesKept) (wd : t.wd.unsent = s.wd.unsent)
    (top : t.par .maxWheelSpeed = s.par .maxWheelSpeed) (limit : t.par .diffMax = s.par .diffMax)
    (mode : t.mp.mode = s.mp.mode) (demand : t.sl.diffDemand = s.sl.diffDemand)
    (move : s.mp.mode = .start → s.pm.move = none → t.pm.move = none) : t.DrivesKept := by
  have state : ∀ w, (t.wheel w).state = (s.wheel w).state := fun w =>
    (congrArg Wheel.state (State.wheel_of_wd wd w) :)
  refine ⟨fun w => ?_, ?_, fun start => ?_⟩
  · rw [top]
    exact (h.wheels w).of_unsent (State.wheel_of_wd wd w)
  · have applied : t.wd.applied = s.wd.applied := (congrArg WheelDrives.applied wd :)
    unfold State.MayApply
    rw [applied, limit, mode, demand, state, state]
    exact h.applied
  · rw [mode] at start
    obtain ⟨stopped, none⟩ := h.still start
    exact ⟨fun w => (state w).trans (stopped w), move start none⟩

/-! ### The changes of WD -/

/-- Targets formed anew change no state. -/
theorem formTargets_state (s : State) (w : WheelId) : ((formTargets s).wheel w).state = (s.wheel w).state := by
  rw [formTargets_wheel]

theorem formTargets_fits {s : State} (h : ∀ w, (s.wheel w).Fits (s.par .maxWheelSpeed)) (w : WheelId) :
    ((formTargets s).wheel w).Fits (s.par .maxWheelSpeed) := by
  rw [formTargets_wheel]
  exact (h w).formed w

/-- WD applies a differential that it may apply (R158). -/
theorem setApplied_drives {s : State} {d : Int} (wheels : ∀ w, (s.wheel w).Fits (s.par .maxWheelSpeed))
    (applies : s.MayApply d) (still : s.mp.mode = .start → (∀ w, (s.wheel w).state = .stopped) ∧ s.pm.move = none) :
    (setApplied d s).DrivesKept := by
  unfold setApplied
  split
  · rename_i same
    exact ⟨wheels, same ▸ applies, still⟩
  · refine ⟨formTargets_fits (s := { s with wd := { s.wd with applied := d } }) wheels, ?_, fun start => ?_⟩
    · obtain ⟨applied, range⟩ := applies
      refine ⟨fun other => ?_, range⟩
      rw [formTargets_state, formTargets_state]
      exact applied other
    · obtain ⟨stopped, none⟩ := still start
      exact ⟨fun w => (formTargets_state _ w).trans (stopped w), none⟩

theorem State.wheel_putWheel (s : State) (w x : WheelId) (v : Wheel) :
    (s.putWheel w v).wheel x = if x = w then v else s.wheel x := by
  cases w <;> cases x <;> rfl

/-- A wheel takes a value that fits, in START only a STOPPED one (R155, R158). -/
theorem changeWheel_drives {s : State} {w : WheelId} {v : Wheel} (params : s.ParamsInRange) (h : s.DrivesKept)
    (fits : v.Fits (s.par .maxWheelSpeed)) (start : s.mp.mode = .start → v.state = .stopped) :
    (changeWheel w v s).DrivesKept := by
  have wheels : ∀ x, ((s.putWheel w v).wheel x).Fits (s.par .maxWheelSpeed) := fun x => by
    rw [State.wheel_putWheel]
    split
    · exact fits
    · exact h.wheels x
  have still : s.mp.mode = .start → (∀ x, ((s.putWheel w v).wheel x).state = .stopped) ∧ s.pm.move = none := fun e => by
    obtain ⟨stopped, none⟩ := h.still e
    refine ⟨fun x => ?_, none⟩
    rw [State.wheel_putWheel]
    split
    · exact start e
    · exact stopped x
  have changed : (if (s.wheel w).state = .running ∧ v.state ≠ .running then setApplied 0 (s.putWheel w v)
      else s.putWheel w v).DrivesKept := by
    split
    · exact setApplied_drives wheels (State.mayApply_zero params) still
    · rename_i stays
      refine ⟨wheels, ⟨fun applied => ?_, h.applied.2⟩, still⟩
      obtain ⟨mode, a, b⟩ := h.applied.1 applied
      have was : (s.wheel w).state = .running := by cases w; exacts [a, b]
      have runs : v.state = .running := not_not.1 fun e => stays ⟨was, e⟩
      refine ⟨mode, ?_, ?_⟩
      · rw [State.wheel_putWheel]
        split
        · exact runs
        · exact a
      · rw [State.wheel_putWheel]
        split
        · exact runs
        · exact b
  unfold changeWheel
  dsimp only
  generalize (if (s.wheel w).state = .running ∧ v.state ≠ .running then setApplied 0 (s.putWheel w v)
      else s.putWheel w v) = u at changed
  exact changed.of_blocks rfl rfl rfl rfl rfl fun _ => id

/-- A differential sent by SL is applied or 0 (R158). -/
theorem differentialSent_drives {s : State} {d : Int} (params : s.ParamsInRange)
    (wheels : ∀ w, (s.wheel w).Fits (s.par .maxWheelSpeed)) (low : -(s.par .diffMax) ≤ d) (high : d ≤ s.par .diffMax)
    (demand : d = 0 ∨ d = s.sl.diffDemand)
    (still : s.mp.mode = .start → (∀ w, (s.wheel w).state = .stopped) ∧ s.pm.move = none) :
    (differentialSent d s).DrivesKept := by
  refine setApplied_drives wheels ?_ still
  split
  · exact ⟨fun _ => ‹_›, low, high, demand⟩
  · exact State.mayApply_zero params

/-! ### Samples and timers of a wheel -/

/-- The ramp keeps a wheel within the maximum (R160). -/
theorem rampStep_fits {s : State} {v : Wheel} (params : s.ParamsInRange) (h : v.Fits (s.par .maxWheelSpeed)) :
    (rampStep v s).Fits (s.par .maxWheelSpeed) := by
  have rate : 0 ≤ s.par .rampRate := le_trans (by decide) (params.1 .rampRate).1
  have amount : 0 ≤ s.par .rampRate * elapsedSince s.runTime v.prevSample + v.carry :=
    add_nonneg (mul_nonneg rate (Int.natCast_nonneg _)) h.carry.1
  have target := h.target
  have commanded := h.commanded
  rw [rampStep_eq]
  generalize s.par .rampRate * elapsedSince s.runTime v.prevSample + v.carry = amount at *
  refine { h with stands := fun rest => ?_, commanded := ?_, carry := ?_ }
  · dsimp only
    rw [if_pos (by rcases rest with e | e | e <;> simp_all)]
    exact h.stands rest
  · dsimp only
    split
    · exact commanded
    · split
      · exact target
      · rename_i far
        rw [not_le, lt_abs] at far
        split <;> omega
  · dsimp only
    split
    · exact h.carry
    · split <;> omega

theorem rampStep_state (v : Wheel) (s : State) : (rampStep v s).state = v.state := by rw [rampStep_eq]

theorem rampTest_fits {s : State} {v : Wheel} (m : Int) (h : v.Fits (s.par .maxWheelSpeed)) :
    (rampTest m v s).Fits (s.par .maxWheelSpeed) := by
  unfold rampTest
  split
  · rename_i ramps
    split
    · refine { h with rests := ?_, stands := ?_, timed := ?_, watched := ?_ }
      · simp
      · simp
      · have := h.timed
        simpa [ramps] using this
      · simp
    · exact h
  · rename_i stops
    split
    · rename_i slow
      refine { h with rests := ?_, stands := ?_, timed := ?_, watched := ?_ }
      · exact fun _ => h.rests (by simp [stops])
      · exact fun _ => slow.1
      · have := h.timed
        simpa [stops] using this
      · simp
    · exact h
  · exact h

theorem rampTest_stopped {s : State} {v : Wheel} (m : Int) (h : v.state = .stopped) : (rampTest m v s).state = .stopped := by
  unfold rampTest
  simp [h]

/-- The stall evaluation sets the stall timer alone, and starts it only in the watched states (R162). -/
theorem stallEvaluate_fits {top : Int} {s : State} {v : Wheel} (w : WheelId) (h : v.Fits top) :
    (stallEvaluate w v s).Fits top := by
  rw [stallEvaluate_eq]
  refine { h with watched := fun some => ?_ }
  by_cases live : v.state = .ramping ∨ v.state = .running ∨ v.state = .reversing
  · exact live
  · rw [if_neg live] at some
    exact h.watched some

theorem stallEvaluate_state (w : WheelId) (v : Wheel) (s : State) : (stallEvaluate w v s).state = v.state := by
  rw [stallEvaluate_eq]

/-- What a stalled wheel becomes (R163). -/
theorem Wheel.Fits.stalled {top : Int} {v : Wheel} (h : v.Fits top) (t : Timer) : Wheel.Fits top { v with
    state := .stalled, target := 0, commanded := 0, carry := 0, stallTimer := none, stateTimer := some t } := by
  have zero : -top ≤ 0 ∧ 0 ≤ top := ⟨neg_nonpos.2 h.nonneg, h.nonneg⟩
  exact ⟨fun _ => rfl, fun _ => rfl, by simp, by simp, h.attempts, h.base, zero, zero, by simp⟩

/-- What a locked out wheel becomes (R166). -/
theorem Wheel.Fits.lockedOut {top : Int} {v : Wheel} (h : v.Fits top) {l : List RunTime} (few : l.length ≤ 3) :
    Wheel.Fits top { v with
      state := .lockedOut, target := 0, commanded := 0, carry := 0, base := 0, history := l, stallTimer := none
      stateTimer := none } := by
  have zero : -top ≤ 0 ∧ 0 ≤ top := ⟨neg_nonpos.2 h.nonneg, h.nonneg⟩
  exact ⟨fun _ => rfl, fun _ => rfl, by simp, by simp, few, ⟨Int.le_refl 0, h.nonneg⟩, zero, zero, by simp⟩

theorem State.recentAttempts_le (s : State) (l : List RunTime) : (s.recentAttempts l).length ≤ l.length :=
  List.length_dropWhile_le _ _

/-- The reverse command lies within the maximum (R164). -/
theorem State.reverseCommand_mem {s : State} (params : s.ParamsInRange) (d : Direction) :
    -(s.par .maxWheelSpeed) ≤ s.reverseCommand d ∧ s.reverseCommand d ≤ s.par .maxWheelSpeed := by
  have speed := (params.1 .reverseSpeed).1
  have top := (params.1 .maxWheelSpeed).1
  simp only [ParamId.lo] at speed top
  unfold State.reverseCommand
  cases d <;> dsimp only <;> omega

/-- What a reversing wheel becomes, being STALLED with fewer than 3 attempts (R164). -/
theorem Wheel.Fits.reversing {top r : Int} {v : Wheel} (h : v.Fits top) (range : -top ≤ r ∧ r ≤ top)
    {l : List RunTime} (few : l.length ≤ 3) (t : Timer) :
    Wheel.Fits top { v with
      state := .reversing, target := r, commanded := r, carry := 0, history := l, stateTimer := some t } :=
  ⟨by simp, by simp, by simp, by simp, few, h.base, range, range, by simp⟩

/-- WHEEL_SET gives a wheel that fits, with a base speed within the maximum (R156). -/
theorem wheelSetState_fits {s : State} {v : Wheel} (w : WheelId) (h : v.Fits (s.par .maxWheelSpeed)) :
    (wheelSetState w v s).Fits (s.par .maxWheelSpeed) := by
  have formed := h.formed (s := s) w
  unfold wheelSetState
  split
  · split
    all_goals first | exact h.toStopping | exact h
  · split
    iterate 2
      rename_i state
      refine Wheel.Fits.formed (s := s) (v := { v with state := .ramping })
        { h with rests := ?_, stands := ?_, timed := ?_, watched := ?_ } w
      · simp
      · simp
      · have := h.timed
        simpa [state] using this
      · simp
    · exact formed
    · rename_i state
      dsimp only
      split
      · refine { formed with rests := ?_, stands := ?_, timed := ?_, watched := ?_ }
        · simp
        · simp
        · have := h.timed
          simpa [State.formed, state] using this
        · simp
      · exact formed
    all_goals exact h

/-- A lowered maximum: the wheel clamped to it, its target formed anew (R157). -/
theorem Wheel.Fits.limited {s : State} {top : Int} {v : Wheel} (h : v.Fits top) (nonneg : 0 ≤ s.par .maxWheelSpeed) :
    (v.limit (s.par .maxWheelSpeed)).Fits (s.par .maxWheelSpeed) := by
  have zero : clamp (-(s.par .maxWheelSpeed)) (s.par .maxWheelSpeed) 0 = 0 := by
    unfold clamp
    rw [if_neg (by omega), if_neg (by omega)]
  refine ⟨fun rest => ?_, fun rest => ?_, h.timed, h.watched, h.attempts, clamp_mem nonneg _, clamp_mem (by omega) _,
    clamp_mem (by omega) _, h.carry⟩
  · simp only [Wheel.limit, h.rests rest, zero]
  · simp only [Wheel.limit, h.stands rest, zero]

/-! ### SR's part of the invariant -/

/-- SR without the permit, the watches, the transit line and the values last sent: what the flow balance and the pump
rest on (R173, R174, R177). -/
def Slurry.core (r : Slurry) : Slurry :=
  { r with
    feedPermit := false, returnHeavy := false, blockTimer := none, returnBlocked := false
    sentCommand := 0, sentPermit := false, sentLimit := 0
    vPump := 0, flowResidue := 0, prevFlow := none, line := [], cutter := none }

/-- The flow balance: feed copy, required flow, feed limit, the trim's bounds, and the modes of a backflush (R75, R173,
R175, R177, R181, R183). -/
structure State.FlowKept (s : State) : Prop where
  copy : s.sr.feedCopy = s.di.feedRate
  required : s.mp.mode ≠ .start → s.sr.required = s.requiredFlow
  limit : s.sr.feedLimit = s.feedLimitNow
  trim : (s.mp.mode ≠ .auto → s.sr.trim = 0) ∧ -100 ≤ s.sr.trim ∧ s.sr.trim ≤ 100
  flush : s.sr.backflushTimer ≠ none → s.mp.mode = .manual ∨ s.mp.mode = .auto ∨ s.mp.mode = .hold

/-- The pump: its state, its command, and no backflush with the PUMP group tripped (R172, R174, R185). -/
structure State.PumpKept (s : State) : Prop where
  state : s.sr.pumpState = s.pumpStateNow
  command : s.sr.command = s.pumpCommand
  flush : s.sr.backflushTimer ≠ none → s.tripped .pump = false

theorem State.requiredFollows_iff (s : State) :
    s.RequiredFollows ↔ s.sr.feedCopy = s.di.feedRate ∧ (s.mp.mode ≠ .start → s.sr.required = s.requiredFlow) := by
  unfold State.RequiredFollows State.requiredFlow State.feedForFlow clamp State.maxFlow floorDiv
  refine and_congr_right fun copy => ?_
  rw [copy]

theorem State.pumpFollows_iff (s : State) : s.PumpFollows ↔ s.PumpKept ∧
    ((s.mp.mode ≠ .auto → s.sr.trim = 0) ∧ -100 ≤ s.sr.trim ∧ s.sr.trim ≤ 100) ∧
    (s.sr.backflushTimer ≠ none → s.mp.mode = .manual ∨ s.mp.mode = .auto ∨ s.mp.mode = .hold) := by
  have command : s.sr.command = s.pumpCommand ↔
      (s.sr.pumpState = .off ∨ s.sr.pumpState = .tripped → s.sr.command = 0) ∧
      (s.sr.pumpState = .idle ∨ s.sr.pumpState = .manual → s.sr.command = s.pumpFor s.flowBasis 0) ∧
      (s.sr.pumpState = .balance → s.sr.command = s.pumpFor s.flowBasis s.sr.trim) := by
    unfold State.pumpCommand State.flowBasis
    cases s.sr.pumpState <;> simp
  constructor
  · rintro ⟨state, zero, low, high, off, still, balance, flush⟩
    exact ⟨⟨state, command.2 ⟨off, still, balance⟩, fun run => (flush run).2⟩, ⟨zero, low, high⟩, fun run => (flush run).1⟩
  · rintro ⟨⟨state, commanded, untripped⟩, ⟨zero, low, high⟩, flush⟩
    obtain ⟨off, still, balance⟩ := command.1 commanded
    exact ⟨state, zero, low, high, off, still, balance, fun run => ⟨flush run, untripped run⟩⟩

/-! ### What SR's part rests on -/

/-- The parameters on which the flow balance and the pump command rest both (R173, R174, R177, R187). -/
def flowParams : List ParamId := [.baseFlow, .carry, .pumpMaxRpm, .displacement]

/-- The facts on which the flow balance and the pump rest are those of another state. -/
structure State.SameFlow (s t : State) : Prop where
  par : ∀ p ∈ flowParams, t.par p = s.par p := by intros; rfl
  mode : t.mp.mode = s.mp.mode := by rfl
  area : s.mp.mode ≠ .start → t.mp.cutArea = s.mp.cutArea := by intros; rfl
  rate : t.di.feedRate = s.di.feedRate := by rfl
  slurry : t.sr.core = s.sr.core := by rfl

namespace State.SameFlow

variable {s t : State}

theorem maxFlow (same : s.SameFlow t) : t.maxFlow = s.maxFlow := by
  unfold State.maxFlow
  rw [same.par .pumpMaxRpm (by decide), same.par .displacement (by decide)]

theorem requiredFlow (same : s.SameFlow t) (run : s.mp.mode ≠ .start) : t.requiredFlow = s.requiredFlow := by
  have copy : t.sr.feedCopy = s.sr.feedCopy := (congrArg Slurry.feedCopy same.slurry :)
  unfold State.requiredFlow State.feedForFlow
  rw [same.maxFlow, same.par .baseFlow (by decide), same.par .carry (by decide), same.mode, same.area run, copy]

theorem feedLimitNow (same : s.SameFlow t) (feed : t.par .operatorFeedLimit = s.par .operatorFeedLimit) :
    t.feedLimitNow = s.feedLimitNow := by
  have mark : t.sr.softMark = s.sr.softMark := (congrArg Slurry.softMark same.slurry :)
  unfold State.feedLimitNow
  rw [same.mode]
  split
  · rfl
  · rename_i run
    unfold State.slurryLimitedFeed
    rw [same.maxFlow, same.par .baseFlow (by decide), same.par .carry (by decide), feed, same.area run, mark]

theorem pumpFor (same : s.SameFlow t) (q r : Int) : t.pumpFor q r = s.pumpFor q r := by
  unfold State.pumpFor
  rw [same.par .displacement (by decide), same.par .pumpMaxRpm (by decide)]

theorem pumpCommand (same : s.SameFlow t) (idle : t.par .idleFlow = s.par .idleFlow) : t.pumpCommand = s.pumpCommand := by
  have state : t.sr.pumpState = s.sr.pumpState := (congrArg Slurry.pumpState same.slurry :)
  have command : t.sr.command = s.sr.command := (congrArg Slurry.command same.slurry :)
  have manual : t.sr.manualTarget = s.sr.manualTarget := (congrArg Slurry.manualTarget same.slurry :)
  have required : t.sr.required = s.sr.required := (congrArg Slurry.required same.slurry :)
  have trim : t.sr.trim = s.sr.trim := (congrArg Slurry.trim same.slurry :)
  unfold State.pumpCommand
  rw [state, command, manual, required, trim, idle]
  simp only [same.pumpFor]

theorem timer (same : s.SameFlow t) : t.sr.backflushTimer = s.sr.backflushTimer :=
  (congrArg Slurry.backflushTimer same.slurry :)

end State.SameFlow

theorem State.FlowKept.of_same {s t : State} (h : s.FlowKept) (same : s.SameFlow t)
    (feed : t.par .operatorFeedLimit = s.par .operatorFeedLimit) : t.FlowKept where
  copy := ((congrArg Slurry.feedCopy same.slurry :) : t.sr.feedCopy = _).trans (h.copy.trans same.rate.symm)
  required run := by
    have ran : s.mp.mode ≠ .start := same.mode ▸ run
    rw [same.requiredFlow ran]
    exact ((congrArg Slurry.required same.slurry :) : t.sr.required = _).trans (h.required ran)
  limit := ((congrArg Slurry.feedLimit same.slurry :) : t.sr.feedLimit = _).trans (h.limit.trans (same.feedLimitNow feed).symm)
  trim := by
    have trim : t.sr.trim = s.sr.trim := (congrArg Slurry.trim same.slurry :)
    rw [same.mode, trim]
    exact h.trim
  flush := by
    rw [same.mode, same.timer]
    exact h.flush

theorem State.PumpKept.of_same {s t : State} (h : s.PumpKept) (same : s.SameFlow t)
    (idle : t.par .idleFlow = s.par .idleFlow) (trip : t.tripped .pump = s.tripped .pump) : t.PumpKept where
  state := by
    unfold State.pumpStateNow State.backflushing
    rw [trip, same.timer, same.mode]
    exact ((congrArg Slurry.pumpState same.slurry :) : t.sr.pumpState = _).trans h.state
  command := ((congrArg Slurry.command same.slurry :) : t.sr.command = _).trans (h.command.trans (same.pumpCommand idle).symm)
  flush := by
    rw [same.timer, trip]
    exact h.flush

/-- The permit's facts (R178). -/
theorem State.permitNow_congr {s t : State} (mode : t.mp.mode = s.mp.mode)
    (wheels : ∀ w, (t.wheel w).state = (s.wheel w).state) (trip : t.tripped .feed = s.tripped .feed)
    (timer : t.sr.backflushTimer = s.sr.backflushTimer) : t.permitNow = s.permitNow := by
  unfold State.permitNow State.backflushing
  rw [mode, wheels, wheels, trip, timer]

/-! ### SR's recomputations -/

/-- The balance does not look at the pump. -/
theorem State.FlowKept.pumped {s : State} (h : s.FlowKept) (state : PumpState) (command : Int) :
    ({ s with sr := { s.sr with pumpState := state, command := command } } : State).FlowKept :=
  ⟨h.copy, h.required, h.limit, h.trim, h.flush⟩

theorem recomputePump_flow {s : State} (h : s.FlowKept) : (recomputePump s).FlowKept := by
  rw [recomputePump_eq]
  exact h.pumped s.sr.pumpState _

theorem refreshPump_flow {s : State} (h : s.FlowKept) : (refreshPump s).FlowKept :=
  recomputePump_flow (h.pumped s.pumpStateNow s.sr.command)

/-- The pump command recomputed for the pump state that stands (R174). -/
theorem recomputePump_pump {s : State} (state : s.sr.pumpState = s.pumpStateNow)
    (flush : s.sr.backflushTimer ≠ none → s.tripped .pump = false) : (recomputePump s).PumpKept := by
  rw [recomputePump_eq]
  refine ⟨state, ?_, flush⟩
  unfold State.pumpCommand
  dsimp only
  cases s.sr.pumpState <;> rfl

/-- The pump state and command recomputed (R172, R174). -/
theorem refreshPump_pump {s : State} (flush : s.sr.backflushTimer ≠ none → s.tripped .pump = false) :
    (refreshPump s).PumpKept :=
  recomputePump_pump (s := { s with sr := { s.sr with pumpState := s.pumpStateNow } }) rfl flush

/-- The required flow recomputed balances the flow again (R173). -/
theorem recomputeRequired_flow {s : State} (copy : s.sr.feedCopy = s.di.feedRate) (limit : s.sr.feedLimit = s.feedLimitNow)
    (trim : (s.mp.mode ≠ .auto → s.sr.trim = 0) ∧ -100 ≤ s.sr.trim ∧ s.sr.trim ≤ 100)
    (flush : s.sr.backflushTimer ≠ none → s.mp.mode = .manual ∨ s.mp.mode = .auto ∨ s.mp.mode = .hold) :
    (recomputeRequired s).FlowKept :=
  ⟨copy, fun _ => rfl, limit, trim, flush⟩

/-- The feed limit recomputed (R177). -/
theorem recomputeFeedLimit_flow {s : State} (copy : s.sr.feedCopy = s.di.feedRate)
    (required : s.mp.mode ≠ .start → s.sr.required = s.requiredFlow)
    (trim : (s.mp.mode ≠ .auto → s.sr.trim = 0) ∧ -100 ≤ s.sr.trim ∧ s.sr.trim ≤ 100)
    (flush : s.sr.backflushTimer ≠ none → s.mp.mode = .manual ∨ s.mp.mode = .auto ∨ s.mp.mode = .hold) :
    (recomputeFeedLimit s).FlowKept :=
  ⟨copy, required, rfl, trim, flush⟩

/-! ### The invariant, and what may be owed while the groups change -/

/-- O57's invariant but for the values last sent, with the pump kept if `p` and the permit if `q`: while TU reports the
groups that change, SR's part is owed until its own report. -/
structure State.OutputsOwe (p q : Prop) (s : State) : Prop where
  params : s.ParamsInRange
  drives : s.DrivesKept
  flow : s.FlowKept
  pump : p → s.PumpKept
  permit : q → s.PermitFollows

/-- O57's invariant but for the values last sent. -/
abbrev State.OutputsKept (s : State) : Prop := s.OutputsOwe True True

theorem State.OutputsKept.startHoldsOff {s : State} (h : s.OutputsKept) : s.StartHoldsOff := by
  intro start
  obtain ⟨stopped, move⟩ := h.drives.still start
  have flushing : s.sr.backflushTimer = none := by
    by_contra run
    rcases h.flow.flush run with e | e | e <;> simp [start] at e
  refine ⟨fun w => ⟨stopped w, (h.drives.wheels w).stands (.inl (stopped w))⟩, ?_, ?_, ?_, move⟩
  · have state : s.sr.pumpState = .tripped ∨ s.sr.pumpState = .off := by
      rw [(h.pump trivial).state]
      unfold State.pumpStateNow State.backflushing
      cases s.tripped .pump <;> simp [flushing, start]
    rw [(h.pump trivial).command]
    unfold State.pumpCommand
    rcases state with e | e <;> rw [e]
  · rw [h.permit trivial]
    simp [State.permitNow, start]
  · rw [h.flow.limit]
    exact if_pos start

/-- The invariant is the obligation's, but for the values last sent. -/
theorem State.outputsKept_iff (s : State) : s.OutputsKept ↔
    s.ParamsInRange ∧ (∀ w, (s.wheel w).Coherent ∧ s.WheelInRange w) ∧ s.PermitFollows ∧ s.LimitFollows ∧
      s.RequiredFollows ∧ s.PumpFollows ∧ s.DifferentialFollows ∧ s.StartHoldsOff := by
  simp only [State.wheel_fits_iff, State.requiredFollows_iff, State.pumpFollows_iff]
  constructor
  · intro h
    exact ⟨h.params, h.drives.wheels, h.permit trivial, h.flow.limit, ⟨h.flow.copy, h.flow.required⟩,
      ⟨h.pump trivial, h.flow.trim, h.flow.flush⟩, h.drives.applied, h.startHoldsOff⟩
  · rintro ⟨params, wheels, permit, limit, ⟨copy, required⟩, ⟨pump, trim, flush⟩, differential, still⟩
    refine ⟨params, ⟨wheels, differential, fun start => ?_⟩, ⟨copy, required, limit, trim, flush⟩, fun _ => pump,
      fun _ => permit⟩
    obtain ⟨stopped, -, -, -, move⟩ := still start
    exact ⟨fun w => (stopped w).1, move⟩

/-- The facts on which the outputs rest, and the outputs, are those of another state. -/
structure State.SameOutputs (s t : State) : Prop where
  params : t.params = s.params := by rfl
  mode : t.mp.mode = s.mp.mode := by rfl
  area : s.mp.mode ≠ .start → t.mp.cutArea = s.mp.cutArea := by exact fun _ => rfl
  rate : t.di.feedRate = s.di.feedRate := by rfl
  slurry : t.sr.core = s.sr.core := by rfl
  permit : t.sr.feedPermit = s.sr.feedPermit := by rfl
  drives : t.wd.unsent = s.wd.unsent := by rfl
  demand : t.sl.diffDemand = s.sl.diffDemand := by rfl
  move : s.mp.mode = .start → s.pm.move = none → t.pm.move = none := by exact fun _ h => h
  groups : t.tu.groups = s.tu.groups := by rfl

theorem State.SameOutputs.flow {s t : State} (same : s.SameOutputs t) : s.SameFlow t :=
  ⟨fun p _ => by simp only [State.par, same.params], same.mode, same.area, same.rate, same.slurry⟩

theorem State.ParamsInRange.of_params {s t : State} (h : s.ParamsInRange) (params : t.params = s.params) :
    t.ParamsInRange := by
  unfold State.ParamsInRange State.par at h ⊢
  rw [params]
  exact h

theorem State.SameOutputs.of_blocks {s t : State} (params : t.params = s.params) (mp : t.mp = s.mp)
    (rate : t.di.feedRate = s.di.feedRate) (wd : t.wd = s.wd) (demand : t.sl.diffDemand = s.sl.diffDemand)
    (core : t.sr.core = s.sr.core) (permit : t.sr.feedPermit = s.sr.feedPermit) (tu : t.tu = s.tu)
    (move : s.mp.mode = .start → s.pm.move = none → t.pm.move = none) : s.SameOutputs t :=
  ⟨params, by rw [mp], fun _ => by rw [mp], rate, core, permit, by rw [wd], demand, move, by rw [tu]⟩

namespace State.OutputsOwe

variable {p q : Prop} {s t : State}

theorem of_same (h : s.OutputsOwe p q) (same : s.SameOutputs t) : t.OutputsOwe p q where
  params := h.params.of_params same.params
  drives := h.drives.of_blocks same.drives (by simp only [State.par, same.params]) (by simp only [State.par, same.params])
    same.mode same.demand same.move
  flow := h.flow.of_same same.flow (by simp only [State.par, same.params])
  pump owed := (h.pump owed).of_same same.flow (by simp only [State.par, same.params])
    (by simp only [State.tripped, same.groups])
  permit owed := by
    unfold State.PermitFollows
    rw [same.permit, State.permitNow_congr same.mode
      (fun w => (congrArg Wheel.state (State.wheel_of_wd same.drives w) :)) (by simp only [State.tripped, same.groups])
      same.flow.timer]
    exact h.permit owed

theorem reported (h : s.OutputsOwe p q) (r : Report) : (s.report r).OutputsOwe p q := h.of_same {}

theorem counted (h : s.OutputsOwe p q) (n : Nat) : (s.count n).OutputsOwe p q := by
  obtain ⟨c, shape⟩ := s.count_shape n
  rw [shape]
  exact h.of_same {}

/-- WD acts and SR recomputes the permit: no more than WD's part is to be shown. -/
theorem driven (params : s.ParamsInRange) (flow : s.FlowKept) (pump : p → s.PumpKept) (drives : t.DrivesKept)
    (par : t.params = s.params) (mp : t.mp = s.mp) (di : t.di = s.di) (tu : t.tu = s.tu) (core : t.sr.core = s.sr.core)
    (permit : q → t.PermitFollows) : t.OutputsOwe p q := by
  have same : s.SameFlow t := ⟨fun p _ => by simp only [State.par, par], by rw [mp], fun _ => by rw [mp], by rw [di], core⟩
  exact ⟨params.of_params par, drives, flow.of_same same (by simp only [State.par, par]),
    fun owed => (pump owed).of_same same (by simp only [State.par, par]) (by simp only [State.tripped, tu]), permit⟩

/-- The pump command is recomputed: the permit does not rest on it. -/
theorem pumped {r : Prop} (h : s.OutputsOwe r q) (pump : p → t.PumpKept) (flow : t.FlowKept) (params : t.params = s.params)
    (mode : t.mp.mode = s.mp.mode) (wd : t.wd = s.wd) (demand : t.sl.diffDemand = s.sl.diffDemand) (pm : t.pm = s.pm)
    (tu : t.tu = s.tu) (permit : t.sr.feedPermit = s.sr.feedPermit)
    (timer : t.sr.backflushTimer = s.sr.backflushTimer) : t.OutputsOwe p q where
  params := h.params.of_params params
  drives := h.drives.of_blocks (by rw [wd]) (by simp only [State.par, params]) (by simp only [State.par, params]) mode
    demand fun _ none => by rw [pm, none]
  flow := flow
  pump := pump
  permit owed := by
    unfold State.PermitFollows
    rw [permit, State.permitNow_congr mode (fun w => by cases w <;> simp only [State.wheel, wd])
      (by simp only [State.tripped, tu]) timer]
    exact h.permit owed

end State.OutputsOwe

/-! ### The wheels -/

theorem setApplied_outside (d : Int) (s : State) : (setApplied d s) = { s with wd := (setApplied d s).wd } := by
  unfold setApplied
  split <;> rfl

/-- A change of a wheel changes WD and the permit alone (R158, R170). -/
theorem changeWheel_shape (w : WheelId) (v : Wheel) (s : State) :
    (changeWheel w v s).sr = { s.sr with feedPermit := (changeWheel w v s).permitNow } := by
  unfold changeWheel
  dsimp only
  split
  · rw [setApplied_outside]
    rfl
  · rfl

theorem changeWheel_outputs {p q : Prop} {s : State} {w : WheelId} {v : Wheel} (h : s.OutputsOwe p q)
    (fits : v.Fits (s.par .maxWheelSpeed)) (start : s.mp.mode = .start → v.state = .stopped) :
    (changeWheel w v s).OutputsOwe p q := by
  have drives := changeWheel_drives (w := w) h.params h.drives fits start
  have slurry := changeWheel_shape w v s
  obtain ⟨-, params, -, -, mp, -, di, -, -, tu, -⟩ := changeWheel_keeps w v s
  generalize changeWheel w v s = t at *
  exact .driven h.params h.flow h.pump drives params mp di tu (by rw [slurry]; rfl) fun _ => (congrArg Slurry.feedPermit slurry :)

/-! ### Changes of mode -/

/-- The permit recomputed pays what is owed of it (R178). -/
theorem State.OutputsOwe.permitted {p q r : Prop} {s : State} (h : s.OutputsOwe p q) : (recomputePermit s).OutputsOwe p r where
  params := h.params
  drives := h.drives.of_blocks rfl rfl rfl rfl rfl fun _ none => none
  flow := h.flow.of_same {} rfl
  pump owed := (h.pump owed).of_same {} rfl rfl
  permit _ := rfl

/-- What a change of mode makes of a wheel, before its target is formed anew (R38, R168). -/
def Wheel.enter (old mode : Mode) (v : Wheel) : Wheel :=
  match mode with
  | .standby => v.enterStandby
  | .auto | .hold => if old = .standby ∨ old = .manual then v.dropReverse else v
  | .manual | .start => v

theorem wheelsEnter_eq (old : Mode) (s : State) : wheelsEnter old s = recomputePermit (formTargets { s with
    wd := ⟨⟨(s.wheel .a).enter old s.mp.mode, (s.wheel .b).enter old s.mp.mode⟩, 0⟩ }) := by
  unfold wheelsEnter Wheel.enter
  cases s.mp.mode with
  | auto | hold =>
    dsimp only
    split <;> rfl
  | start | standby | manual => rfl

theorem Wheel.Fits.enter {top : Int} {v : Wheel} (h : v.Fits top) (old mode : Mode) : (v.enter old mode).Fits top := by
  unfold Wheel.enter
  split
  · exact h.enterStandby
  iterate 2
    split
    · exact h.dropReverse
    · exact h
  all_goals exact h

/-- WD at a change of mode keeps its part, the mode that now stands not being START (R38, R158, R168). -/
theorem wheelsEnter_drives {old : Mode} {s : State} (params : s.ParamsInRange)
    (wheels : ∀ w, (s.wheel w).Fits (s.par .maxWheelSpeed)) (run : s.mp.mode ≠ .start) : (wheelsEnter old s).DrivesKept := by
  rw [wheelsEnter_eq]
  have entered : ∀ w, (State.wheel { s with
      wd := ⟨⟨(s.wheel .a).enter old s.mp.mode, (s.wheel .b).enter old s.mp.mode⟩, 0⟩ } w).Fits (s.par .maxWheelSpeed) := by
    intro w
    cases w
    · exact (wheels .a).enter old s.mp.mode
    · exact (wheels .b).enter old s.mp.mode
  have formed := formTargets_fits (s := { s with
    wd := ⟨⟨(s.wheel .a).enter old s.mp.mode, (s.wheel .b).enter old s.mp.mode⟩, 0⟩ }) entered
  exact ⟨formed, State.mayApply_zero params, fun start => absurd start run⟩

/-- The pump refreshed is SR with its pump state and a command. -/
theorem refreshPump_shape (s : State) : ∃ c, refreshPump s =
    { s with sr := { s.sr with pumpState := s.pumpStateNow, command := c } } := ⟨_, recomputePump_eq _⟩

/-- SR at a change of mode: with the feed copy as DI has it, the feed limit as it should be unless START ends, and no
backflush with the PUMP group tripped, its part holds after it (R38, R173, R177, R178, R183). -/
theorem slurryEnter_outputs {old : Mode} {s : State} (params : s.ParamsInRange) (drives : s.DrivesKept)
    (copy : s.sr.feedCopy = s.di.feedRate) (limit : old ≠ .start → s.sr.feedLimit = s.feedLimitNow)
    (run : s.mp.mode ≠ .start) (flush : s.sr.backflushTimer ≠ none → s.tripped .pump = false) :
    (slurryEnter old s).OutputsKept := by
  have cutting : (trimmed s).sr.backflushTimer ≠ none → s.mp.mode = .manual ∨ s.mp.mode = .auto ∨ s.mp.mode = .hold := by
    intro runs
    cases mode : s.mp.mode <;> simp_all [trimmed]
  have untripped : (recomputeRequired (trimmed s)).sr.backflushTimer ≠ none → s.tripped .pump = false := by
    intro runs
    refine flush fun none => runs ?_
    show (if s.mp.mode = .standby then _ else s.sr.backflushTimer) = _
    rw [none, ite_self]
  have pump := refreshPump_pump (s := recomputeRequired (trimmed s)) untripped
  obtain ⟨command, shape⟩ := refreshPump_shape (recomputeRequired (trimmed s))
  have trim : (s.mp.mode ≠ .auto → (0 : Int) = 0) ∧ (-100 : Int) ≤ 0 ∧ (0 : Int) ≤ 100 := ⟨fun _ => rfl, by decide⟩
  have driven : (refreshPump (recomputeRequired (trimmed s))).DrivesKept := by
    rw [shape]
    exact drives.of_blocks rfl rfl rfl rfl rfl fun _ none => none
  rw [slurryEnter_eq]
  split
  · refine State.OutputsOwe.permitted (p := True) (q := False)
      ⟨params.of_params (by simp [trimmed]), driven.of_blocks rfl rfl rfl rfl rfl fun _ none => none,
        recomputeFeedLimit_flow ?_ ?_ ?_ ?_, fun _ => ⟨pump.state, pump.command, pump.flush⟩, False.elim⟩ <;> rw [shape]
    · exact copy
    · exact fun _ => rfl
    · exact trim
    · exact cutting
  · rename_i other
    have limit : (trimmed s).sr.feedLimit = (trimmed s).feedLimitNow := by
      unfold State.feedLimitNow
      exact limit other
    exact State.OutputsOwe.permitted (p := True) (q := False)
      ⟨params.of_params (by simp [trimmed]), driven, refreshPump_flow (recomputeRequired_flow copy limit trim cutting),
        fun _ => pump, False.elim⟩

/-- SL, WD and PM have followed a change of mode, SR has not (R38). -/
def State.entering (m : Mode) (s : State) : State :=
  platesEnter (wheelsEnter s.mp.mode (steeringEnter { s with mp := { s.mp with mode := m } }))

theorem changeMode_eq {m : Mode} {s : State} (other : s.mp.mode ≠ m) :
    changeMode m s = (slurryEnter s.mp.mode (s.entering m)).report (.mode m) := if_neg other

theorem State.entering_keeps (m : Mode) (s : State) :
    (s.entering m).params = s.params ∧ (s.entering m).mp = { s.mp with mode := m } ∧ (s.entering m).di = s.di ∧
      (s.entering m).tu = s.tu ∧ (s.entering m).sr = { s.sr with feedPermit := (s.entering m).sr.feedPermit } := by
  have permit : ∀ old : Mode, ∀ u : State, (wheelsEnter old u).sr = { u.sr with feedPermit := (wheelsEnter old u).sr.feedPermit } :=
    fun _ _ => rfl
  unfold State.entering
  refine ⟨by simp, by simp, by simp, by simp, ?_⟩
  have plates : ∀ u : State, (platesEnter u).sr = u.sr := fun u => by simp
  rw [plates, permit]
  simp

theorem State.entering_drives {m : Mode} {s : State} (run : m ≠ .start) (params : s.ParamsInRange) (h : s.DrivesKept) :
    (s.entering m).DrivesKept := by
  have steered := steeringEnter_keeps { s with mp := { s.mp with mode := m } }
  unfold State.entering
  generalize steeringEnter { s with mp := { s.mp with mode := m } } = u at steered
  obtain ⟨-, same, -, -, mp, -, -, -, wd, -⟩ := steered
  have wheels : ∀ w, (u.wheel w).Fits (u.par .maxWheelSpeed) := fun w => by
    have wheel : u.wheel w = s.wheel w := by cases w <;> simp only [State.wheel, wd]
    rw [wheel, State.par, same]
    exact h.wheels w
  have driven := wheelsEnter_drives (old := s.mp.mode) (params.of_params same) wheels (by rw [mp]; exact run)
  generalize wheelsEnter s.mp.mode u = x at driven
  have start : x.mp.mode = .start → x.pm.move = none → (platesEnter x).pm.move = none := fun e none => by
    unfold platesEnter
    rw [e]
    exact none
  exact driven.of_blocks (by simp) (by simp [State.par]) (by simp [State.par]) (by simp) (by simp) start

/-- Outside START the feed limit does not look at the mode (R177). -/
theorem State.feedLimitNow_entering {m : Mode} {s : State} (was : s.mp.mode ≠ .start) (run : m ≠ .start) :
    (s.entering m).feedLimitNow = s.feedLimitNow := by
  obtain ⟨params, mp, -, -, sr⟩ := s.entering_keeps m
  unfold State.feedLimitNow State.slurryLimitedFeed State.maxFlow State.par
  rw [mp, params, sr]
  exact (if_neg run).trans (if_neg was).symm

/-- A change of mode keeps the outputs what their rules make them (R38). -/
theorem changeMode_outputs {m : Mode} {s : State} (run : m ≠ .start) (h : s.OutputsKept) : (changeMode m s).OutputsKept := by
  by_cases same : s.mp.mode = m
  · unfold changeMode
    rw [if_pos same]
    exact h
  · have driven := s.entering_drives run h.params h.drives
    have limit := fun was => s.feedLimitNow_entering (m := m) was run
    obtain ⟨params, mp, di, tu, sr⟩ := s.entering_keeps m
    rw [changeMode_eq same]
    generalize s.entering m = u at *
    have entered := slurryEnter_outputs (old := s.mp.mode) (s := u) (h.params.of_params params) driven
      (by rw [sr, di]; exact h.flow.copy) (fun was => by rw [limit was, sr]; exact h.flow.limit) (by rw [mp]; exact run)
      (by rw [sr, State.tripped, tu]; exact (h.pump trivial).flush)
    exact entered.reported _

theorem holdTest_outputs {s : State} (h : s.OutputsKept) : (holdTest s).OutputsKept := by
  unfold holdTest
  split
  · split
    · exact changeMode_outputs (by decide) (h.counted 17)
    · exact h
  · split
    · exact h
    · exact changeMode_outputs (by decide) h
  all_goals exact h

theorem emergencyStandby_outputs {s : State} (h : s.OutputsKept) : (emergencyStandby s).OutputsKept := by
  unfold emergencyStandby
  split
  iterate 3 exact changeMode_outputs (by decide) h
  all_goals exact h

/-! ### The groups -/

/-- The owner of a group whose state differs is told (R204). -/
def reportGroup (before after : GroupSet) (s : State) (g : Group) : State :=
  if before.getLsbD g.bit = after.getLsbD g.bit then s else groupReport g (after.getLsbD g.bit) s

theorem recomputeGroups_eq (s : State) : recomputeGroups s =
    Group.all.foldl (reportGroup s.tu.groups s.tu.groupsNow) { s with tu := { s.tu with groups := s.tu.groupsNow } } := rfl

theorem reportGroup_tu (before after : GroupSet) (s : State) (g : Group) : (reportGroup before after s g).tu = s.tu := by
  unfold reportGroup
  split <;> simp

/-- A wheel whose group trips (R169). -/
theorem wheelTripped_outputs {p q : Prop} {s : State} (w : WheelId) (h : s.OutputsOwe p q) :
    (wheelTripped w s).OutputsOwe p q := by
  have fits := h.drives.wheels w
  have still : s.mp.mode = .start → (s.wheel w).state = .stopped := fun start => (h.drives.still start).1 w
  have nonneg := fits.nonneg
  unfold wheelTripped
  dsimp only
  split
  case h_5 state =>
    exact changeWheel_outputs h (fits.directed (Int.le_refl 0) nonneg (s.wheel w).direction) still
  case h_6 | h_7 => exact h
  all_goals
    rename_i state
    exact changeWheel_outputs h (fits.toStopping.directed (Int.le_refl 0) nonneg (s.wheel w).direction) fun start => by
      rw [still start] at state
      cases state

/-- The groups of the wheels and of the plates leave SR as it is. -/
theorem reportGroup_outputs {p q : Prop} {s : State} (before after : GroupSet) {g : Group} (pump : g ≠ .pump) (feed : g ≠ .feed)
    (h : s.OutputsOwe p q) : (reportGroup before after s g).OutputsOwe p q := by
  unfold reportGroup
  split
  · exact h
  · cases g with
    | wheel w =>
      cases after.getLsbD (Group.wheel w).bit
      · exact h
      · exact wheelTripped_outputs w h
    | plates =>
      cases after.getLsbD Group.plates.bit
      · exact h.of_same (t := platesRelease s) {}
      · exact h.of_same (t := platesHalt s) { move := fun _ _ => rfl }
    | pump => exact absurd rfl pump
    | feed => exact absurd rfl feed

/-- The report to the pump pays what is owed of it (R185). -/
theorem reportPump_outputs {q : Prop} {s : State} {before after : GroupSet} (groups : s.tu.groups = after)
    (h : s.OutputsOwe (before.getLsbD Group.pump.bit = after.getLsbD Group.pump.bit) q) :
    (reportGroup before after s .pump).OutputsOwe True q := by
  have refreshed : ∀ u : State, u.ParamsInRange → u.DrivesKept → u.FlowKept →
      (u.sr.backflushTimer ≠ none → u.tripped .pump = false) → (recomputePermit (refreshPump u)).OutputsOwe True q := by
    intro u params drives flow flush
    have pump := refreshPump_pump flush
    have balanced := refreshPump_flow flow
    have driven : (refreshPump u).DrivesKept := drives.of_blocks (by simp) (by simp [State.par]) (by simp [State.par]) (by simp)
      (by simp) fun _ => by simp
    exact State.OutputsOwe.permitted (q := False)
      ⟨params.of_params (by simp), driven, balanced, fun _ => pump, False.elim⟩
  unfold reportGroup
  split
  · rename_i same
    exact { h with pump := fun _ => h.pump same }
  · cases bit : after.getLsbD Group.pump.bit with
    | false =>
      refine refreshed s h.params h.drives h.flow fun _ => ?_
      rw [State.tripped, groups]
      exact bit
    | true =>
      refine refreshed { s with sr := { s.sr with backflushTimer := none, trim := 0, manualTarget := 0 } } h.params
        (h.drives.of_blocks rfl rfl rfl rfl rfl fun _ none => none)
        ⟨h.flow.copy, h.flow.required, h.flow.limit, ⟨fun _ => rfl, (by decide : (-100 : Int) ≤ 0 ∧ (0 : Int) ≤ 100)⟩,
          fun run => absurd rfl run⟩ fun run => absurd rfl run

/-- The report to the feed pays what is owed of the permit (R186). -/
theorem reportFeed_outputs {s : State} {before after : GroupSet}
    (h : s.OutputsOwe True (before.getLsbD Group.feed.bit = after.getLsbD Group.feed.bit)) :
    (reportGroup before after s .feed).OutputsKept := by
  unfold reportGroup
  split
  · rename_i same
    exact { h with permit := fun _ => h.permit same }
  · exact h.permitted

/-- Groups that have changed owe the pump its report and SR the permit (R204). -/
theorem State.OutputsOwe.regrouped {s : State} (h : s.OutputsKept) (after : GroupSet) :
    ({ s with tu := { s.tu with groups := after } } : State).OutputsOwe
      (s.tu.groups.getLsbD Group.pump.bit = after.getLsbD Group.pump.bit)
      (s.tu.groups.getLsbD Group.feed.bit = after.getLsbD Group.feed.bit) := by
  refine ⟨h.params, h.drives.of_blocks rfl rfl rfl rfl rfl fun _ none => none, h.flow.of_same {} rfl, fun same => ?_, fun same => ?_⟩
  · exact (h.pump trivial).of_same {} rfl same.symm
  · have permit : s.sr.feedPermit = s.permitNow := h.permit trivial
    refine permit.trans ?_
    unfold State.permitNow State.tripped
    rw [same]
    rfl

/-- Groups computed anew keep the outputs what their rules make them (R204, R205). -/
theorem recomputeGroups_outputs {s : State} (h : s.OutputsKept) : (recomputeGroups s).OutputsKept := by
  have began := h.regrouped s.tu.groupsNow
  rw [recomputeGroups_eq]
  generalize s.tu.groups = before at *
  generalize s.tu.groupsNow = after at *
  have groups : ({ s with tu := { s.tu with groups := after } } : State).tu.groups = after := rfl
  generalize ({ s with tu := { s.tu with groups := after } } : State) = u at *
  have wheels := reportGroup_outputs before after (g := .wheel .b) (by decide) (by decide)
    (reportGroup_outputs before after (g := .wheel .a) (by decide) (by decide) began)
  have plates := reportGroup_outputs before after (g := .plates) (by decide) (by decide) wheels
  exact reportFeed_outputs (reportPump_outputs (by rw [reportGroup_tu, reportGroup_tu, reportGroup_tu, groups]) plates)

theorem setSource_outputs (i : Source) (st : SourceState) {s : State} (h : s.OutputsKept) : (setSource i st s).OutputsKept := by
  have stored : ({ s with tu := { s.tu with sources := s.tu.sources.set i.val st i.isLt } } : State).OutputsKept := h.of_same {}
  exact recomputeGroups_outputs stored

/-- A condition reported keeps the outputs what their rules make them (R203). -/
theorem condition_outputs (i : Source) (b : Bool) {s : State} (h : s.OutputsKept) : (condition i b s).OutputsKept := by
  have latched := setSource_outputs i .latched h
  have told := (setSource_outputs i .active h).reported (.trip i)
  unfold condition
  generalize setSource i .active s = u at told
  generalize setSource i .latched s = v at latched
  split
  iterate 2
    dsimp only
    split
    · exact emergencyStandby_outputs told
    · exact told
  · exact latched
  all_goals exact h

theorem tellChange_outputs (i : Source) (old now : Bool) {s : State} (h : s.OutputsKept) : (tellChange i old now s).OutputsKept := by
  unfold tellChange
  split
  · exact h
  · exact condition_outputs i now h

/-! ### Steering and plates -/

theorem setApplied_state (d : Int) (s : State) (w : WheelId) : ((setApplied d s).wheel w).state = (s.wheel w).state := by
  unfold setApplied
  split
  · rfl
  · rw [formTargets_state]
    rfl

theorem differentialSent_state (d : Int) (s : State) (w : WheelId) :
    ((differentialSent d s).wheel w).state = (s.wheel w).state := setApplied_state _ s w

/-- SL sets its demand and WD takes a differential that follows it (R103, R124, R131, R158). -/
theorem differentialSent_outputs {s : State} {d : Int} (demands : Vector Int 8) (demand : Int) (params : s.ParamsInRange)
    (wheels : ∀ w, (s.wheel w).Fits (s.par .maxWheelSpeed))
    (still : s.mp.mode = .start → (∀ w, (s.wheel w).state = .stopped) ∧ s.pm.move = none) (flow : s.FlowKept)
    (pump : s.PumpKept) (permit : s.PermitFollows) (low : -(s.par .diffMax) ≤ d) (high : d ≤ s.par .diffMax)
    (sent : d = 0 ∨ d = demand) :
    (differentialSent d { s with sl := { s.sl with plateDemands := demands, diffDemand := demand } }).OutputsKept := by
  have drives := differentialSent_drives (s := { s with sl := { s.sl with plateDemands := demands, diffDemand := demand } })
    params wheels low high sent still
  have states : ∀ w, ((differentialSent d { s with sl := { s.sl with plateDemands := demands, diffDemand := demand } }).wheel w).state =
      (s.wheel w).state := differentialSent_state d _
  obtain ⟨-, par, -, -, mp, -, di, -, -, sr, tu, -⟩ :=
    differentialSent_keeps d { s with sl := { s.sl with plateDemands := demands, diffDemand := demand } }
  generalize differentialSent d { s with sl := { s.sl with plateDemands := demands, diffDemand := demand } } = t at *
  refine .driven params flow (fun _ => pump) drives par mp di tu (by rw [sr]) fun _ => ?_
  unfold State.PermitFollows
  rw [State.permitNow_congr (s := s) (by rw [mp]) states (by simp only [State.tripped, tu]) (by rw [sr]), sr]
  exact permit

theorem State.OutputsOwe.steered {s : State} {d : Int} (demands : Vector Int 8) (demand : Int) (h : s.OutputsKept)
    (low : -(s.par .diffMax) ≤ d) (high : d ≤ s.par .diffMax) (sent : d = 0 ∨ d = demand) :
    (differentialSent d { s with sl := { s.sl with plateDemands := demands, diffDemand := demand } }).OutputsKept :=
  differentialSent_outputs demands demand h.params h.drives.wheels h.drives.still h.flow (h.pump trivial) (h.permit trivial)
    low high sent

/-- PM acts in another mode than START: nothing on which the outputs rest changes. -/
theorem State.OutputsOwe.plated {s t : State} (h : s.OutputsKept) (run : s.mp.mode ≠ .start) (params : t.params = s.params)
    (mp : t.mp = s.mp) (di : t.di = s.di) (sl : t.sl = s.sl) (wd : t.wd = s.wd) (sr : t.sr = s.sr) (tu : t.tu = s.tu) :
    t.OutputsKept :=
  h.of_same (.of_blocks params mp (by rw [di]) wd (by rw [sl]) (by rw [sr]) (by rw [sr]) tu fun start => absurd start run)

theorem plateRequest_outputs (p : Plate) (n : Nat) (c : PlateClass) {s : State} (run : s.mp.mode ≠ .start) (h : s.OutputsKept) :
    (plateRequest p n c s).OutputsKept :=
  h.plated run (by simp) (by simp) (by simp) (by simp) (by simp) (by simp) (by simp)

/-- A move in flight is not in START. -/
theorem State.OutputsOwe.moving {p q : Prop} {s : State} {m : PlateMove} (h : s.OutputsOwe p q) (move : s.pm.move = some m) :
    s.mp.mode ≠ .start := fun start => by
  rw [(h.drives.still start).2] at move
  cases move

theorem failMove_outputs {m : PlateMove} {s : State} (move : s.pm.move = some m) (h : s.OutputsKept) :
    (failMove m.plate s).OutputsKept :=
  h.plated (h.moving move) (by simp) (by simp) (by simp) (by simp) (by simp) (by simp) (by simp)

theorem plateChannelLeft_outputs (p : Plate) {s : State} (h : s.OutputsKept) : (plateChannelLeft p s).OutputsKept := by
  cases move : s.pm.move with
  | none =>
    have same : plateChannelLeft p s = s := by
      unfold plateChannelLeft
      rw [move]
    rw [same]
    exact h
  | some m => exact h.plated (h.moving move) (by simp) (by simp) (by simp) (by simp) (by simp) (by simp) (by simp)

theorem plateArrival_outputs (p : Plate) {s : State} (h : s.OutputsKept) : (plateArrival p s).OutputsKept := by
  cases move : s.pm.move with
  | none =>
    have same : plateArrival p s = s := by
      unfold plateArrival
      rw [move]
    rw [same]
    exact h
  | some m => exact h.plated (h.moving move) (by simp) (by simp) (by simp) (by simp) (by simp) (by simp) (by simp)

/-- The differential of an X error lies within the limit (R121). -/
theorem differentialOf_mem (e : Int) (b : Band) {limit : Int} (h : 0 ≤ limit) :
    -limit ≤ differentialOf e b limit ∧ differentialOf e b limit ≤ limit := clamp_mem (by omega) _

theorem State.ParamsInRange.diffMax {s : State} (h : s.ParamsInRange) : 0 ≤ s.par .diffMax := (h.1 .diffMax).1

theorem State.ParamsInRange.top {s : State} (h : s.ParamsInRange) : 0 ≤ s.par .maxWheelSpeed :=
  le_trans (by decide) (h.1 .maxWheelSpeed).1

/-- Steering runs in AUTO alone (R117). -/
theorem steerAtDepth_outputs {s : State} (h : s.OutputsKept) : (steerAtDepth s).OutputsKept := by
  have limit := h.params.diffMax
  unfold steerAtDepth
  split
  · rename_i auto
    dsimp only
    split
    · obtain ⟨low, high⟩ := differentialOf_mem (s.errorX (s.bandAt s.di.depth)) (s.bandAt s.di.depth) limit
      have sent := h.steered (Vector.ofFn fun p => s.demandOf (s.bandAt s.di.depth) p) _ low high (.inr rfl)
      have mode : (differentialSent (differentialOf (s.errorX (s.bandAt s.di.depth)) (s.bandAt s.di.depth) (s.par .diffMax))
        { s with sl := { s.sl with
          plateDemands := Vector.ofFn fun p => s.demandOf (s.bandAt s.di.depth) p
          diffDemand := differentialOf (s.errorX (s.bandAt s.di.depth)) (s.bandAt s.di.depth) (s.par .diffMax) } }).mp.mode ≠
          .start := by simp [auto]
      refine (foldl_preserves (fun u : State => u.OutputsKept ∧ u.mp.mode ≠ .start) _ (fun u p k => ?_) _ _ ⟨sent, mode⟩).1
      unfold handPlate
      dsimp only
      split
      · exact ⟨plateRequest_outputs p _ _ k.2 k.1, by simpa using k.2⟩
      · exact k
    · exact h.steered s.sl.plateDemands 0 (by omega) limit (.inl rfl)
  · exact h

/-! ### The depth event -/

/-- A feed rate handed to SR: the flow and the pump follow it (R75, R173). -/
theorem setRing_outputs (l : List RingEntry) {s : State} (h : s.OutputsKept) : (setRing l s).OutputsKept := by
  unfold setRing
  dsimp only
  generalize ringRate l = rate
  split
  · rename_i same
    exact h.of_same { rate := same }
  · obtain ⟨pumpState, command, flush⟩ := h.pump trivial
    have balanced := recomputeRequired_flow (s := { s with
      di := { s.di with ring := l, feedRate := rate }, sr := { s.sr with feedCopy := rate } })
      rfl h.flow.limit h.flow.trim h.flow.flush
    have pump := recomputePump_pump (s := recomputeRequired { s with
      di := { s.di with ring := l, feedRate := rate }, sr := { s.sr with feedCopy := rate } }) pumpState flush
    have flow := recomputePump_flow balanced
    unfold feedHandOff
    refine h.pumped (fun _ => pump) flow (by simp) (by simp) (by simp) (by simp) (by simp) (by simp) ?_ ?_
    · rw [recomputePump_eq]
      rfl
    · rw [recomputePump_eq]
      rfl

theorem updateRing_outputs (d : Int) {s : State} (h : s.OutputsKept) : (updateRing d s).OutputsKept := by
  unfold updateRing
  dsimp only
  split
  · exact h
  · exact setRing_outputs _ h

theorem changeOpen_outputs {p q : Prop} (f : OpenRecord → OpenRecord) {s : State} (h : s.OutputsOwe p q) :
    (changeOpen f s).OutputsOwe p q := h.of_same {}

theorem integrateTo_rate (d : Int) (s : State) : (integrateTo d s).di.feedRate = s.di.feedRate := by
  obtain ⟨path, di⟩ := integrateTo_di d s
  rw [di]

theorem closeStation_rate (k b : Int) (r : Bool) (s : State) : (closeStation k b r s).di.feedRate = s.di.feedRate := by
  unfold closeStation
  split
  · split
    · unfold writeRecord
      dsimp only
      split <;> simp
    · rfl
  · rfl

theorem takeStep_rate (d : Int) (r : Bool) (s : State) : (takeStep d r s).di.feedRate = s.di.feedRate := by
  unfold takeStep
  dsimp only
  rw [integrateTo_rate]
  split
  · exact foldl_keeps (crossDown r) (fun u : State => u.di.feedRate)
      (fun u b => (closeStation_rate _ b r (integrateTo b u)).trans (integrateTo_rate b u)) _ s
  · exact foldl_keeps crossUp (fun u : State => u.di.feedRate) (fun u b => integrateTo_rate b u) _ s

theorem takeStep_outputs (d : Int) (r : Bool) {s : State} (h : s.OutputsKept) : (takeStep d r s).OutputsKept :=
  h.of_same (.of_blocks (by simp) (by simp) (takeStep_rate d r s) (by simp) (by simp) (by simp) (by simp) (by simp)
    fun _ none => by simpa using none)

theorem depthHandOff_outputs (before : Int) {s : State} (h : s.OutputsKept) : (depthHandOff before s).OutputsKept := by
  have reported : (reportDepth before s).OutputsKept := by
    unfold reportDepth
    split
    · exact h
    · exact h.reported _
  unfold depthHandOff
  generalize reportDepth before s = u at reported
  exact steerAtDepth_outputs (reported.of_same (t := cutterHandOff u) {})

theorem depthEvent_outputs (d : Int) (r : Bool) {s : State} (h : s.OutputsKept) : (depthEvent d r s).OutputsKept := by
  have began : (if r then emptyRing s else s).OutputsKept := by
    split
    · exact setRing_outputs [] h
    · exact h
  unfold depthEvent
  dsimp only
  generalize (if r then emptyRing s else s) = u at began
  split
  · have moved : ({ u with di := { u.di with depth := d } } : State).OutputsKept := began.of_same {}
    have ringed := updateRing_outputs d moved
    unfold reportDepth
    split
    · exact ringed
    · exact ringed.reported _
  · split
    · exact updateRing_outputs d began
    · split
      · have stepped := takeStep_outputs d r began
        generalize takeStep d r u = v at stepped
        have marked : (markRecovery r v).OutputsKept := by
          unfold markRecovery
          split
          · exact changeOpen_outputs _ stepped
          · exact stepped
        exact depthHandOff_outputs _ (updateRing_outputs d marked)
      · have anchored : (anchor d u).OutputsKept := began.of_same {}
        exact depthHandOff_outputs _ (updateRing_outputs d anchored)

/-! ### Channels -/

theorem sensorStaleWatch_outputs {s : State} (h : s.OutputsKept) : (sensorStaleWatch s).OutputsKept := by
  have stored : ({ s with fc := { s.fc with sensorStale := s.sensorStaleNow } } : State).OutputsKept := h.of_same {}
  rw [sensorStaleWatch_eq]
  exact tellChange_outputs _ _ _ stored

theorem derive_outputs (a : Axis) {s : State} (h : s.OutputsKept) : (derive a s).OutputsKept := by
  have derived : (s.derived a).OutputsKept := by
    unfold State.derived slopeCause slopeHandOff
    generalize s.derivedSlope a = v
    exact h.of_same {}
  rw [derive_eq, inclLimitWatch_eq, disagreeWatch_eq]
  generalize s.derived a = u at derived
  have agreed : ({ u with fc := { u.fc with inclDisagree := u.stillDisagrees } } : State).OutputsKept := derived.of_same {}
  have told := tellChange_outputs Source.inclDisagree u.fc.inclDisagree u.stillDisagrees agreed
  generalize tellChange Source.inclDisagree u.fc.inclDisagree u.stillDisagrees
    { u with fc := { u.fc with inclDisagree := u.stillDisagrees } } = v at told
  have limited : ({ v with fc := { v.fc with inclLimit := v.tilted } } : State).OutputsKept := told.of_same {}
  exact tellChange_outputs _ _ _ limited

theorem wheelChannelLeft_outputs (w : WheelId) {s : State} (h : s.OutputsKept) : (wheelChannelLeft w s).OutputsKept :=
  changeWheel_outputs h (h.drives.wheels w).unwatched fun start => (h.drives.still start).1 w

theorem channelReport_outputs (c : Channel) {s : State} (h : s.OutputsKept) : (channelReport c s).OutputsKept := by
  unfold channelReport
  cases c with
  | incl m a => exact derive_outputs a h
  | retDens => exact h
  | twist =>
    dsimp only
    split
    · exact changeOpen_outputs _ h
    · exact h
  | depth =>
    have caused : (setDepthCause (!s.fresh .depth) s).OutputsKept := h.of_same {}
    dsimp only
    split
    · exact changeOpen_outputs _ caused
    · exact caused
  | speed w | press w =>
    dsimp only
    split
    · exact wheelChannelLeft_outputs w h
    · exact h
  | plate p =>
    dsimp only
    split
    · exact plateChannelLeft_outputs p h
    · exact h
  | pumpPress | retFlow =>
    dsimp only
    split
    · exact h.of_same {}
    · exact h

theorem forceStale_outputs {s : State} (h : s.OutputsKept) : (forceStale s).OutputsKept := by
  have forced : ({ s.setChan .depth { s.chan .depth with state := .stale, good := 0, unjudged := true } with
    fc := { (s.setChan .depth { s.chan .depth with state := .stale, good := 0, unjudged := true }).fc with
      recovery := true, rejections := 0 } } : State).OutputsKept := h.of_same {}
  unfold forceStale
  dsimp only
  split
  · exact sensorStaleWatch_outputs (holdTest_outputs (channelReport_outputs .depth forced))
  · exact forced

theorem rejectDepth_outputs {s : State} (h : s.OutputsKept) : (rejectDepth s).OutputsKept := by
  have counted := h.counted 5
  unfold rejectDepth
  generalize s.count 5 = u at counted
  dsimp only
  split
  · exact counted.of_same {}
  · exact forceStale_outputs counted

theorem acceptDepth_outputs (d raw : Int) (r : Bool) {s : State} (h : s.OutputsKept) : (acceptDepth d raw r s).OutputsKept := by
  have accepted : ({ s with fc := { s.fc with
    lastAccepted := some d, lastRaw := some raw, rejections := 0, recovery := false, accepted := true } } : State).OutputsKept :=
    h.of_same {}
  exact depthEvent_outputs d r accepted

theorem depthArrival_outputs (v : Int) {s : State} (h : s.OutputsKept) : (depthArrival v s).OutputsKept := by
  unfold depthArrival
  dsimp only
  split
  · exact rejectDepth_outputs h
  · split
    · exact acceptDepth_outputs _ _ _ h
    · split
      · split
        · exact acceptDepth_outputs _ _ _ h
        · exact h
      · split
        · exact rejectDepth_outputs h
        · exact acceptDepth_outputs _ _ _ h

/-! ### Wheels and pump at an arrival -/

theorem speedArrival_outputs (w : WheelId) (m : Int) {s : State} (h : s.OutputsKept) : (speedArrival w m s).OutputsKept := by
  have ramped := rampTest_fits m (rampStep_fits h.params (h.drives.wheels w))
  refine changeWheel_outputs h (stallEvaluate_fits w ramped) fun start => ?_
  rw [stallEvaluate_state]
  exact rampTest_stopped m ((rampStep_state _ s).trans ((h.drives.still start).1 w))

theorem pressArrival_outputs (w : WheelId) {s : State} (h : s.OutputsKept) : (pressArrival w s).OutputsKept := by
  refine changeWheel_outputs h (stallEvaluate_fits w (h.drives.wheels w)) fun start => ?_
  rw [stallEvaluate_state]
  exact (h.drives.still start).1 w

theorem blockageWatch_outputs {s : State} (h : s.OutputsKept) : (blockageWatch s).OutputsKept := by
  unfold blockageWatch
  split
  · split
    · split
      · exact h
      · exact h.of_same {}
    · have ended : ({ s with sr := { s.sr with blockTimer := none, returnBlocked := false } } : State).OutputsKept := h.of_same {}
      dsimp only
      split
      · exact condition_outputs _ _ ended
      · exact ended
  · exact h

/-- The trim moves within its bounds, in AUTO alone (R175). -/
theorem adjustTrim_outputs (v : Int) {s : State} (h : s.OutputsKept) : (adjustTrim v s).OutputsKept := by
  unfold adjustTrim
  split
  · rename_i balance
    obtain ⟨-, auto, -⟩ := balance
    obtain ⟨-, low, high⟩ := h.flow.trim
    obtain ⟨state, -, flush⟩ := h.pump trivial
    have bounds : -100 ≤ s.trimAfter v ∧ s.trimAfter v ≤ 100 := by
      unfold State.trimAfter
      dsimp only
      split
      · split <;> omega
      · exact ⟨low, high⟩
    generalize s.trimAfter v = trim at bounds
    have flow : ({ s with sr := { s.sr with trim := trim } } : State).FlowKept :=
      ⟨h.flow.copy, h.flow.required, h.flow.limit, ⟨fun no => absurd auto no, bounds⟩, h.flow.flush⟩
    have pump := recomputePump_pump (s := { s with sr := { s.sr with trim := trim } }) state flush
    refine h.pumped (fun _ => pump) (recomputePump_flow flow) (by simp) (by simp) (by simp) (by simp) (by simp) (by simp) ?_ ?_
    · rw [recomputePump_eq]
    · rw [recomputePump_eq]
  · exact h

/-- The feed limit follows the soft-density mark (R177, R179). -/
theorem softWatch_outputs (v : Int) {s : State} (h : s.OutputsKept) : (softWatch v s).OutputsKept := by
  unfold softWatch
  dsimp only
  generalize decide (s.par .softLimit < v) = mark
  split
  · exact h
  · obtain ⟨state, command, flush⟩ := h.pump trivial
    exact h.pumped (fun _ => ⟨state, command, flush⟩)
      (recomputeFeedLimit_flow (s := { s with sr := { s.sr with softMark := mark } }) h.flow.copy h.flow.required h.flow.trim
        h.flow.flush) rfl rfl rfl rfl rfl rfl rfl rfl

theorem densityWatch_outputs (v : Int) {s : State} (h : s.OutputsKept) : (densityWatch v s).OutputsKept := by
  have marked := softWatch_outputs v h
  rw [densityWatch_eq]
  generalize softWatch v s = u at marked
  have stored : ({ u with sr := { u.sr with returnHeavy := s.par .hardLimit < v } } : State).OutputsKept := marked.of_same {}
  exact tellChange_outputs _ _ _ stored

/-- An attribution goes to DI's records alone (R92, R93). -/
theorem attribution_outputs (k pass : Nat) (d : Int) (v : Nat) {s : State} (h : s.OutputsKept) :
    (attribution k pass d v s).OutputsKept := by
  have counted := h.counted 10
  have accepted : (changeOpen (fun r => r.accept d v) s).OutputsKept := changeOpen_outputs _ h
  unfold attribution
  generalize s.count 10 = c at counted
  split
  · exact counted
  · split
    · exact accepted.reported _
    · split
      · rename_i r _
        split
        · have weighed : ({ s with di := { s.di with log := Log.store s.di.log (r.weigh d v) } } : State).OutputsKept :=
            h.of_same {}
          exact weighed.reported _
        · exact counted
      · exact counted

/-- Pumped volume, placing and the arrival test change the transit line alone of SR (R188, R191, R194). -/
theorem pumpedVolume_outputs (flow : Int) {s : State} (h : s.OutputsKept) : (pumpedVolume flow s).OutputsKept := by
  have tests : ∀ {u : State}, u.OutputsKept → (testArrivals u).OutputsKept := fun {u} k => by
    have left : ({ u with sr := { u.sr with line := (lineArrivals u.sr.vPump u.sr.line).1 } } : State).OutputsKept := k.of_same {}
    unfold testArrivals
    refine foldl_preserves State.OutputsKept _ (fun w p kept => ?_) _ _ left
    unfold attributeParcel
    split
    · exact kept
    · exact attribution_outputs _ _ _ _ kept
  have places : ∀ (v : Litres) (n : Nat) {u : State}, u.OutputsKept → (placeLitres v n u).OutputsKept := fun v n u k => by
    have sr := placeLitres_sr v n u
    exact k.of_same (.of_blocks (by simp) (by simp) (by simp) (by simp) (by simp) (by rw [sr]; rfl) (by rw [sr]) (by simp)
      fun _ none => by simpa using none)
  have timed : ({ s with sr := { s.sr with prevFlow := some s.runTime } } : State).OutputsKept := h.of_same {}
  unfold pumpedVolume
  dsimp only
  generalize ((elapsedSince s.runTime s.sr.prevFlow : Nat) : Int) = elapsed
  split
  · have pumped : ∀ (v : Litres) (r : Int), ({ s with sr := { s.sr with prevFlow := some s.runTime, vPump := v, flowResidue := r } } :
        State).OutputsKept := fun _ _ => h.of_same {}
    split
    · exact tests (places _ _ (pumped _ _))
    · exact pumped _ _
  · exact timed

/-! ### The acts -/

theorem channelsChange_outputs {l : List Channel} {s : State} (h : s.OutputsKept) :
    (sensorStaleWatch (holdTest (l.foldl (fun u c => channelReport c u) s))).OutputsKept :=
  sensorStaleWatch_outputs (holdTest_outputs
    (foldl_preserves State.OutputsKept _ (fun _ c kept => channelReport_outputs c kept) _ _ h))

theorem passValue_outputs (c : Channel) (v : Int) {s : State} (h : s.OutputsKept) : (passValue c v s).OutputsKept := by
  cases c with
  | incl m a => exact holdTest_outputs (derive_outputs a h)
  | twist =>
    have stored : ({ s with fc := { s.fc with twistLimit := s.twisted } } : State).OutputsKept := h.of_same {}
    change (twistLimitWatch s).OutputsKept
    rw [twistLimitWatch_eq]
    exact tellChange_outputs _ _ _ stored
  | depth => exact depthArrival_outputs v h
  | speed w => exact changeOpen_outputs _ (speedArrival_outputs w v h)
  | press w => exact changeOpen_outputs _ (pressArrival_outputs w h)
  | plate p => exact plateArrival_outputs p h
  | pumpPress => exact blockageWatch_outputs h
  | retFlow => exact pumpedVolume_outputs v (changeOpen_outputs _ (adjustTrim_outputs v (blockageWatch_outputs h)))
  | retDens =>
    have watched := densityWatch_outputs v h
    change (densitySample v (densityWatch v s)).OutputsKept
    generalize densityWatch v s = u at watched
    unfold densitySample
    split
    · split
      · exact watched.of_same {}
      · exact watched
    · exact watched

theorem arrival_outputs (c : Channel) (v : Int) {s : State} (h : s.OutputsKept) : (arrival c v s).OutputsKept := by
  have entered : (s.seen c v).OutputsKept := h.of_same {}
  rw [arrival_seen]
  refine passValue_outputs c v ?_
  split
  · exact channelsChange_outputs (l := [c]) entered
  · exact entered

theorem windowEnd_outputs {s : State} (h : s.OutputsKept) : (windowEnd s).OutputsKept := by
  rw [windowEnd_eq]
  have next : s.nextWindow.OutputsKept := by
    unfold State.nextWindow
    generalize s.fc.windowTimer.start + BitVec.ofNat 32 Config.windowPeriod = start
    exact h.of_same {}
  generalize s.nextWindow = u at next
  refine channelsChange_outputs (next.of_same (.of_blocks ?_ ?_ ?_ ?_ ?_ ?_ ?_ ?_ fun _ none => ?_))
  all_goals simp
  exact none

theorem putInput_outputs (i : InputId) (v : DiscreteInput) {s : State} (h : s.OutputsKept) : (s.putInput i v).OutputsKept := by
  cases i <;> exact h.of_same {}

theorem passInput_outputs (i : InputId) {s : State} (h : s.OutputsKept) : (passInput i s).OutputsKept :=
  condition_outputs _ _ (putInput_outputs i _ h)

theorem inputChange_outputs (i : InputId) (l : Level) {s : State} (h : s.OutputsKept) : (inputChange i l s).OutputsKept := by
  unfold inputChange
  dsimp only
  split
  · exact h
  · have stored := putInput_outputs i { s.input i with raw := l } h
    split
    · exact putInput_outputs i _ stored
    · split
      · exact stored
      · split
        · exact passInput_outputs i stored
        · exact putInput_outputs i _ stored

theorem disagreementPersists_outputs (a : Axis) {s : State} (h : s.OutputsKept) : (disagreementPersists a s).OutputsKept := by
  have marked : (s.putSlope a { s.fc.slopes.get a with timer := none, persistent := true }).OutputsKept := h.of_same {}
  unfold disagreementPersists
  dsimp only
  generalize s.putSlope a { s.fc.slopes.get a with timer := none, persistent := true } = u at marked
  split
  · exact marked
  · have stored : ({ u with fc := { u.fc with inclDisagree := true } } : State).OutputsKept := marked.of_same {}
    exact condition_outputs _ _ stored

/-- A reversing wheel ramps when its time is over (R165). -/
theorem reverseEnd_outputs {w : WheelId} {s : State} (reversing : (s.wheel w).state = .reversing) (h : s.OutputsKept) :
    (reverseEnd w s).OutputsKept := by
  have fits := h.drives.wheels w
  have ramping : Wheel.Fits (s.par .maxWheelSpeed) { s.wheel w with state := .ramping, stateTimer := none } :=
    { fits with rests := by simp, stands := by simp, timed := by simp, watched := by simp }
  refine changeWheel_outputs h (ramping.formed w) fun start => ?_
  rw [(h.drives.still start).1 w] at reversing
  cases reversing

theorem State.pumpStateNow_backflush {s : State} (untripped : s.tripped .pump = false) (run : s.backflushing = true) :
    s.pumpStateNow = .backflush := by
  unfold State.pumpStateNow
  rw [untripped, run]
  rfl

/-- A backflush starts in MANUAL or AUTO with the PUMP group untripped (R181, R182). -/
theorem emptyLine_same (s : State) : s.SameOutputs (emptyLine s) := by
  obtain ⟨c, shape⟩ := emptyLine_shape s
  rw [shape]
  exact {}

theorem startBackflush_outputs {s : State} (allowed : s.backflushAllowed = true) (h : s.OutputsKept) :
    (startBackflush s).OutputsKept := by
  simp only [State.backflushAllowed, Bool.and_eq_true, Bool.or_eq_true, beq_iff_eq, Bool.not_eq_true'] at allowed
  obtain ⟨⟨mode, untripped⟩, -⟩ := allowed
  have cutting : s.mp.mode = .manual ∨ s.mp.mode = .auto ∨ s.mp.mode = .hold := mode.imp_right .inl
  unfold startBackflush
  dsimp only
  generalize s.timer (s.par .backflushTime * 1000) = timer
  have started : ({ s with sr := { s.sr with
      backflushTimer := some timer, pumpState := .backflush, command := s.backflushCommand, trim := 0, blockTimer := none } } :
      State).OutputsOwe True False := by
    refine ⟨h.params, h.drives.of_blocks rfl rfl rfl rfl rfl fun _ none => none,
      ⟨h.flow.copy, h.flow.required, h.flow.limit, ⟨fun _ => rfl, (by decide : (-100 : Int) ≤ 0 ∧ (0 : Int) ≤ 100)⟩, fun _ => cutting⟩,
      fun _ => ⟨?_, rfl, fun _ => untripped⟩, False.elim⟩
    exact (State.pumpStateNow_backflush (by exact untripped) rfl).symm
  generalize ({ s with sr := { s.sr with
      backflushTimer := some timer, pumpState := .backflush, command := s.backflushCommand, trim := 0, blockTimer := none } } :
      State) = u at started
  have emptied : (emptyLine u).OutputsOwe True False :=
    started.of_same (emptyLine_same u)
  exact emptied.permitted

theorem blockagePresent_outputs {s : State} (h : s.OutputsKept) : (blockagePresent s).OutputsKept := by
  have stored : ({ s with sr := { s.sr with blockTimer := none, returnBlocked := true } } : State).OutputsKept := h.of_same {}
  have told := condition_outputs Source.returnBlocked true stored
  unfold blockagePresent
  dsimp only
  generalize condition Source.returnBlocked true { s with sr := { s.sr with blockTimer := none, returnBlocked := true } } = u at told
  split
  · rename_i auto
    exact startBackflush_outputs ((Bool.and_eq_true_iff.1 auto).2) told
  · exact told

/-- The end of a backflush (R183). -/
theorem endBackflush_outputs {s : State} (h : s.OutputsKept) : (endBackflush s).OutputsKept := by
  have ended : ({ s with sr := { s.sr with backflushTimer := none } } : State).FlowKept :=
    ⟨h.flow.copy, h.flow.required, h.flow.limit, h.flow.trim, fun run => absurd rfl run⟩
  have pump := refreshPump_pump (s := { s with sr := { s.sr with backflushTimer := none } }) fun run => absurd rfl run
  have flow := refreshPump_flow ended
  have drives : (refreshPump { s with sr := { s.sr with backflushTimer := none } }).DrivesKept :=
    h.drives.of_blocks (by simp) (by simp [State.par]) (by simp [State.par]) (by simp) (by simp) fun _ none => by simpa using none
  exact State.OutputsOwe.permitted (q := False) ⟨h.params.of_params (by simp), drives, flow, fun _ => pump, False.elim⟩

/-! ### Parameters stored -/

/-- What stands of the outputs while the facts of the balance have changed: all but required flow, pump command and
feed limit (R173, R174, R177). -/
structure State.Unbalanced (s : State) : Prop where
  params : s.ParamsInRange
  drives : s.DrivesKept
  copy : s.sr.feedCopy = s.di.feedRate
  trim : (s.mp.mode ≠ .auto → s.sr.trim = 0) ∧ -100 ≤ s.sr.trim ∧ s.sr.trim ≤ 100
  flush : s.sr.backflushTimer ≠ none → s.mp.mode = .manual ∨ s.mp.mode = .auto ∨ s.mp.mode = .hold
  state : s.sr.pumpState = s.pumpStateNow
  untripped : s.sr.backflushTimer ≠ none → s.tripped .pump = false
  permit : s.PermitFollows

/-- Required flow, pump command and feed limit recomputed for new facts of the balance (R173, R174, R177, R187). -/
theorem State.Unbalanced.outputs {s : State} (h : s.Unbalanced) :
    (recomputeFeedLimit (recomputePump (recomputeRequired s))).OutputsKept := by
  obtain ⟨params, drives, copy, trim, flush, state, untripped, permit⟩ := h
  have pump := recomputePump_pump (s := recomputeRequired s) state untripped
  rw [recomputePump_eq] at pump ⊢
  generalize (recomputeRequired s).pumpCommand = command at *
  exact ⟨params, drives.of_blocks rfl rfl rfl rfl rfl fun _ none => none, ⟨copy, fun _ => rfl, rfl, trim, flush⟩,
    fun _ => ⟨pump.state, pump.command, pump.flush⟩, fun _ => permit⟩

theorem setPar_flow {p : ParamId} {v : Int} {s : State} (plain : p ∉ flowParams) : s.SameFlow (s.setPar p v) :=
  ⟨fun q mem => by rw [State.par_setPar, if_neg fun e : p = q => plain (e ▸ mem)], rfl, fun _ => rfl, rfl, rfl⟩

/-- A parameter on which no output rests is stored (R20). -/
theorem setPar_drives {p : ParamId} {v : Int} {s : State} (top : p ≠ .maxWheelSpeed) (most : p ≠ .diffMax) (h : s.DrivesKept) :
    (s.setPar p v).DrivesKept :=
  h.of_blocks rfl (by rw [State.par_setPar, if_neg top]) (by rw [State.par_setPar, if_neg most]) rfl rfl fun _ none => none

/-- A maximum stored: a lowered one clamps the wheels (R157). -/
theorem maximumStored_drives {old : Int} {s : State} (params : s.ParamsInRange) (fits : ∀ w, (s.wheel w).Fits old)
    (applied : s.MayApply s.wd.applied) (still : s.mp.mode = .start → (∀ w, (s.wheel w).state = .stopped) ∧ s.pm.move = none) :
    (maximumStored old s).DrivesKept ∧ ∀ w, ((maximumStored old s).wheel w).state = (s.wheel w).state := by
  by_cases lowered : s.par .maxWheelSpeed < old
  · obtain ⟨shape, held, limited⟩ := maximumStored_lowered lowered
    have states : ∀ w, ((maximumStored old s).wheel w).state = (s.wheel w).state := fun w => by
      rw [limited]
      rfl
    have each : ∀ w, ((maximumStored old s).wheel w).Fits (s.par .maxWheelSpeed) := fun w => by
      rw [limited]
      exact ((fits w).limited params.top).formed w
    generalize maximumStored old s = t at *
    refine ⟨⟨fun w => ?_, ?_, fun start => ?_⟩, states⟩
    · rw [shape]
      exact each w
    · unfold State.MayApply
      rw [states, states, held, shape]
      exact applied
    · rw [shape] at start
      obtain ⟨stopped, none⟩ := still start
      exact ⟨fun w => (states w).trans (stopped w), by rw [shape]; exact none⟩
  · have kept : maximumStored old s = s := if_neg lowered
    rw [kept]
    exact ⟨⟨fun w => (fits w).weaken (by omega), applied, still⟩, fun _ => rfl⟩

/-- The event that stores the differential limit (R131, R158). -/
theorem diffMaxStored_outputs {s : State} (params : s.ParamsInRange) (wheels : ∀ w, (s.wheel w).Fits (s.par .maxWheelSpeed))
    (applies : s.wd.applied ≠ 0 → s.mp.mode = .auto ∧ (s.wheel .a).state = .running ∧ (s.wheel .b).state = .running)
    (demand : s.wd.applied = 0 ∨ s.wd.applied = s.sl.diffDemand)
    (still : s.mp.mode = .start → (∀ w, (s.wheel w).state = .stopped) ∧ s.pm.move = none) (flow : s.FlowKept)
    (pump : s.PumpKept) (permit : s.PermitFollows) : (diffMaxStored s).OutputsKept := by
  have limit := params.diffMax
  obtain ⟨low, high⟩ := clamp_mem (lo := -(s.par .diffMax)) (hi := s.par .diffMax) (by omega) s.sl.diffDemand
  unfold diffMaxStored
  dsimp only
  generalize clamp (-(s.par .diffMax)) (s.par .diffMax) s.sl.diffDemand = d at *
  split
  · rename_i same
    exact ⟨params, ⟨wheels, ⟨applies, by omega, by omega, demand⟩, still⟩, flow, fun _ => pump, fun _ => permit⟩
  · exact differentialSent_outputs s.sl.plateDemands d params wheels still flow pump permit low high (.inr rfl)

/-- The idle flow is in the command of an IDLE pump alone (R174). -/
theorem State.pumpCommand_setPar_idleFlow (s : State) (v : Int) (other : s.sr.pumpState ≠ .idle) :
    (s.setPar .idleFlow v).pumpCommand = s.pumpCommand := by
  have same : s.SameFlow (s.setPar .idleFlow v) := setPar_flow (by decide)
  have sr : (s.setPar .idleFlow v).sr = s.sr := rfl
  unfold State.pumpCommand
  rw [sr]
  simp only [same.pumpFor]
  cases state : s.sr.pumpState with
  | idle => exact absurd state other
  | _ => rfl

/-- A parameter is stored, and its owner acts on it (R20, R131, R157, R187). -/
theorem storeParameter_outputs (p : ParamId) (sent : Int) {s : State} (h : s.OutputsKept) :
    (storeParameter p (s.storedValue p sent) s).OutputsKept := by
  have params := State.setPar_inRange h.params p sent
  have permit : (s.setPar p (s.storedValue p sent)).PermitFollows := h.permit trivial
  obtain ⟨state, command, untripped⟩ := h.pump trivial
  have kept : ∀ q, p ≠ q → (s.setPar p (s.storedValue p sent)).par q = s.par q := fun q other => by
    rw [State.par_setPar, if_neg other]
  have same : p ∉ flowParams → s.SameFlow (s.setPar p (s.storedValue p sent)) := setPar_flow
  have drives : p ≠ .maxWheelSpeed → p ≠ .diffMax → (s.setPar p (s.storedValue p sent)).DrivesKept := fun top most =>
    setPar_drives top most h.drives
  unfold storeParameter
  by_cases ruled : p ∈ [ParamId.maxWheelSpeed, .diffMax, .idleFlow, .baseFlow, .carry, .pumpMaxRpm, .displacement,
      .operatorFeedLimit]
  · simp only [List.mem_cons, List.not_mem_nil, or_false] at ruled
    rcases ruled with rfl | rfl | rfl | balance
    · have flow := h.flow.of_same (same (by decide)) (kept _ (by decide))
      have pump := (h.pump trivial).of_same (same (by decide)) (kept _ (by decide)) rfl
      obtain ⟨driven, states⟩ := maximumStored_drives (old := s.par .maxWheelSpeed) params h.drives.wheels
        (by unfold State.MayApply; rw [kept _ (by decide)]; exact h.drives.applied) h.drives.still
      obtain ⟨-, par, -, -, mp, -, di, -, -, sr, tu, -⟩ := maximumStored_keeps (s.par .maxWheelSpeed)
        (s.setPar .maxWheelSpeed (s.storedValue .maxWheelSpeed sent))
      change (maximumStored (s.par .maxWheelSpeed) (s.setPar .maxWheelSpeed (s.storedValue .maxWheelSpeed sent))).OutputsKept
      generalize maximumStored (s.par .maxWheelSpeed) (s.setPar .maxWheelSpeed (s.storedValue .maxWheelSpeed sent)) = t at *
      refine .driven params flow (fun _ => pump) driven par mp di tu (by rw [sr]) fun _ => ?_
      unfold State.PermitFollows
      rw [State.permitNow_congr (by rw [mp]) states (by simp only [State.tripped, tu]) (by rw [sr]), sr]
      exact permit
    · have flow := h.flow.of_same (same (by decide)) (kept _ (by decide))
      have pump := (h.pump trivial).of_same (same (by decide)) (kept _ (by decide)) rfl
      have wheels : ∀ w, ((s.setPar .diffMax (s.storedValue .diffMax sent)).wheel w).Fits
          ((s.setPar .diffMax (s.storedValue .diffMax sent)).par .maxWheelSpeed) := by
        rw [kept _ (by decide)]
        exact h.drives.wheels
      obtain ⟨applies, -, -, demand⟩ := h.drives.applied
      exact diffMaxStored_outputs params wheels applies demand h.drives.still flow pump permit
    · have flow := h.flow.of_same (same (by decide)) (kept _ (by decide))
      have other := State.pumpCommand_setPar_idleFlow s (s.storedValue .idleFlow sent)
      have driven := drives (by decide) (by decide)
      change (if (s.setPar .idleFlow (s.storedValue .idleFlow sent)).sr.pumpState = .idle then
        recomputePump (s.setPar .idleFlow (s.storedValue .idleFlow sent)) else
          s.setPar .idleFlow (s.storedValue .idleFlow sent)).OutputsKept
      have stored : s.sr.pumpState ≠ .idle → (s.setPar .idleFlow (s.storedValue .idleFlow sent)).PumpKept := fun idle =>
        ⟨state, command.trans (other idle).symm, untripped⟩
      have pump := recomputePump_pump (s := s.setPar .idleFlow (s.storedValue .idleFlow sent)) state untripped
      have recomputed : (recomputePump (s.setPar .idleFlow (s.storedValue .idleFlow sent))).PermitFollows := by
        rw [recomputePump_eq]
        exact permit
      split
      · exact ⟨params.of_params (by simp), driven.of_blocks (by simp) (by simp [State.par]) (by simp [State.par]) (by simp) (by simp)
          fun _ none => by simpa using none, recomputePump_flow flow, fun _ => pump, fun _ => recomputed⟩
      · exact ⟨params, driven, flow, fun _ => stored ‹_›, fun _ => permit⟩
    · have limited : p = .operatorFeedLimit ∨ p = .baseFlow ∨ p = .carry ∨ p = .pumpMaxRpm ∨ p = .displacement := by tauto
      have driven : (s.setPar p (s.storedValue p sent)).DrivesKept := by
        rcases limited with rfl | rfl | rfl | rfl | rfl <;> exact drives (by decide) (by decide)
      rcases limited with rfl | balance
      · have required : s.mp.mode ≠ .start → s.sr.required =
            (s.setPar .operatorFeedLimit (s.storedValue .operatorFeedLimit sent)).requiredFlow := fun run =>
          (h.flow.required run).trans ((same (by decide)).requiredFlow run).symm
        obtain ⟨state, command, flush⟩ := (h.pump trivial).of_same (same (by decide)) (kept .idleFlow (by decide)) rfl
        exact ⟨params, driven.of_blocks rfl rfl rfl rfl rfl fun _ none => none,
          recomputeFeedLimit_flow h.flow.copy required h.flow.trim h.flow.flush, fun _ => ⟨state, command, flush⟩, fun _ => permit⟩
      · rw [parameterStored_flow balance]
        exact State.Unbalanced.outputs ⟨params, driven, h.flow.copy, h.flow.trim, h.flow.flush, state, untripped, permit⟩
  · rw [parameterStored_plain ruled]
    simp only [List.mem_cons, List.not_mem_nil, or_false, not_or] at ruled
    obtain ⟨top, most, idle, base, carry, rpm, displacement, feed⟩ := ruled
    have plain : p ∉ flowParams := by simp [flowParams, base, carry, rpm, displacement]
    exact ⟨params, drives top most, h.flow.of_same (same plain) (kept _ feed), fun _ =>
      (h.pump trivial).of_same (same plain) (kept _ idle) rfl, fun _ => permit⟩

theorem linkSilent_outputs {s : State} (h : s.OutputsKept) : (linkSilent s).OutputsKept := by
  have silent : (s.putLi { s.li with linkTimer := none }).OutputsKept := h.of_same {}
  have told := condition_outputs Source.linkSilent true silent
  unfold linkSilent
  generalize condition Source.linkSilent true (s.putLi { s.li with linkTimer := none }) = u at told
  have caused : (setLinkCause true u).OutputsKept := told.of_same {}
  exact holdTest_outputs caused

theorem linkHeard_outputs {s : State} (h : s.OutputsKept) : (linkHeard s).OutputsKept := by
  unfold linkHeard
  dsimp only
  generalize s.timer (s.par .linkSilenceTime) = timer
  have timed : (s.putLi { s.li with linkTimer := some timer }).OutputsKept := h.of_same {}
  generalize s.putLi { s.li with linkTimer := some timer } = u at timed
  split
  · have told := condition_outputs Source.linkSilent false timed
    generalize condition Source.linkSilent false u = w at told
    have caused : (setLinkCause false w).OutputsKept := told.of_same {}
    exact holdTest_outputs caused
  · exact timed

theorem endStart_outputs {s : State} (h : s.OutputsKept) : (endStart s).OutputsKept := by
  have ended : s.startOver.OutputsKept := h.of_same {}
  exact sensorStaleWatch_outputs (changeMode_outputs (m := .standby) (by decide) ended)

theorem modeSet_outputs (m : Mode) {s : State} (h : s.OutputsKept) : (modeSet m s).1.OutputsKept := by
  unfold modeSet
  refine Acts.chosen (P := State.OutputsKept) (fun _ => h) fun _ => Acts.chosen (P := State.OutputsKept) (fun _ => h) fun _ =>
    Acts.chosen (P := State.OutputsKept) (fun _ => h) fun _ => ?_
  split
  · exact Acts.chosen (P := State.OutputsKept) (fun _ => changeMode_outputs (by decide) h) fun _ => h
  · refine Acts.chosen (P := State.OutputsKept) (fun _ => ?_) fun _ => h
    dsimp only [done]
    split
    · exact changeMode_outputs (by decide) (h.counted 17)
    · exact changeMode_outputs (by decide) h
  all_goals exact changeMode_outputs (by decide) h

/-- The panel opens: SR's recomputations for the new cut area (R40, R173, R177). -/
theorem openPanel_outputs (n : Nat) (a i : Int) {s : State} (h : s.OutputsKept) : (openPanel n a i s).OutputsKept := by
  obtain ⟨mp, di, sr⟩ := s.panelOpened_fields n a i
  obtain ⟨params, fc, sl, pm, wd, tu, reports, busy⟩ := s.panelOpened_keeps n a i
  obtain ⟨state, -, untripped⟩ := h.pump trivial
  have copy := h.flow.copy
  rw [openPanel_eq]
  refine State.OutputsOwe.reported (p := True) (q := True) ?_ _
  generalize s.panelOpened n a i = u at *
  have mode : u.mp.mode = s.mp.mode := by rw [mp]
  have timer : u.sr.backflushTimer = s.sr.backflushTimer := by rw [sr]
  have trip : ∀ g, u.tripped g = s.tripped g := fun g => by simp only [State.tripped, tu]
  refine State.Unbalanced.outputs ⟨h.params.of_params params, ?_, ?_, ?_, ?_, ?_, ?_, ?_⟩
  · exact h.drives.of_blocks (by rw [wd]) (by simp only [State.par, params]) (by simp only [State.par, params]) mode
      (by rw [sl]) fun _ none => pm ▸ none
  · rw [sr, di]
    dsimp only
    split
    · rename_i zero
      rw [copy, zero]
    · rfl
  · rw [mode, sr]
    exact h.flow.trim
  · rw [timer, mode]
    exact h.flow.flush
  · unfold State.pumpStateNow State.backflushing
    rw [trip, timer, mode, sr]
    exact state
  · rw [timer, trip]
    exact untripped
  · unfold State.PermitFollows
    rw [State.permitNow_congr mode (fun w => by cases w <;> simp only [State.wheel, wd]) (trip .feed) timer, sr]
    exact h.permit trivial

theorem shutPanel_outputs {s : State} (h : s.OutputsKept) : (shutPanel s).OutputsKept := by
  obtain ⟨mp, di, sr, -⟩ := s.shut_fields
  obtain ⟨-, params, -, -, sl, pm, wd, tu, -⟩ := s.shut_keeps
  have shut : s.shut.OutputsKept := by
    generalize s.shut = t at *
    exact h.of_same ⟨params, by rw [mp], fun _ => by rw [mp], by rw [di], by rw [sr]; rfl, by rw [sr], by rw [wd], by rw [sl],
      fun _ none => pm ▸ none, by rw [tu]⟩
  exact emergencyStandby_outputs shut

/-- A new zero empties the ring, and the feed follows it (R41, R79). -/
theorem zeroDepth_outputs (d oX oY raw : Int) {s : State} (h : s.OutputsKept) : (zeroDepth d oX oY raw s).OutputsKept := by
  have zeroed : (s.zeroedAt d oX oY raw).OutputsKept := h.of_same {}
  have emptied := setRing_outputs [] zeroed
  rw [zeroDepth_eq]
  change (emptyRing (s.zeroedAt d oX oY raw)).OutputsKept at emptied
  generalize emptyRing (s.zeroedAt d oX oY raw) = u at emptied
  exact emptied.of_same {}

theorem wheelSet_outputs {w : WheelId} (d : Direction) (v : Nat) {s : State} (run : s.mp.mode ≠ .start) (h : s.OutputsKept) :
    (wheelSet w d (min v (s.par .maxWheelSpeed)) s).OutputsKept := by
  have top := h.params.top
  refine changeWheel_outputs h (wheelSetState_fits w ((h.drives.wheels w).directed ?_ (min_le_right _ _) d)) fun start => absurd start run
  exact le_min (Int.natCast_nonneg v) top

/-- A locked out wheel is cleared (R167). -/
theorem wheelClear_outputs {w : WheelId} {s : State} (locked : (s.wheel w).state = .lockedOut) (h : s.OutputsKept) :
    (wheelClear w s).OutputsKept := by
  have fits := h.drives.wheels w
  have timed := fits.timed
  have watched := fits.watched
  refine changeWheel_outputs h { fits with rests := ?_, stands := ?_, timed := ?_, watched := ?_, attempts := ?_ } fun _ => rfl
  · exact fun _ => fits.rests (by simp [locked])
  · exact fun _ => fits.stands (by simp [locked])
  · simpa [locked] using timed
  · simpa [locked] using watched
  · simp

theorem pumpSet_outputs (q : Int) {s : State} (h : s.OutputsKept) :
    (recomputePump { s with sr := { s.sr with manualTarget := q } }).OutputsKept := by
  obtain ⟨state, -, untripped⟩ := h.pump trivial
  have flow : ({ s with sr := { s.sr with manualTarget := q } } : State).FlowKept :=
    ⟨h.flow.copy, h.flow.required, h.flow.limit, h.flow.trim, h.flow.flush⟩
  have pump := recomputePump_pump (s := { s with sr := { s.sr with manualTarget := q } }) state untripped
  refine h.pumped (fun _ => pump) (recomputePump_flow flow) (by simp) (by simp) (by simp) (by simp) (by simp) (by simp) ?_ ?_
  · rw [recomputePump_eq]
  · rw [recomputePump_eq]

theorem outputsActs : Acts State.OutputsKept where
  line _ _ h := h.of_same {}
  scratch _ _ h := h.of_same {}
  counters _ h := h.of_same {}
  plans _ _ _ h := h.of_same {}
  falls := linkSilent_outputs
  hears := linkHeard_outputs
  arrives _ _ := arrival_outputs _ _
  starts _ := endStart_outputs
  judges := windowEnd_outputs
  inputs i l h := inputChange_outputs i l h
  filters i h := passInput_outputs i h
  persists a h := disagreementPersists_outputs a h
  fails := failMove_outputs
  reverses := reverseEnd_outputs
  blocked := blockagePresent_outputs
  flushed := endBackflush_outputs
  stores p v h := storeParameter_outputs p v h
  modes m h := modeSet_outputs m h
  opens n _ _ _ h := openPanel_outputs n _ _ h
  shuts _ := shutPanel_outputs
  zeroes raw _ _ _ _ _ h := zeroDepth_outputs _ _ _ raw h
  sets d v run _ _ h := wheelSet_outputs d v run h
  clears locked h := condition_outputs _ false (wheelClear_outputs locked h)
  pumps _ _ h := pumpSet_outputs _ h
  flushes := startBackflush_outputs
  moves p n run h := plateRequest_outputs p n .urgent run h
  mends _ h := h.of_same {}
  unlatches _ h := setSource_outputs _ .clear h
  forces {s} on h := by
    have stored : ({ s with tu := { s.tu with operatorOn := on } } : State).OutputsKept := h.of_same {}
    unfold tripForce
    split
    · exact h
    · exact condition_outputs _ _ stored
  maps {s i} set _ h := by
    have stored : ({ s with tu := { s.tu with sets := s.tu.sets.set i.val set i.isLt } } : State).OutputsKept := h.of_same {}
    exact recomputeGroups_outputs stored

/-! ### The two wheel timers that send a record at once, power-on and restart -/

theorem announceWheel_outputs {w : WheelId} {s : State} (h : s.OutputsKept) : (announceWheel w s).OutputsKept :=
  h.of_same { drives := by cases w <;> rfl }

theorem stall_outputs {w : WheelId} {s : State} (running : (s.wheel w).stallTimer ≠ none) (h : s.OutputsKept) :
    (stall w s).OutputsKept := by
  have fits := h.drives.wheels w
  have stalled := changeWheel_outputs (w := w) h (fits.stalled (s.timer Config.stallPause)) fun start => by
    have state := fits.watched (Option.isSome_iff_ne_none.2 running)
    rw [(h.drives.still start).1 w] at state
    simp at state
  exact stalled.counted _

theorem pauseEnd_outputs {w : WheelId} {s : State} (stalled : (s.wheel w).state = .stalled) (h : s.OutputsKept) :
    (pauseEnd w s).OutputsKept := by
  have fits := h.drives.wheels w
  have attempts := (s.recentAttempts_le (s.wheel w).history).trans fits.attempts
  have run : ∀ state : WheelState, s.mp.mode = .start → state = .stopped := fun _ start => by
    rw [(h.drives.still start).1 w] at stalled
    cases stalled
  unfold pauseEnd
  split
  · rename_i may
    simp only [State.mayReverse, Bool.and_eq_true, decide_eq_true_eq] at may
    have few : (s.recentAttempts (s.wheel w).history ++ [s.runTime]).length ≤ 3 := by
      rw [List.length_append]
      exact may.2
    have entered := changeWheel_outputs (w := w) h
      (fits.reversing (State.reverseCommand_mem h.params (s.wheel w).direction) few (s.timer (s.par .reverseTime))) (run _)
    exact announceWheel_outputs (entered.counted _)
  · exact condition_outputs _ _ (announceWheel_outputs (changeWheel_outputs (w := w) h (fits.lockedOut attempts) (run _)))

theorem State.SameOutputs.of_unsent {s t : State} (h : t.blocks = s.blocks) : s.SameOutputs t := by
  have params : t.params = s.params := (congrArg Blocks.params h :)
  have mp : t.mp = s.mp := (congrArg Blocks.mp h :)
  have di : t.di = s.di := (congrArg Blocks.di h :)
  have sl : t.sl = s.sl := (congrArg Blocks.sl h :)
  have tu : t.tu = s.tu := (congrArg Blocks.tu h :)
  have pm : t.pm.unsent = s.pm.unsent := (congrArg Blocks.pm h :)
  have wd : t.wd.unsent = s.wd.unsent := (congrArg Blocks.wd h :)
  have sr : t.sr.unsent = s.sr.unsent := (congrArg Blocks.sr h :)
  have move : t.pm.move = s.pm.move := (congrArg Manifold.move pm :)
  exact ⟨params, by rw [mp], fun _ => by rw [mp], by rw [di], (congrArg Slurry.core sr :), (congrArg Slurry.feedPermit sr :), wd,
    by rw [sl], fun _ none => move.trans none, by rw [tu]⟩

theorem finish_outputs {s : State} (h : s.OutputsKept) : (finish s).OutputsKept := h.of_same (.of_unsent (finish_blocks s))

theorem reportInputs_outputs {s : State} (h : s.OutputsKept) : (reportInputs s).OutputsKept :=
  condition_outputs _ _ (condition_outputs _ _ (condition_outputs _ _ h))

theorem initial_outputs (e g o : Level) : (State.initial e g o).OutputsKept := by
  obtain ⟨params, -⟩ := State.initial_inForm e g o (counters := Vector.replicate 17 0)
    (fun i => by simp [Vector.get_eq_getElem]) []
  have range : (State.initial e g o).ParamsInRange := params
  have wheel : ∀ w, (State.initial e g o).wheel w = .initial := fun w => by cases w <;> rfl
  have fits : Wheel.initial.Fits ((State.initial e g o).par .maxWheelSpeed) := by
    have top := range.top
    exact ⟨fun _ => rfl, fun _ => rfl, by simp [Wheel.initial], by simp [Wheel.initial], by simp [Wheel.initial],
      ⟨Int.le_refl 0, top⟩, ⟨neg_nonpos.2 top, top⟩, ⟨neg_nonpos.2 top, top⟩, by simp [Wheel.initial]⟩
  refine ⟨range, ⟨fun w => wheel w ▸ fits, State.mayApply_zero range, fun _ => ⟨fun w => ?_, rfl⟩⟩,
    ⟨rfl, fun run => absurd rfl run, rfl, ⟨fun _ => rfl, (by decide : (-100 : Int) ≤ 0 ∧ (0 : Int) ≤ 100)⟩, fun run => absurd rfl run⟩,
    fun _ => ⟨?_, rfl, fun run => absurd rfl run⟩, fun _ => rfl⟩
  · rw [wheel]
    rfl
  · have trip : (State.initial e g o).tripped .pump = false := by simp [State.tripped, State.initial, TripUnit.initial]
    unfold State.pumpStateNow
    rw [trip]
    rfl

theorem reborn_outputs (k : Bool) (s : State) : (s.reborn k).OutputsKept := by
  have started : (restartState s).OutputsKept :=
    (initial_outputs s.fc.emergencyIn.raw s.fc.gearPressLow.raw s.fc.oilHot.raw).of_same {}
  cases k with
  | false => exact started
  | true =>
    have kept : (keepRecord s (restartState s)).OutputsKept := started.of_same { area := fun run => absurd rfl run }
    change (reopenStation (keepRecord s (restartState s))).OutputsKept
    generalize keepRecord s (restartState s) = t at kept
    unfold reopenStation
    split
    · exact kept.of_same {}
    · exact kept

theorem outputsKept : Kept State.OutputsKept where
  toActs := outputsActs
  begins _ h := h.of_same {}
  sends {s} h := h.of_same (.of_unsent (sendRecords_blocks s))
  stalls running h := announceWheel_outputs (stall_outputs running h)
  pauses := pauseEnd_outputs
  powers e g o _ := by
    have initial : ∀ pending, ({ State.initial e g o with pending := pending } : State).OutputsKept := fun _ =>
      (initial_outputs e g o).of_same {}
    exact finish_outputs (reportInputs_outputs (initial _))
  restarts k _ := finish_outputs (reportInputs_outputs (reborn_outputs k _))

end Sys2Proof.Machine
end

section
/-! SUPPORT. What an event leaves of the values last sent until its records leave (R135, R155, R172, R177): no operation
but the sending itself touches them. -/

namespace Sys2Proof.Machine

/-! ### The values last sent -/

/-- The values last sent of the manifold, the pump and the feed. -/
structure OtherCopies where
  record : ManifoldRecord
  command : Int
  permit : Bool
  limit : Int

/-- The values last sent on the field line. -/
structure Copies where
  wheels : WheelId → Int
  others : OtherCopies

def State.copies (s : State) : Copies where
  wheels := fun w => (s.wheel w).sentSpeed
  others := ⟨s.pm.sentRecord, s.sr.sentCommand, s.sr.sentPermit, s.sr.sentLimit⟩

/-- The copies stand in WD, PM and SR. -/
theorem State.copies_of_blocks {s t : State} (wd : t.wd = s.wd) (pm : t.pm.sentRecord = s.pm.sentRecord)
    (command : t.sr.sentCommand = s.sr.sentCommand) (permit : t.sr.sentPermit = s.sr.sentPermit)
    (limit : t.sr.sentLimit = s.sr.sentLimit) : t.copies = s.copies := by
  unfold State.copies State.wheel
  rw [wd, pm, command, permit, limit]

theorem State.copies_of_wheels {s t : State} (wheels : ∀ w, (t.wheel w).sentSpeed = (s.wheel w).sentSpeed) (pm : t.pm = s.pm)
    (sr : t.sr = s.sr) : t.copies = s.copies := by
  unfold State.copies
  rw [pm, sr, funext wheels]

@[simp] theorem State.report_copies (r : Report) (s : State) : (s.report r).copies = s.copies := rfl

@[simp] theorem State.count_copies (n : Nat) (s : State) : (s.count n).copies = s.copies :=
  State.copies_of_blocks (by simp) (by simp) (by simp) (by simp) (by simp)

@[simp] theorem setOpen_copies (r : Option OpenRecord) (s : State) : (setOpen r s).copies = s.copies := rfl

@[simp] theorem changeOpen_copies (f : OpenRecord → OpenRecord) (s : State) : (changeOpen f s).copies = s.copies := rfl

/-! ### SR -/

@[simp] theorem recomputePump_copies (s : State) : (recomputePump s).copies = s.copies := by
  rw [recomputePump_eq]
  rfl

@[simp] theorem refreshPump_copies (s : State) : (refreshPump s).copies = s.copies := by
  rw [refreshPump, recomputePump_copies]
  rfl

@[simp] theorem recomputePermit_copies (s : State) : (recomputePermit s).copies = s.copies := rfl

@[simp] theorem recomputeFeedLimit_copies (s : State) : (recomputeFeedLimit s).copies = s.copies := rfl

@[simp] theorem recomputeRequired_copies (s : State) : (recomputeRequired s).copies = s.copies := rfl

@[simp] theorem emptyLine_copies (s : State) : (emptyLine s).copies = s.copies := by
  obtain ⟨c, shape⟩ := emptyLine_shape s
  rw [shape]
  rfl

@[simp] theorem cutterHandOff_copies (s : State) : (cutterHandOff s).copies = s.copies := rfl

@[simp] theorem slurryEnter_copiesSent (old : Mode) (s : State) : (slurryEnter old s).copies = s.copies := by
  have trims : (trimmed s).copies = s.copies := rfl
  rw [slurryEnter_eq]
  split <;> simp [trims]

@[simp] theorem pumpTripped_copies (s : State) : (pumpTripped s).copies = s.copies := by
  rw [pumpTripped, recomputePermit_copies, refreshPump_copies]
  rfl

@[simp] theorem pumpUntripped_copies (s : State) : (pumpUntripped s).copies = s.copies := by
  rw [pumpUntripped, recomputePermit_copies, refreshPump_copies]

@[simp] theorem setRing_copies (l : List RingEntry) (s : State) : (setRing l s).copies = s.copies := by
  unfold setRing
  dsimp only
  split
  · rfl
  · rw [feedHandOff, recomputePump_copies]
    rfl

@[simp] theorem updateRing_copies (d : Int) (s : State) : (updateRing d s).copies = s.copies := by
  unfold updateRing
  dsimp only
  split <;> simp

@[simp] theorem placeLitres_copies (v : Litres) (n : Nat) (s : State) : (placeLitres v n s).copies = s.copies := by
  have sr := placeLitres_sr v n s
  exact State.copies_of_blocks (by simp) (by simp) (by rw [sr]) (by rw [sr]) (by rw [sr])

@[simp] theorem testArrivals_copies (s : State) : (testArrivals s).copies = s.copies := by
  have sr := testArrivals_sr s
  exact State.copies_of_blocks (by simp) (by simp) (by rw [sr]) (by rw [sr]) (by rw [sr])

@[simp] theorem pumpedVolume_copies (f : Int) (s : State) : (pumpedVolume f s).copies = s.copies := by
  have sr := pumpedVolume_sr f s
  exact State.copies_of_blocks (by simp) (by simp) (by rw [sr]; rfl) (by rw [sr]; rfl) (by rw [sr]; rfl)

@[simp] theorem adjustTrim_copies (v : Int) (s : State) : (adjustTrim v s).copies = s.copies := by
  rw [adjustTrim_eq]
  rfl

@[simp] theorem densitySample_copies (v : Int) (s : State) : (densitySample v s).copies = s.copies := by
  unfold densitySample
  split
  · split <;> rfl
  · rfl

@[simp] theorem startBackflush_copies (s : State) : (startBackflush s).copies = s.copies := by
  unfold startBackflush
  generalize s.timer (s.par .backflushTime * 1000) = timer
  rw [recomputePermit_copies, emptyLine_copies]
  rfl

@[simp] theorem endBackflush_copies (s : State) : (endBackflush s).copies = s.copies := by
  rw [endBackflush, recomputePermit_copies, refreshPump_copies]
  rfl

/-! ### WD -/

@[simp] theorem formTargets_copies (s : State) : (formTargets s).copies = s.copies :=
  State.copies_of_wheels (fun w => by rw [formTargets_wheel]) rfl rfl

@[simp] theorem setApplied_copies (d : Int) (s : State) : (setApplied d s).copies = s.copies := by
  unfold setApplied
  split
  · rfl
  · rw [formTargets_copies]
    rfl

theorem changeWheel_copies {w : WheelId} {v : Wheel} {s : State} (h : v.sentSpeed = (s.wheel w).sentSpeed) :
    (changeWheel w v s).copies = s.copies := by
  have put : (s.putWheel w v).copies = s.copies := State.copies_of_wheels (fun x => by
    rw [State.wheel_putWheel]
    split
    · rename_i e
      rw [h, e]
    · rfl) rfl rfl
  unfold changeWheel
  dsimp only
  rw [recomputePermit_copies]
  split
  · rw [setApplied_copies, put]
  · exact put

@[simp] theorem wheelTripped_copies (w : WheelId) (s : State) : (wheelTripped w s).copies = s.copies := by
  unfold wheelTripped
  dsimp only
  split
  case h_6 | h_7 => rfl
  all_goals exact changeWheel_copies rfl

theorem Wheel.enter_sentSpeed (old mode : Mode) (v : Wheel) : (v.enter old mode).sentSpeed = v.sentSpeed := by
  have standby : v.enterStandby.sentSpeed = v.sentSpeed := by
    unfold Wheel.enterStandby
    dsimp only
    split <;> rfl
  have dropped : v.dropReverse.sentSpeed = v.sentSpeed := by
    unfold Wheel.dropReverse
    split
    · rfl
    · dsimp only
      split <;> rfl
  unfold Wheel.enter
  split
  · exact standby
  iterate 2
    split
    · exact dropped
    · rfl
  all_goals rfl

@[simp] theorem wheelsEnter_copies (old : Mode) (s : State) : (wheelsEnter old s).copies = s.copies := by
  rw [wheelsEnter_eq, recomputePermit_copies, formTargets_copies]
  exact State.copies_of_wheels (fun w => by cases w <;> exact Wheel.enter_sentSpeed _ _ _) rfl rfl

@[simp] theorem differentialSent_copies (d : Int) (s : State) : (differentialSent d s).copies = s.copies := by
  rw [differentialSent, setApplied_copies]

theorem stallEvaluate_sentSpeed (w : WheelId) (v : Wheel) (s : State) : (stallEvaluate w v s).sentSpeed = v.sentSpeed := by
  rw [stallEvaluate_eq]

@[simp] theorem speedArrival_copies (w : WheelId) (m : Int) (s : State) : (speedArrival w m s).copies = s.copies := by
  refine changeWheel_copies ?_
  rw [stallEvaluate_sentSpeed, rampTest_eq, rampStep_eq]

@[simp] theorem pressArrival_copies (w : WheelId) (s : State) : (pressArrival w s).copies = s.copies :=
  changeWheel_copies (stallEvaluate_sentSpeed w _ s)

@[simp] theorem wheelChannelLeft_copies (w : WheelId) (s : State) : (wheelChannelLeft w s).copies = s.copies :=
  changeWheel_copies rfl

@[simp] theorem maximumStored_copies (old : Int) (s : State) : (maximumStored old s).copies = s.copies := by
  by_cases lowered : s.par .maxWheelSpeed < old
  · obtain ⟨shape, -, limited⟩ := maximumStored_lowered lowered
    exact State.copies_of_wheels (fun w => by rw [limited]; rfl) (by rw [shape]) (by rw [shape])
  · have kept : maximumStored old s = s := if_neg lowered
    rw [kept]

@[simp] theorem diffMaxStored_copies (s : State) : (diffMaxStored s).copies = s.copies := by
  unfold diffMaxStored
  dsimp only
  split
  · rfl
  · rw [differentialSent_copies]
    rfl

/-! ### PM -/

theorem Manifold.choose_sentRecord {pm rest : Manifold} {p : Plate} (h : pm.choose = some (p, rest)) :
    rest.sentRecord = pm.sentRecord := by
  cases turn : pm.turn with
  | none =>
    rw [Manifold.choose_none turn] at h
    cases h
  | some q =>
    obtain ⟨u, t, chosen⟩ := Manifold.choose_some turn
    rw [chosen] at h
    cases h
    rfl

@[simp] theorem endDone_copies (s : State) : (endDone s).copies = s.copies :=
  State.copies_of_blocks (by simp) rfl (by simp) (by simp) (by simp)

@[simp] theorem endFailed_copies (p : Plate) (s : State) : (endFailed p s).copies = s.copies :=
  State.copies_of_blocks (by simp) rfl (by simp) (by simp) (by simp)

theorem grantRounds_copies (n : Nat) : ∀ s : State, (grantRounds n s).copies = s.copies := by
  induction n with
  | zero => exact fun _ => rfl
  | succ n ih =>
    intro s
    unfold grantRounds
    cases chosen : s.pm.choose with
    | none => rfl
    | some r =>
      obtain ⟨p, rest⟩ := r
      have record := Manifold.choose_sentRecord chosen
      have put : (s.putPm rest).copies = s.copies := State.copies_of_blocks rfl record rfl rfl rfl
      dsimp only
      cases rest.table.get p with
      | none => rw [ih, put]
      | some e =>
        have started : (startMove p e.target rest s).copies = s.copies := State.copies_of_blocks rfl record rfl rfl rfl
        dsimp only
        generalize startMove p e.target rest s = u at started
        split
        · rw [ih, endFailed_copies, started]
        · split
          · rw [ih, endDone_copies, started]
          · exact started

@[simp] theorem grantPoint_copies (s : State) : (grantPoint s).copies = s.copies := grantRounds_copies 9 s

@[simp] theorem failMove_copies (p : Plate) (s : State) : (failMove p s).copies = s.copies := by simp [failMove]

@[simp] theorem plateRequest_copies (p : Plate) (t : Nat) (c : PlateClass) (s : State) :
    (plateRequest p t c s).copies = s.copies := by
  have entered : (requestEntry p t c s).copies = s.copies := by
    unfold requestEntry
    split
    · rfl
    · split
      · rfl
      · unfold makeEntry
        dsimp only
        split
        · rw [grantPoint_copies]
          rfl
        · rfl
  unfold plateRequest
  split
  · rfl
  · split
    · rfl
    · split
      · split
        · unfold retarget
          split
          · rfl
          · dsimp only
            split
            · rw [grantPoint_copies]
              rfl
            · rfl
        · exact entered
      · exact entered

@[simp] theorem plateArrival_copies (p : Plate) (s : State) : (plateArrival p s).copies = s.copies := by
  unfold plateArrival
  split
  · split <;> simp
  · rfl

@[simp] theorem plateChannelLeft_copies (p : Plate) (s : State) : (plateChannelLeft p s).copies = s.copies := by
  unfold plateChannelLeft
  split
  · split <;> simp
  · rfl

@[simp] theorem platesHalt_copies (s : State) : (platesHalt s).copies = s.copies := rfl

@[simp] theorem platesRelease_copies (s : State) : (platesRelease s).copies = s.copies := rfl

@[simp] theorem platesEnter_copies (s : State) : (platesEnter s).copies = s.copies := by
  unfold platesEnter
  split <;> rfl

/-! ### SL, MP and TU -/

@[simp] theorem steeringEnter_copies (s : State) : (steeringEnter s).copies = s.copies := by
  unfold steeringEnter
  split <;> rfl

@[simp] theorem evaluate_copies (b : Band) (s : State) : (evaluate b s).copies = s.copies := by
  simp only [evaluate]
  refine (foldl_keeps _ State.copies ?_ _ _).trans ?_
  · intro u p
    unfold handPlate
    dsimp only
    split <;> simp
  · rw [differentialSent_copies]
    rfl

@[simp] theorem steerAtDepth_copies (s : State) : (steerAtDepth s).copies = s.copies := by
  unfold steerAtDepth
  split
  · dsimp only
    split
    · simp
    · rw [suppress, differentialSent_copies]
      rfl
  · rfl

@[simp] theorem changeMode_copiesSent (m : Mode) (s : State) : (changeMode m s).copies = s.copies := by
  have moded : ({ s with mp := { s.mp with mode := m } } : State).copies = s.copies := rfl
  unfold changeMode
  split
  · rfl
  · simp [moded]

@[simp] theorem holdTest_copies (s : State) : (holdTest s).copies = s.copies := by
  rw [holdTest_eq, changeMode_copiesSent]
  unfold State.holdCounted
  split <;> simp

@[simp] theorem emergencyStandby_copies (s : State) : (emergencyStandby s).copies = s.copies := by
  unfold emergencyStandby
  split <;> simp

@[simp] theorem groupReport_copies (g : Group) (b : Bool) (s : State) : (groupReport g b s).copies = s.copies := by
  unfold groupReport
  split <;> simp

@[simp] theorem recomputeGroups_copies (s : State) : (recomputeGroups s).copies = s.copies := by
  rw [recomputeGroups_eq]
  refine (foldl_keeps _ State.copies (fun u g => ?_) _ _).trans rfl
  unfold reportGroup
  split <;> simp

@[simp] theorem setSource_copies (i : Source) (st : SourceState) (s : State) : (setSource i st s).copies = s.copies := by
  rw [setSource, recomputeGroups_copies]
  rfl

@[simp] theorem condition_copies (i : Source) (b : Bool) (s : State) : (condition i b s).copies = s.copies := by
  unfold condition
  split
  iterate 2
    dsimp only
    split <;> simp
  · simp
  all_goals rfl

@[simp] theorem tellChange_copies (i : Source) (old now : Bool) (s : State) : (tellChange i old now s).copies = s.copies := by
  unfold tellChange
  split <;> simp

/-! ### FC and the depth event -/

@[simp] theorem sensorStaleWatch_copies (s : State) : (sensorStaleWatch s).copies = s.copies := by
  rw [sensorStaleWatch_eq, tellChange_copies]
  rfl

@[simp] theorem twistLimitWatch_copies (s : State) : (twistLimitWatch s).copies = s.copies := by
  rw [twistLimitWatch_eq, tellChange_copies]
  rfl

@[simp] theorem derive_copies (a : Axis) (s : State) : (derive a s).copies = s.copies := by
  rw [derive_eq, inclLimitWatch_eq, tellChange_copies]
  change (disagreeWatch (s.derived a)).copies = _
  rw [disagreeWatch_eq, tellChange_copies]
  rfl

@[simp] theorem channelReport_copies (c : Channel) (s : State) : (channelReport c s).copies = s.copies := by
  unfold channelReport
  cases c with
  | incl m a => exact derive_copies a s
  | retDens => rfl
  | twist | depth | pumpPress | retFlow => dsimp only; split <;> rfl
  | speed w | press w | plate p => dsimp only; split <;> simp

@[simp] theorem depthHandOff_copies (before : Int) (s : State) : (depthHandOff before s).copies = s.copies := by
  simp only [depthHandOff, steerAtDepth_copies, cutterHandOff_copies]
  unfold reportDepth
  split <;> rfl

@[simp] theorem takeStep_copies (d : Int) (r : Bool) (s : State) : (takeStep d r s).copies = s.copies :=
  State.copies_of_blocks (by simp) (by simp) (by simp) (by simp) (by simp)

@[simp] theorem markRecovery_copies (r : Bool) (s : State) : (markRecovery r s).copies = s.copies := by
  unfold markRecovery
  split <;> rfl

@[simp] theorem depthEvent_copies (d : Int) (r : Bool) (s : State) : (depthEvent d r s).copies = s.copies := by
  have began : (if r then emptyRing s else s).copies = s.copies := by
    split
    · exact setRing_copies [] s
    · rfl
  unfold depthEvent
  dsimp only
  generalize (if r then emptyRing s else s) = u at began
  rw [← began]
  split
  · have moved : (updateRing d { u with di := { u.di with depth := d } }).copies = u.copies := updateRing_copies d _
    unfold reportDepth
    split <;> exact moved
  · split
    · simp
    · split
      · simp
      · rw [depthHandOff_copies, updateRing_copies]
        rfl

@[simp] theorem depthArrival_copies (v : Int) (s : State) : (depthArrival v s).copies = s.copies := by
  have accepts : ∀ c r, (acceptDepth c v r s).copies = s.copies := fun c r => by
    rw [acceptDepth, depthEvent_copies]
    rfl
  have forces : ∀ u : State, (forceStale u).copies = u.copies := fun u => by
    unfold forceStale
    dsimp only
    split
    · simp only [sensorStaleWatch_copies, holdTest_copies, channelReport_copies]
      rfl
    · rfl
  have rejects : (rejectDepth s).copies = s.copies := by
    have counted := s.count_copies 5
    unfold rejectDepth
    generalize s.count 5 = u at counted
    dsimp only
    split
    · exact counted
    · exact (forces u).trans counted
  unfold depthArrival
  dsimp only
  split
  · exact rejects
  · split
    · exact accepts _ _
    · split
      · split
        · exact accepts _ _
        · rfl
      · split
        · exact rejects
        · exact accepts _ _

@[simp] theorem blockageWatch_copies (s : State) : (blockageWatch s).copies = s.copies := by
  unfold blockageWatch
  split
  · split
    · split <;> rfl
    · dsimp only
      split
      · rw [condition_copies]
        rfl
      · rfl
  · rfl

@[simp] theorem densityWatch_copies (v : Int) (s : State) : (densityWatch v s).copies = s.copies := by
  rw [densityWatch_eq, tellChange_copies]
  unfold softWatch
  dsimp only
  split <;> rfl

@[simp] theorem passValue_copies (c : Channel) (v : Int) (s : State) : (passValue c v s).copies = s.copies := by
  unfold passValue
  cases c <;> simp [gatherSpeed, gatherPress, gatherFlow]

/-! ### An event says nothing before its end -/

/-- No record has left in this event, and the values last sent are `c`. -/
structure State.Silent (c : Copies) (s : State) : Prop where
  sent : s.sent = []
  copies : s.copies = c

theorem State.Silent.of {c : Copies} {s t : State} (h : s.Silent c)
    (sent : t.sent = s.sent) (copies : t.copies = s.copies) : t.Silent c :=
  ⟨sent.trans h.1, copies.trans h.2⟩

@[simp] theorem State.putLi_copies (li : LineInterface) (s : State) : (s.putLi li).copies = s.copies := rfl

@[simp] theorem setLinkCause_copies (b : Bool) (s : State) : (setLinkCause b s).copies = s.copies := rfl

theorem arrival_copies (c : Channel) (v : Int) (s : State) : (arrival c v s).copies = s.copies := by
  have entered : (s.seen c v).copies = s.copies := rfl
  rw [arrival_seen, passValue_copies]
  split <;> simp [entered]

theorem judgeAll_copies (s : State) : (judgeAll s).copies = s.copies :=
  State.copies_of_blocks (by simp) (by simp) (by simp) (by simp) (by simp)

theorem windowEnd_copies (s : State) : (windowEnd s).copies = s.copies := by
  have next : s.nextWindow.copies = s.copies := by
    unfold State.nextWindow
    generalize s.fc.windowTimer.start + BitVec.ofNat 32 Config.windowPeriod = start
    rfl
  rw [windowEnd_eq, sensorStaleWatch_copies, holdTest_copies]
  exact (foldl_keeps _ State.copies (fun u c => channelReport_copies c u) _ _).trans ((judgeAll_copies _).trans next)

theorem passInput_copies (i : InputId) (s : State) : (passInput i s).copies = s.copies := by
  rw [passInput, reportInput, condition_copies]
  cases i <;> rfl

theorem inputChange_copies (i : InputId) (l : Level) (s : State) : (inputChange i l s).copies = s.copies := by
  have stored : ∀ (v : DiscreteInput) (u : State), (u.putInput i v).copies = u.copies := fun v u => by cases i <;> rfl
  unfold inputChange
  dsimp only
  split
  · rfl
  · split
    · rw [stored, stored]
    · split
      · exact stored _ _
      · split
        · rw [passInput_copies, stored]
        · rw [stored, stored]

theorem blockagePresent_copies (s : State) : (blockagePresent s).copies = s.copies := by
  have told := condition_copies Source.returnBlocked true
    { s with sr := { s.sr with blockTimer := none, returnBlocked := true } }
  unfold blockagePresent
  dsimp only
  generalize condition Source.returnBlocked true { s with sr := { s.sr with blockTimer := none, returnBlocked := true } } = u at told
  split
  · exact (startBackflush_copies u).trans told
  · exact told

theorem parameterStored_copies (p : ParamId) (old : Int) (s : State) : (parameterStored p old s).copies = s.copies := by
  unfold parameterStored
  split
  case h_3 => split <;> simp
  all_goals simp

theorem modeSet_silent {c : Copies} (m : Mode) {s : State} (h : s.Silent c) :
    (modeSet m s).1.Silent c := by
  have changed : ∀ (m : Mode) {u : State}, u.Silent c → (changeMode m u).Silent c := fun m u k =>
    k.of (by simp) (changeMode_copiesSent m u)
  unfold modeSet
  refine Acts.chosen (P := State.Silent c) (fun _ => h) fun _ => Acts.chosen (P := State.Silent c) (fun _ => h) fun _ =>
    Acts.chosen (P := State.Silent c) (fun _ => h) fun _ => ?_
  split
  · exact Acts.chosen (P := State.Silent c) (fun _ => changed _ h) fun _ => h
  · refine Acts.chosen (P := State.Silent c) (fun _ => ?_) fun _ => h
    dsimp only [done]
    split
    · exact changed _ (h.of (by simp) (by simp))
    · exact changed _ h
  all_goals exact changed _ h

theorem openPanel_copies (n : Nat) (a i : Int) (s : State) : (openPanel n a i s).copies = s.copies := by
  obtain ⟨-, -, sr⟩ := s.panelOpened_fields n a i
  obtain ⟨-, -, -, pm, wd, -⟩ := s.panelOpened_keeps n a i
  rw [openPanel_eq, State.report_copies, recomputeFeedLimit_copies, recomputePump_copies, recomputeRequired_copies]
  generalize s.panelOpened n a i = u at *
  exact State.copies_of_blocks wd (by rw [pm]) (by rw [sr]) (by rw [sr]) (by rw [sr])

theorem zeroDepth_copies (d oX oY raw : Int) (s : State) : (zeroDepth d oX oY raw s).copies = s.copies := by
  obtain ⟨-, -, sr, -⟩ := zeroDepth_fields d oX oY raw s
  obtain ⟨-, -, -, -, -, -, pm, wd, -⟩ := zeroDepth_keeps d oX oY raw s
  exact State.copies_of_blocks wd (by rw [pm]) (by rw [sr]) (by rw [sr]) (by rw [sr])

theorem shutPanel_copies (s : State) : (shutPanel s).copies = s.copies := by
  obtain ⟨-, -, sr, -⟩ := s.shut_fields
  obtain ⟨-, -, -, -, -, pm, wd, -⟩ := s.shut_keeps
  rw [shutPanel, emergencyStandby_copies]
  exact State.copies_of_blocks wd (by rw [pm]) (by rw [sr]) (by rw [sr]) (by rw [sr])

theorem wheelSetState_sentSpeed (w : WheelId) (v : Wheel) (s : State) : (wheelSetState w v s).sentSpeed = v.sentSpeed := by
  unfold wheelSetState
  split
  · split <;> rfl
  · split
    case h_4 =>
      dsimp only
      split <;> rfl
    all_goals rfl

theorem silentActs (c : Copies) : Acts (State.Silent c) where
  line _ _ h := h.of rfl rfl
  scratch _ _ h := h.of rfl rfl
  counters _ h := h.of rfl rfl
  plans _ _ _ h := h.of rfl rfl
  falls h := h.of (by simp [linkSilent]) (by simp [linkSilent])
  hears {s} h := by
    unfold linkHeard
    dsimp only
    split
    · exact h.of (by simp) (by simp)
    · exact h.of (by simp) (by simp)
  arrives _ _ h := h.of (by simp) (arrival_copies _ _ _)
  starts _ h := h.of (by simp) (by simp [endStart]; rfl)
  judges h := h.of (by simp) (windowEnd_copies _)
  inputs i l h := h.of (by simp) (inputChange_copies i l _)
  filters i h := h.of (by simp) (passInput_copies i _)
  persists {s} a h := by
    have marked : (s.putSlope a { s.fc.slopes.get a with timer := none, persistent := true }).Silent c := h.of rfl rfl
    unfold disagreementPersists
    dsimp only
    generalize s.putSlope a { s.fc.slopes.get a with timer := none, persistent := true } = u at marked
    split
    · exact marked
    · refine marked.of (by simp) ?_
      rw [condition_copies]
      rfl
  fails _ h := h.of (by simp) (by simp)
  reverses _ h := h.of (by simp) (changeWheel_copies rfl)
  blocked h := h.of (by simp) (blockagePresent_copies _)
  flushed h := h.of (by simp) (by simp)
  stores p v h := h.of (by simp [storeParameter]) (parameterStored_copies _ _ _)
  modes m h := modeSet_silent m h
  opens n a i _ h := h.of (by simp [openPanel, resetOpenAtDepth]) (openPanel_copies _ _ _ _)
  shuts _ h := h.of (by simp [shutPanel, State.shut]) (shutPanel_copies _)
  zeroes raw _ _ _ _ _ h := h.of (by simp [zeroDepth, resetOpenAtDepth]) (zeroDepth_copies _ _ _ _ _)
  sets d v _ _ _ h := h.of (by simp) (changeWheel_copies (wheelSetState_sentSpeed _ _ _))
  clears _ h := h.of (by simp) (by rw [condition_copies]; exact changeWheel_copies rfl)
  pumps v _ h := h.of (by simp) (by rw [recomputePump_copies]; rfl)
  flushes _ h := h.of (by simp) (by simp)
  moves p n _ h := h.of (by simp) (by simp)
  mends p h := h.of rfl rfl
  unlatches _ h := h.of (by simp) (by simp)
  forces {s} on h := by
    unfold tripForce
    split
    · exact h
    · exact h.of (by simp) (by rw [condition_copies]; rfl)
  maps set _ h := h.of (by simp) (by rw [recomputeGroups_copies]; rfl)

/-! ### The speeds that a condition leaves -/

theorem changeWheel_commanded {w : WheelId} {v : Wheel} {s : State} (h : v.commanded = (s.wheel w).commanded) (x : WheelId) :
    ((changeWheel w v s).wheel x).commanded = (s.wheel x).commanded := by
  have put : ((s.putWheel w v).wheel x).commanded = (s.wheel x).commanded := by
    rw [State.wheel_putWheel]
    split
    · rename_i e
      rw [h, e]
    · rfl
  have applied : ((setApplied 0 (s.putWheel w v)).wheel x).commanded = ((s.putWheel w v).wheel x).commanded := by
    unfold setApplied
    split
    · rfl
    · rw [formTargets_wheel]
      rfl
  unfold changeWheel
  dsimp only
  split
  · exact applied.trans put
  · exact put

theorem wheelTripped_commanded (w x : WheelId) (s : State) : ((wheelTripped w s).wheel x).commanded = (s.wheel x).commanded := by
  unfold wheelTripped
  dsimp only
  split
  case h_6 | h_7 => rfl
  all_goals exact changeWheel_commanded (by rfl) x

theorem Wheel.enter_commanded (old mode : Mode) (v : Wheel) : (v.enter old mode).commanded = v.commanded := by
  have standby : v.enterStandby.commanded = v.commanded := by
    unfold Wheel.enterStandby
    dsimp only
    split <;> rfl
  have dropped : v.dropReverse.commanded = v.commanded := by
    unfold Wheel.dropReverse
    split
    · rfl
    · dsimp only
      split <;> rfl
  unfold Wheel.enter
  split
  · exact standby
  iterate 2
    split
    · exact dropped
    · rfl
  all_goals rfl

theorem changeMode_commanded (m : Mode) (s : State) (x : WheelId) : ((changeMode m s).wheel x).commanded = (s.wheel x).commanded := by
  have entered : ∀ old u, ((wheelsEnter old u).wheel x).commanded = (u.wheel x).commanded := fun old u => by
    have wheel : (wheelsEnter old u).wheel x = (formTargets { u with
        wd := ⟨⟨(u.wheel .a).enter old u.mp.mode, (u.wheel .b).enter old u.mp.mode⟩, 0⟩ }).wheel x := by
      rw [wheelsEnter_eq]
      rfl
    rw [wheel, formTargets_wheel]
    cases x <;> exact Wheel.enter_commanded _ _ _
  by_cases same : s.mp.mode = m
  · unfold changeMode
    rw [if_pos same]
  · have wd : (changeMode m s).wd = (wheelsEnter s.mp.mode (steeringEnter { s with mp := { s.mp with mode := m } })).wd := by
      rw [changeMode_eq same]
      simp [State.entering]
    have steered : (steeringEnter { s with mp := { s.mp with mode := m } }).wd = s.wd := by simp
    have wheel : ∀ {u v : State}, u.wd = v.wd → u.wheel x = v.wheel x := fun h => by simp only [State.wheel, h]
    rw [wheel wd, entered, wheel steered]

theorem recomputeGroups_commanded (s : State) (x : WheelId) : ((recomputeGroups s).wheel x).commanded = (s.wheel x).commanded := by
  rw [recomputeGroups_eq]
  refine (foldl_keeps _ (fun u : State => (u.wheel x).commanded) (fun u g => ?_) _ _).trans rfl
  have wheel : ∀ {v : State}, v.wd = u.wd → (v.wheel x).commanded = (u.wheel x).commanded := fun h => by simp only [State.wheel, h]
  unfold reportGroup
  split
  · rfl
  · unfold groupReport
    split
    · exact wheelTripped_commanded _ x u
    all_goals exact wheel (by simp)

/-- A condition changes no commanded speed (R38, R155, R169). -/
theorem condition_commanded (i : Source) (b : Bool) (s : State) (x : WheelId) :
    ((condition i b s).wheel x).commanded = (s.wheel x).commanded := by
  have set : ∀ st, ((setSource i st s).wheel x).commanded = (s.wheel x).commanded := fun st =>
    recomputeGroups_commanded { s with tu := { s.tu with sources := s.tu.sources.set i.val st i.isLt } } x
  have stood : ∀ u : State, ((emergencyStandby u).wheel x).commanded = (u.wheel x).commanded := fun u => by
    unfold emergencyStandby
    split
    iterate 3 exact changeMode_commanded .standby u x
    all_goals rfl
  have told := set .active
  unfold condition
  generalize setSource i .active s = u at told
  split
  iterate 2
    dsimp only
    split
    · exact (stood _).trans told
    · exact told
  · exact set .latched
  all_goals rfl

/-! ### The records of an event -/

/-- What the records that leave at the end do not change: they are sent from it (R135, R155, R172, R177). -/
theorem sendRecords_stands (u : State) :
    (∀ w, ((sendRecords u).wheel w).commanded = (u.wheel w).commanded) ∧ (sendRecords u).manifoldRecord = u.manifoldRecord ∧
    (sendRecords u).sr.command = u.sr.command ∧ (sendRecords u).sr.feedPermit = u.sr.feedPermit ∧
    (sendRecords u).sr.feedLimit = u.sr.feedLimit := by
  have blocks := sendRecords_blocks u
  have wd : (sendRecords u).wd.unsent = u.wd.unsent := congrArg Blocks.wd blocks
  have pm : (sendRecords u).pm.unsent = u.pm.unsent := congrArg Blocks.pm blocks
  have sr : (sendRecords u).sr.unsent = u.sr.unsent := congrArg Blocks.sr blocks
  have fc : (sendRecords u).fc = u.fc := congrArg Blocks.fc blocks
  have move : (sendRecords u).pm.move = u.pm.move := (congrArg Manifold.move pm :)
  refine ⟨fun w => ?_, ?_, (congrArg Slurry.command sr :), (congrArg Slurry.feedPermit sr :), (congrArg Slurry.feedLimit sr :)⟩
  · exact (congrArg Wheel.commanded (State.wheel_of_wd wd w) :)
  · unfold State.manifoldRecord State.value State.chan
    rw [move, fc]

/-- The records that have left after an event of `s`, if the wheels of `forced` sent theirs at once, and what stands in
`t` tells the others (R135, R155, R163, R164, R166, R172, R177, log entry 8). -/
def State.SendsRecords (s t : State) (forced : WheelId → Bool) : Prop :=
  t.sent = ([WheelId.a, .b].filter forced).map (fun w => FieldRecord.wheelSpeed w (t.wheel w).commanded) ++
    ([WheelId.a, .b].filter fun w => !forced w && (t.wheel w).commanded != (s.wheel w).sentSpeed).map
      (fun w => FieldRecord.wheelSpeed w (t.wheel w).commanded) ++
    (if t.manifoldRecord = s.pm.sentRecord then [] else [.manifold t.manifoldRecord]) ++
    (if t.sr.command = s.sr.sentCommand then [] else [.pump t.sr.command]) ++
    if t.sr.feedPermit = s.sr.sentPermit ∧ t.sr.feedLimit = s.sr.sentLimit then []
    else [.feed t.sr.feedPermit t.sr.feedLimit]

theorem wheels_filter_map {α : Type} (f : WheelId → Bool) (g : WheelId → α) :
    ([WheelId.a, .b].filter f).map g = (if f .a = true then [g .a] else []) ++ if f .b = true then [g .b] else [] := by
  cases a : f .a <;> cases b : f .b <;> simp [a, b]

/-- The records leave by what stands and the values last sent; a wheel that sent its record at once sends no second. -/
theorem sendRecords_records {s u : State} {forced : WheelId → Bool}
    (sent : u.sent = ([WheelId.a, .b].filter forced).map fun w => FieldRecord.wheelSpeed w (u.wheel w).commanded)
    (speeds : ∀ w, (u.wheel w).sentSpeed = if forced w then (u.wheel w).commanded else (s.wheel w).sentSpeed)
    (rest : u.copies.others = s.copies.others) : s.SendsRecords (sendRecords u) forced := by
  obtain ⟨commanded, manifold, command, permit, limit⟩ := sendRecords_stands u
  have record : u.pm.sentRecord = s.pm.sentRecord := congrArg OtherCopies.record rest
  have sentCommand : u.sr.sentCommand = s.sr.sentCommand := congrArg OtherCopies.command rest
  have sentPermit : u.sr.sentPermit = s.sr.sentPermit := congrArg OtherCopies.permit rest
  have sentLimit : u.sr.sentLimit = s.sr.sentLimit := congrArg OtherCopies.limit rest
  unfold State.SendsRecords
  simp only [commanded, manifold, command, permit, limit]
  rw [sendRecords_sent, sent, record, sentCommand, sentPermit, sentLimit]
  have each : ∀ w, (if (u.wheel w).commanded = (u.wheel w).sentSpeed then ([] : List FieldRecord)
      else [.wheelSpeed w (u.wheel w).commanded]) =
      if (!forced w && (u.wheel w).commanded != (s.wheel w).sentSpeed) = true then [.wheelSpeed w (u.wheel w).commanded] else [] := fun w => by
    rw [speeds]
    cases forced w <;> simp
  rw [each, each, wheels_filter_map fun w => !forced w && (u.wheel w).commanded != (s.wheel w).sentSpeed]
  simp only [List.append_assoc]

/-- A wheel whose speed has been set directly has sent its record (R163, R164, R166). -/
theorem announced_records {s u v : State} {w : WheelId} (sent : u.sent = []) (copies : u.copies = s.copies)
    (later : v.sent = (announceWheel w u).sent) (kept : v.copies = (announceWheel w u).copies)
    (speed : (v.wheel w).commanded = (u.wheel w).commanded) : s.SendsRecords (sendRecords v) (· == w) := by
  refine sendRecords_records ?_ (fun x => ?_) ?_
  · rw [later, wheels_filter_map]
    cases w <;> simp [announceWheel, State.emit, sent, speed]
  · have copied : (v.wheel x).sentSpeed = ((announceWheel w u).wheel x).sentSpeed := congrFun (congrArg Copies.wheels kept) x
    have before : (u.wheel x).sentSpeed = (s.wheel x).sentSpeed := congrFun (congrArg Copies.wheels copies) x
    have announced : ((announceWheel w u).wheel x).sentSpeed = if x = w then (u.wheel x).commanded else (u.wheel x).sentSpeed := by
      cases w <;> cases x <;> rfl
    rw [copied, announced, before]
    by_cases same : x = w
    · subst same
      simp [speed]
    · simp [same]
  · have announced : (announceWheel w u).copies.others = u.copies.others := rfl
    exact (congrArg Copies.others kept).trans (announced.trans (congrArg Copies.others copies))

/-- The wheel that a command makes send its record at once (R163, R164). -/
def Instr.forces (s : State) : Instr → WheelId → Bool
  | .stallTimerExpiry x now, w => x == w && timerDue (s.wheel w).stallTimer now
  | .stallPauseEnd x now, w => x == w && (s.wheel w).state == .stalled && timerDue (s.wheel w).stateTimer now
  | _, _ => false

theorem Instr.forces_of_sendsLast {c : Instr} (last : Instr.sendsLast c = true) (s : State) : Instr.forces s c = fun _ => false := by
  cases c <;> first | rfl | cases last

/-- An event in which no wheel sends at once. -/
theorem silent_records {s u : State} {now : RunTime} (h : (s.begin now).Silent s.copies → u.Silent s.copies) :
    s.SendsRecords (sendRecords u) fun _ => false := by
  obtain ⟨sent, copies⟩ := h ⟨rfl, rfl⟩
  refine sendRecords_records ?_ (fun w => ?_) (congrArg Copies.others copies)
  · rw [sent, wheels_filter_map]
    rfl
  · exact congrFun (congrArg Copies.wheels copies) w

theorem announceWheel_commanded (w x : WheelId) (s : State) : ((announceWheel w s).wheel x).commanded = (s.wheel x).commanded := by
  cases w <;> cases x <;> rfl

theorem takeReports_copies (s : State) : (takeReports s).copies = s.copies :=
  State.copies_of_blocks (by simp) (by simp) (by simp) (by simp) (by simp)

theorem takeReports_wheel (s : State) (w : WheelId) : (takeReports s).wheel w = s.wheel w := by simp [State.wheel]

/-- A STALLED wheel's pause ends: it sends its record at once (R164, R166). -/
theorem pauseEnd_records {s u : State} (w : WheelId) (h : u.Silent s.copies) :
    s.SendsRecords (finish (pauseEnd w u)) (· == w) := by
  obtain ⟨sent, copies⟩ := h
  unfold finish pauseEnd
  split
  · have reversed : (reverseEntry w u).copies = u.copies := by
      unfold reverseEntry
      rw [State.count_copies]
      exact changeWheel_copies (by rfl)
    refine announced_records (u := reverseEntry w u) (by simpa using sent) (reversed.trans copies) (by simp) (takeReports_copies _) ?_
    rw [takeReports_wheel, announceWheel_commanded]
  · have locked : (lockOut w u).copies = u.copies := changeWheel_copies (by rfl)
    refine announced_records (u := lockOut w u) (by simpa using sent) (locked.trans copies) (by simp)
      ((takeReports_copies _).trans (condition_copies _ _ _)) ?_
    rw [takeReports_wheel, condition_commanded, announceWheel_commanded]

/-- A wheel stalls: it sends its record at once (R163). -/
theorem stall_records {s u : State} (w : WheelId) (h : u.Silent s.copies) :
    s.SendsRecords (finish (announceWheel w (stall w u))) (· == w) := by
  obtain ⟨sent, copies⟩ := h
  have stalled : (stall w u).copies = u.copies := by
    unfold stall
    rw [State.count_copies]
    exact changeWheel_copies (by rfl)
  unfold finish
  refine announced_records (u := stall w u) (by simpa using sent) (stalled.trans copies) (by simp)
    (takeReports_copies _) ?_
  rw [takeReports_wheel, announceWheel_commanded]

/-- One wheel alone is forced, and it is if `p`. -/
theorem forced_one {forced : WheelId → Bool} {w : WheelId} {p : WheelId → Bool} (h : ∀ x, forced x = (w == x && p x)) :
    (p w = true → forced = (· == w)) ∧ (p w = false → forced = fun _ => false) := by
  refine ⟨fun due => funext fun x => ?_, fun due => funext fun x => ?_⟩
  · rw [h]
    by_cases same : x = w
    · subst same
      rw [due, Bool.and_true]
    · rw [beq_false_of_ne same, beq_false_of_ne (Ne.symm same), Bool.false_and]
  · rw [h]
    by_cases same : x = w
    · subst same
      rw [due, Bool.and_false]
    · rw [beq_false_of_ne (Ne.symm same), Bool.false_and]

/-- Every command but power-on and restart sends the records of the values that changed. -/
theorem exec_records (s : State) (c : Instr) (on : ∀ e g o, c ≠ .powerOn e g o) (restart : c ≠ .moduleRestart) :
    ∃ t, exec c s = .next t ∧ s.SendsRecords t (Instr.forces s c) := by
  have began : ∀ now, (s.begin now).Silent s.copies := fun _ => ⟨rfl, rfl⟩
  by_cases last : Instr.sendsLast c = true
  · obtain ⟨t, run⟩ : ∃ t, exec c s = .next t := by
      cases c with
      | moduleRestart => cases last
      | _ => exact ⟨_, rfl⟩
    obtain ⟨now, u, rfl, silent⟩ := (silentActs s.copies).run last run
    rw [Instr.forces_of_sendsLast last]
    exact ⟨_, run, silent_records silent⟩
  · have quiet : ∀ now, s.SendsRecords (finish (s.begin now)) fun _ => false := fun now =>
      silent_records fun h => (silentActs s.copies).takes h
    cases c with
    | powerOn e g o => exact absurd rfl (on e g o)
    | moduleRestart => exact absurd rfl restart
    | stallTimerExpiry w now =>
      refine ⟨_, rfl, ?_⟩
      obtain ⟨forced, none⟩ := forced_one (forced := Instr.forces s (.stallTimerExpiry w now)) (w := w)
        (p := fun x => timerDue (s.wheel x).stallTimer now) fun _ => rfl
      by_cases due : timerDue (s.wheel w).stallTimer now = true
      · have acts : stallExpiry w (s.begin now) = announceWheel w (stall w (s.begin now)) := if_pos due
        rw [forced due, event, acts]
        exact stall_records w (began now)
      · have acts : stallExpiry w (s.begin now) = s.begin now := if_neg due
        rw [none (Bool.eq_false_iff.2 due), event, acts]
        exact quiet now
    | stallPauseEnd w now =>
      refine ⟨_, rfl, ?_⟩
      obtain ⟨forced, none⟩ := forced_one (forced := Instr.forces s (.stallPauseEnd w now)) (w := w)
        (p := fun x => (s.wheel x).state == .stalled && timerDue (s.wheel x).stateTimer now) fun x => Bool.and_assoc _ _ _
      have tested : ((s.wheel w).state == .stalled && timerDue (s.wheel w).stateTimer now) = true ↔
          (s.wheel w).state = .stalled ∧ timerDue (s.wheel w).stateTimer now = true := by simp
      by_cases due : ((s.wheel w).state == .stalled && timerDue (s.wheel w).stateTimer now) = true
      · have acts : pauseExpiry w (s.begin now) = pauseEnd w (s.begin now) := if_pos (tested.1 due)
        rw [forced due, event, acts]
        exact pauseEnd_records w (began now)
      · have acts : pauseExpiry w (s.begin now) = s.begin now := if_neg fun h => due (tested.2 h)
        rw [none (Bool.eq_false_iff.2 due), event, acts]
        exact quiet now
    | _ => exact absurd rfl last

/-- Every command leaves the values last sent as they stand, or the state as it was. -/
theorem exec_settled {c : Instr} {s t : State} (run : exec c s = .next t) (h : s.Settled) : t.Settled := by
  by_cases last : Instr.sendsLast c = true
  · obtain ⟨now, u, rfl, -⟩ := (silentActs s.copies).run last run
    exact sendRecords_settled u
  · cases c with
    | powerOn e g o =>
      cases run
      exact sendRecords_settled _
    | moduleRestart =>
      unfold Machine.exec execModuleRestart at run
      dsimp only at run
      split at run
      · cases run
        exact sendRecords_settled _
      · cases run
        exact h
    | stallTimerExpiry w now =>
      cases run
      exact sendRecords_settled _
    | stallPauseEnd w now =>
      cases run
      exact sendRecords_settled _
    | _ => exact absurd rfl last

theorem step_settled {s t : State} (run : step s = .next t) (h : s.Settled) : t.Settled := by
  unfold Machine.step at run
  split at run
  · cases run
    exact h
  · rename_i c l _
    have queued : ({ s with pending := l } : State).Settled := h
    exact exec_settled run queued

end Sys2Proof.Machine

open Sys2Proof Sys2Proof.Machine in
/-- Settles O57: every command keeps the outputs, `outputsKept`, leaves the values last sent as they stand,
`step_settled`, and sends the records of those that changed, `exec_records`. -/
theorem outputsFollow : Obligations.OutputsFollow := by
  unfold Obligations.OutputsFollow
  refine ⟨fun s t h run => ?_, fun s c on restart => ?_⟩
  · obtain ⟨params, wheels, permit, limit, required, pump, differential, still, settled⟩ := h
    have kept := s.outputsKept_iff.2 ⟨params, wheels, permit, limit, required, pump, differential, still⟩
    obtain ⟨params, wheels, permit, limit, required, pump, differential, still⟩ :=
      t.outputsKept_iff.1 (outputsKept.step (fun _ h => h.of_same {}) kept run)
    exact ⟨params, wheels, permit, limit, required, pump, differential, still, step_settled run settled⟩
  · obtain ⟨t, run, records⟩ := exec_records s c on restart
    refine ⟨t, run, ?_⟩
    cases c <;> exact records

end

section
/-! O60: the state after reset has every invariant. The invariants of this family hold of it by their own lemmas. -/

namespace Sys2Proof.Machine

theorem State.initial_source (e g o : Level) (i : Source) : (State.initial e g o).source i = .clear := by
  simp [State.source, State.initial, TripUnit.initial, Vector.get_eq_getElem]

theorem State.initial_tripped (e g o : Level) (g' : Group) : (State.initial e g o).tripped g' = false := by
  simp [State.tripped, State.initial, TripUnit.initial]

theorem State.initial_chan (e g o : Level) (c : Channel) : (State.initial e g o).chan c = .initial := by
  simp [State.chan, State.initial, FieldChannels.initial, Vector.get_eq_getElem]

/-- No source is ACTIVE and no group is tripped (R202, R204). -/
theorem State.initial_groups (e g o : Level) : (State.initial e g o).GroupsFollow := by
  refine ⟨fun g' => ?_, ?_⟩
  · rw [State.initial_tripped]
    constructor
    · intro no
      cases no
    · rintro ⟨i, active, -⟩
      exact absurd (State.initial_source e g o i) active
  · change defaultSets.get Source.emergency = 0x1F
    decide

/-- Before the end of START an ABSENT channel is not missing (R51). -/
theorem State.initial_stale (e g o : Level) : (State.initial e g o).SensorStaleFollows := by
  constructor
  · intro no
    cases no
  · rintro ⟨c, stale | ⟨ended, -⟩⟩
    · rw [State.initial_chan] at stale
      cases stale
    · cases ended

/-- With inactive inputs no condition is present at reset (R202). -/
theorem State.reset_sources : State.reset.SourcesFollow := by
  have absent : ∀ i, State.reset.conditionOf i = false := by decide +kernel
  intro i
  have clear : State.reset.source i = .clear := State.initial_source _ _ _ i
  rw [clear, absent]
  constructor
  · intro no
    cases no
  · intro no
    cases no

/-- The records of START have been sent with the values that stand (R43). -/
theorem State.initial_settled (e g o : Level) : (State.initial e g o).Settled :=
  ⟨fun w => by cases w <;> rfl, rfl, rfl, rfl, rfl⟩

/-- An idle manifold with an empty table is coherent (R133, R134, R140). -/
theorem State.initial_manifold (e g o : Level) : (State.initial e g o).ManifoldCoherent := by
  have table : ∀ p : Plate, (State.initial e g o).pm.table.get p = none := fun p => by
    simp [State.initial, Manifold.initial, Vector.get_eq_getElem]
  have targets : ∀ p : Plate, (State.initial e g o).pm.targets.get p = 0 := fun p => by
    simp [State.initial, Manifold.initial, Vector.get_eq_getElem]
  have urgent : ∀ p : Plate, (State.initial e g o).pm.urgentSnap.get p = false := fun p => by
    simp [State.initial, Manifold.initial, Vector.get_eq_getElem]
  have trim : ∀ p : Plate, (State.initial e g o).pm.trimSnap.get p = false := fun p => by
    simp [State.initial, Manifold.initial, Vector.get_eq_getElem]
  have move : (State.initial e g o).pm.move = none := rfl
  have arbiter : (State.initial e g o).pm.arbiter = .idle := rfl
  refine ⟨?_, ?_, fun _ => table, fun m moves => ?_, fun p => ?_, fun p e held => ?_, fun p snapped => ?_, fun p snapped => ?_,
    fun _ => rfl, fun _ => rfl⟩
  · rw [arbiter, move]
    decide
  · rw [arbiter, State.initial_tripped]
    decide
  · rw [move] at moves
    cases moves
  · rw [targets]
    exact Nat.zero_le _
  · rw [table] at held
    cases held
  · rw [urgent] at snapped
    cases snapped
  · rw [trim] at snapped
    cases snapped

end Sys2Proof.Machine

open Sys2Proof Sys2Proof.Machine in
/-- Settles O60: the tables are in form, and the stations, the outputs, the modes, the trips and the manifold stand as
START has them. -/
theorem invariantsHoldAtReset : Obligations.InvariantsHoldAtReset := by
  unfold Obligations.InvariantsHoldAtReset
  intro s
  obtain ⟨params, counters, queues, tags, plans, line⟩ : s.TablesInForm :=
    State.initial_inForm .energised .deEnergised .deEnergised (counters := Vector.replicate 17 0)
      (fun i => by simp [Vector.get_eq_getElem]) []
  obtain ⟨depth, path, log, station⟩ := s.stationsKept_iff.1 (initial_stations _ _ _)
  obtain ⟨-, wheels, permit, limit, required, pump, differential, still⟩ := s.outputsKept_iff.1 (initial_outputs _ _ _)
  obtain ⟨allowed, causes⟩ := s.modesKept_iff.1 (initial_kept _ _ _)
  exact ⟨params, counters, queues, tags, plans, line, State.lineOrdered_of_empty rfl, depth, path, log, station, wheels,
    State.initial_groups _ _ _, State.reset_sources, State.initial_stale _ _ _, permit, limit, required, pump, differential,
    still, State.initial_settled _ _ _, allowed, causes, State.initial_manifold _ _ _⟩

end

section
/-! O23: what a change of mode makes of each block, part by part. -/

namespace Sys2Proof.Machine

/-! ### WD -/

/-- The wheels that a change of mode drops: all on entry to STANDBY, the reversed ones on entry to AUTO or HOLD from
STANDBY or MANUAL (R38). -/
structure Wheel.Dropped (old mode : Mode) (v : Wheel) : Prop where
  entered : mode = .standby ∨ (mode = .auto ∨ mode = .hold) ∧ (old = .standby ∨ old = .manual)
  reversed : mode = .standby ∨ v.direction = .reverse

theorem Wheel.enter_kept {old mode : Mode} {v : Wheel} (kept : ¬v.Dropped old mode) : v.enter old mode = v := by
  unfold Wheel.enter
  cases mode with
  | standby => exact absurd ⟨.inl rfl, .inl rfl⟩ kept
  | start | manual => rfl
  | auto | hold =>
    dsimp only
    split
    · rename_i was
      unfold Wheel.dropReverse
      cases direction : v.direction with
      | forward => rfl
      | reverse => exact absurd ⟨.inr ⟨by simp, was⟩, .inr direction⟩ kept
    · rfl

theorem Wheel.enter_dropped {old mode : Mode} {v : Wheel} (drops : v.Dropped old mode) :
    v.enter old mode = if v.state.moving then Wheel.toStopping { v with base := 0, direction := .forward }
      else { v with base := 0, direction := .forward } := by
  obtain ⟨entered, reversed⟩ := drops
  unfold Wheel.enter
  cases mode with
  | standby => rfl
  | start | manual => simp at entered
  | auto | hold =>
    have was : old = .standby ∨ old = .manual := by simpa using entered
    have direction : v.direction = .reverse := by simpa using reversed
    dsimp only
    rw [if_pos was]
    unfold Wheel.dropReverse
    rw [direction]

theorem WheelState.moving_iff (st : WheelState) :
    st.moving = true ↔ st = .ramping ∨ st = .running ∨ st = .stalled ∨ st = .reversing := by
  cases st <;> simp [WheelState.moving]

/-- A wheel after a change of mode: dropped and sent to STOPPING by the table of R38, its target formed for the
differential 0 (R158, R159). -/
theorem Wheel.entered_eq (old mode : Mode) (v : Wheel) (w : WheelId) {s : State} (zero : s.wd.applied = 0)
    {drops stops : Prop} [Decidable drops] [Decidable stops] (isDrops : drops ↔ v.Dropped old mode)
    (isStops : stops ↔ drops ∧ v.state.moving = true) :
    let u := s.formed w (v.enter old mode)
    u = { v with
      base := if drops then 0 else v.base
      direction := if drops then .forward else v.direction
      state := if stops then .stopping else v.state
      stallTimer := if stops then none else v.stallTimer
      stateTimer := if stops then none else v.stateTimer
      target :=
        if u.state = .ramping ∨ u.state = .running then
          if v.direction = .forward then clamp 0 (s.par .maxWheelSpeed) v.base else -v.base
        else if u.state = .reversing then v.target
        else 0 } := by
  intro u
  have formed : u = { v.enter old mode with target := s.targetOf w (v.enter old mode) } := rfl
  have state : u.state = (v.enter old mode).state := rfl
  rw [state]
  rw [formed, s.targetOf_eq, zero, sub_zero, add_zero, ite_self]
  by_cases d : drops
  · rw [Wheel.enter_dropped (isDrops.1 d)]
    by_cases moves : v.state.moving = true
    · have st : stops := isStops.2 ⟨d, moves⟩
      simp only [moves, if_true, d, st, Wheel.toStopping]
      rfl
    · have st : ¬stops := fun h => moves (isStops.1 h).2
      obtain ⟨ramping, running, -, reversing⟩ : v.state ≠ .ramping ∧ v.state ≠ .running ∧ v.state ≠ .stalled ∧
          v.state ≠ .reversing := by
        simpa [WheelState.moving_iff] using moves
      simp only [moves, d, st, if_true, if_false, ramping, running, reversing, or_self, Bool.false_eq_true]
  · have st : ¬stops := fun h => d (isStops.1 h).1
    rw [Wheel.enter_kept fun h => d (isDrops.2 h)]
    simp only [d, st, if_false]
    cases v.direction <;> rfl

/-- WD after a change of mode (R38, R158). -/
theorem changeMode_wheels {m : Mode} {s : State} (other : s.mp.mode ≠ m) :
    (changeMode m s).wd.applied = 0 ∧ ∃ x : State, x.wd.applied = 0 ∧ (∀ p, x.par p = s.par p) ∧
      ∀ w, (changeMode m s).wheel w = x.formed w ((s.wheel w).enter s.mp.mode m) := by
  have wd : (changeMode m s).wd = (wheelsEnter s.mp.mode (steeringEnter { s with mp := { s.mp with mode := m } })).wd := by
    rw [changeMode_eq other]
    simp [State.entering]
  have steered := steeringEnter_keeps { s with mp := { s.mp with mode := m } }
  generalize steeringEnter { s with mp := { s.mp with mode := m } } = u at wd steered
  obtain ⟨-, params, -, -, mp, -, -, -, wheels, -⟩ := steered
  have mode : u.mp.mode = m := by rw [mp]
  have wheel : ∀ w, u.wheel w = s.wheel w := fun w => by simp only [State.wheel, wheels]
  rw [wheelsEnter_eq, mode, wheel, wheel] at wd
  refine ⟨by rw [wd]; rfl, { u with wd := ⟨⟨(s.wheel .a).enter s.mp.mode m, (s.wheel .b).enter s.mp.mode m⟩, 0⟩ }, rfl,
    fun p => by simp only [State.par, params], fun w => ?_⟩
  have formed : (changeMode m s).wheel w = (formTargets { u with
      wd := ⟨⟨(s.wheel .a).enter s.mp.mode m, (s.wheel .b).enter s.mp.mode m⟩, 0⟩ }).wheel w := by
    simp only [State.wheel, wd]
    rfl
  rw [formed, formTargets_wheel]
  cases w <;> rfl

/-! ### SL and PM -/

theorem changeMode_sl {m : Mode} {s : State} (other : s.mp.mode ≠ m) :
    (changeMode m s).sl =
      if m = .manual then { s.sl with plateDemands := Vector.replicate 8 0, diffDemand := 0 } else s.sl := by
  have sl : (changeMode m s).sl = (steeringEnter { s with mp := { s.mp with mode := m } }).sl := by
    rw [changeMode_eq other]
    simp [State.entering]
  rw [sl]
  unfold steeringEnter
  dsimp only
  split <;> rfl

theorem changeMode_pm {m : Mode} {s : State} (other : s.mp.mode ≠ m) : (changeMode m s).pm =
    match m with
    | .standby => { s.pm.aborted with arbiter := if s.pm.arbiter = .halted then .halted else .idle }
    | .manual => (platesManual s).pm
    | .start | .auto | .hold => s.pm := by
  have pm : (changeMode m s).pm =
      (platesEnter (wheelsEnter s.mp.mode (steeringEnter { s with mp := { s.mp with mode := m } }))).pm := by
    rw [changeMode_eq other]
    simp [State.entering]
  have kept : (wheelsEnter s.mp.mode (steeringEnter { s with mp := { s.mp with mode := m } })).pm = s.pm := by simp
  have mode : (wheelsEnter s.mp.mode (steeringEnter { s with mp := { s.mp with mode := m } })).mp.mode = m := by simp
  rw [pm]
  generalize wheelsEnter s.mp.mode (steeringEnter { s with mp := { s.mp with mode := m } }) = u at kept mode
  unfold platesEnter platesStandby platesManual
  rw [mode, kept]
  cases m with
  | standby | manual => rfl
  | start | auto | hold => exact kept

/-- The table and the snapshots of PM are empty after entry to STANDBY (R150). -/
theorem Manifold.aborted_get (pm : Manifold) (p : Plate) : pm.aborted.table.get p = none ∧
    pm.aborted.urgentSnap.get p = false ∧ pm.aborted.trimSnap.get p = false := by
  unfold Manifold.aborted Manifold.emptied noPlates
  simp [Vector.get_replicate]

/-- Entry to MANUAL removes the pending TRIM entries from the table and from both snapshots (R150). -/
theorem platesManual_get (s : State) (p : Plate) :
    let trim := (s.pm.table.get p).any fun e => e.cls == .trim
    (platesManual s).pm.table.get p = (match s.pm.table.get p with
      | some ⟨target, .urgent⟩ => some ⟨target, .urgent⟩
      | _ => none) ∧
    (platesManual s).pm.trimSnap.get p = (s.pm.trimSnap.get p && !trim) ∧
    (platesManual s).pm.urgentSnap.get p = (s.pm.urgentSnap.get p && !trim) := by
  unfold platesManual State.putPm
  simp only [Vector.get_ofFn, Manifold.waitingOf_get, Manifold.holding]
  refine ⟨?_, trivial, trivial⟩
  cases s.pm.table.get p with
  | none => rfl
  | some e => cases e with | mk target cls => cases cls <;> rfl

/-! ### SR -/

/-- The command of the pump in each of its states, for a trim of 0 (R174). -/
theorem State.pumpCommand_level {s : State} (level : s.sr.trim = 0) : s.pumpCommand = match s.sr.pumpState with
    | .backflush => s.sr.command
    | .idle => s.pumpFor (s.par .idleFlow) 0
    | .manual => s.pumpFor s.sr.manualTarget 0
    | .balance => s.pumpFor s.sr.required 0
    | .off | .tripped => 0 := by
  cases state : s.sr.pumpState <;> simp [State.pumpCommand, state, level]

/-- SR after its part of a change of mode from `old` to the mode that stands (R38, R172, R173, R174, R177, R178,
R183). -/
theorem slurryEnter_sr (old : Mode) (u : State) :
    let t := slurryEnter old u
    t.sr = { u.sr with
      trim := 0
      backflushTimer := if u.mp.mode = .standby then none else u.sr.backflushTimer
      pumpState := t.pumpStateNow
      required := u.requiredFlow
      command := match t.sr.pumpState with
        | .backflush => u.sr.command
        | .idle => u.pumpFor (u.par .idleFlow) 0
        | .manual => u.pumpFor u.sr.manualTarget 0
        | .balance => u.pumpFor u.requiredFlow 0
        | .off | .tripped => 0
      feedPermit := t.permitNow
      feedLimit := if old ≠ .start then u.sr.feedLimit else u.feedLimitNow } := by
  intro t
  let x := recomputeRequired (trimmed u)
  have command : (refreshPump x).sr.command = match x.pumpStateNow with
      | .backflush => u.sr.command
      | .idle => u.pumpFor (u.par .idleFlow) 0
      | .manual => u.pumpFor u.sr.manualTarget 0
      | .balance => u.pumpFor u.requiredFlow 0
      | .off | .tripped => 0 := by
    rw [refreshPump, recomputePump_eq]
    exact State.pumpCommand_level rfl
  obtain ⟨c, shape⟩ := refreshPump_shape x
  rw [shape] at command
  have commanded : c = _ := command
  have entered : t = recomputePermit (if old = .start then recomputeFeedLimit (refreshPump x) else refreshPump x) := rfl
  rw [entered, shape, commanded]
  by_cases was : old = .start
  · rw [if_pos was, if_neg fun h => h was]
    rfl
  · rw [if_neg was, if_pos was]
    rfl

/-- SR after a change of mode (R38, R172, R173, R174, R177, R178, R183). -/
theorem changeMode_sr {m : Mode} {s : State} (other : s.mp.mode ≠ m) :
    let most := s.par .pumpMaxRpm * s.par .displacement / 1000
    let required := clamp 0 most
      (s.par .baseFlow + s.mp.cutArea * (if m = .auto then s.sr.feedCopy else 0) * s.par .carry / 1000000)
    let feed := min (s.par .operatorFeedLimit)
      (clamp 0 2000 ((most - s.par .baseFlow) * 1000000 / (s.mp.cutArea * s.par .carry)))
    let t := changeMode m s
    t.sr = { s.sr with
      trim := 0
      backflushTimer := if m = .standby then none else s.sr.backflushTimer
      pumpState := t.pumpStateNow
      required := required
      command := match t.sr.pumpState with
        | .backflush => s.sr.command
        | .idle => s.pumpFor (s.par .idleFlow) 0
        | .manual => s.pumpFor s.sr.manualTarget 0
        | .balance => s.pumpFor required 0
        | .off | .tripped => 0
      feedPermit := t.permitNow
      feedLimit := if s.mp.mode ≠ .start then s.sr.feedLimit else if s.sr.softMark then feed / 2 else feed } := by
  intro most required feed t
  obtain ⟨params, mp, -, -, sr⟩ := s.entering_keeps m
  have entered := slurryEnter_sr s.mp.mode (s.entering m)
  have reported : t = (slurryEnter s.mp.mode (s.entering m)).report (.mode m) := changeMode_eq other
  generalize s.entering m = u at *
  obtain ⟨permit, sr⟩ : ∃ on, u.sr = { s.sr with feedPermit := on } := ⟨_, sr⟩
  have par : ∀ p, u.par p = s.par p := fun p => by rw [State.par, State.par, params]
  have pumpFor : ∀ q, u.pumpFor q 0 = s.pumpFor q 0 := fun q => by simp only [State.pumpFor, par]
  have flow : u.requiredFlow = required := by
    simp only [State.requiredFlow, State.feedForFlow, State.maxFlow, par, mp, sr]
    rfl
  have limit : (if s.mp.mode ≠ .start then u.sr.feedLimit else u.feedLimitNow) =
      if s.mp.mode ≠ .start then s.sr.feedLimit else if s.sr.softMark then feed / 2 else feed := by
    split
    · rw [sr]
    · rename_i was
      have run : u.mp.mode ≠ .start := by
        rw [mp]
        exact fun e => was fun start => other (start.trans e.symm)
      simp only [State.feedLimitNow_of_mode run, par, mp, sr]
      rfl
  dsimp only at entered
  rw [limit, flow] at entered
  simp only [pumpFor, par, mp, sr] at entered
  generalize slurryEnter s.mp.mode u = x at *
  rw [reported]
  exact entered

/-- What a change of mode leaves as it is. -/
theorem changeMode_else {m : Mode} {s : State} (other : s.mp.mode ≠ m) :
    let t := changeMode m s
    t = { s with
      mp := { s.mp with mode := m }, sl := t.sl, pm := t.pm, wd := t.wd, sr := t.sr, reports := s.reports ++ [.mode m] } := by
  intro t
  obtain ⟨time, params, counters, li, fc, di, tu, sent, busy, pending⟩ := changeMode_keeps m s
  have mp := changeMode_mp m s
  have reports := changeMode_reports m s
  rw [if_neg other] at reports
  rw [← time, ← params, ← counters, ← li, ← fc, ← di, ← tu, ← sent, ← busy, ← pending, ← mp, ← reports]

end Sys2Proof.Machine

open Sys2Proof Sys2Proof.Machine in
/-- Settles O23: what a change of mode makes of each block. -/
theorem modeEntered : Obligations.ModeEntered := by
  unfold Obligations.ModeEntered
  intro m s other t dropped limit rpm most speed required feed
  obtain ⟨zero, x, xzero, par, wheels⟩ := changeMode_wheels other
  have pm := changeMode_pm other
  have sl := changeMode_sl other
  refine ⟨changeMode_else other, fun w => ?_, zero, ?_, ?_, ?_, ?_, ?_, ?_, changeMode_sr other⟩
  · intro v u drops stops
    have entered := Wheel.entered_eq s.mp.mode m v w xzero (drops := drops) (stops := stops)
      ⟨fun ⟨entered, reversed⟩ => ⟨entered, reversed⟩, fun h => ⟨h.entered, h.reversed⟩⟩
      (by rw [WheelState.moving_iff])
    dsimp only at entered
    rw [← wheels, par] at entered
    exact entered
  · rw [pm]
    cases m with
    | standby => cases arbiter : s.pm.arbiter <;> rfl
    | start | manual | auto | hold => rfl
  · intro standby
    subst standby
    exact ⟨fun p => by rw [pm]; exact s.pm.aborted_get p, fun _ => by rw [pm]; rfl⟩
  · intro manual
    subst manual
    exact ⟨by rw [pm]; rfl, fun p => by rw [pm]; exact (platesManual_get s p).1,
      fun p => by rw [pm]; exact (platesManual_get s p).2⟩
  · intro manual standby
    rw [pm]
    cases m <;> trivial
  · intro manual
    subst manual
    rw [sl]
    exact ⟨rfl, fun p => by simp⟩
  · intro manual
    rw [sl, if_neg manual]

end

section
/-! O26: what a request that closes the panel leaves. -/

namespace Sys2Proof.Machine

/-- The closing of the panel, but for the change of mode: `closed` of R42 for the counters that it leaves. -/
def State.panelShut (s : State) (now : RunTime) (c : Vector Nat 17) : State := { s with
  runTime := now
  counters := c
  mp := { s.mp with panel := .closed }
  di := { s.di with openRecord := none }
  sr := { s.sr with line := [], cutter := none } }

theorem State.addCounter_get (s : State) (k n : Nat) (low : 1 ≤ n) (high : n ≤ 17) :
    (s.addCounter 9 k).counter n = if n = 9 then min (s.counter 9 + k) 65535 else s.counter n := by
  have inside : n - 1 < 17 := by omega
  unfold State.addCounter State.counter
  by_cases nine : n = 9
  · subst nine
    simp [Config.counterCap, Vector.get_eq_getElem]
  · simp [inside, nine, Vector.get_eq_getElem]

/-- The waits having ended, the shut panel stands amid the same line as its waits left it. -/
theorem shut_cancelled_amid (u : State) :
    (cancelWaits u).shut = (u.panelShut u.runTime (u.addCounter 9 u.sr.line.length).counters).amid (cancelWaits u).shut := by
  obtain ⟨line, -⟩ := cancelWaits_lineOnly u
  generalize cancelWaits u = c at line
  obtain ⟨-, params, -, fc, sl, pm, wd, tu, -⟩ := c.shut_keeps
  obtain ⟨mp, di, sr, counters⟩ := c.shut_fields
  generalize c.shut = x at *
  rw [line] at *
  exact State.eq_amid params counters mp fc di sl pm wd sr tu

/-- The panel closed: the blocks and the mode of R42. -/
theorem closePanel_blocks (u : State) :
    let closed := u.panelShut u.runTime (u.addCounter 9 u.sr.line.length).counters
    (closePanel u).blocks = (if u.mp.mode = .start ∨ u.mp.mode = .standby then closed else changeMode .standby closed).blocks ∧
      (closePanel u).counters = closed.counters ∧ (closePanel u).di = { u.di with openRecord := none } ∧
      (closePanel u).mp = { u.mp with panel := .closed, mode := if u.mp.mode = .start then .start else .standby } := by
  intro closed
  have amid := shut_cancelled_amid u
  have shut : closePanel u = emergencyStandby (cancelWaits u).shut := closePanel_eq u
  rw [shut]
  generalize (cancelWaits u).shut = x at amid
  have mode : x.mp.mode = u.mp.mode := by
    rw [amid]
    rfl
  have stands : closed.counters = x.counters ∧ closed.di = x.di ∧ closed.mp = x.mp := by
    rw [amid]
    exact ⟨rfl, rfl, rfl⟩
  obtain ⟨counters, di, mp⟩ := stands
  have entered : (changeMode .standby x).blocks = (changeMode .standby closed).blocks ∧
      (changeMode .standby x).counters = closed.counters ∧ (changeMode .standby x).di = closed.di ∧
      (changeMode .standby x).mp = { closed.mp with mode := .standby } := by
    obtain ⟨-, -, counted, -, -, integrated, -⟩ := changeMode_keeps .standby x
    refine ⟨?_, counted.trans counters.symm, integrated.trans di.symm, by rw [changeMode_mp, mp]⟩
    rw [amid]
    exact changeMode_amid_blocks .standby closed x
  have stays : x.blocks = closed.blocks := by rw [amid, State.amid_blocks]
  unfold emergencyStandby
  rw [mode]
  cases was : u.mp.mode with
  | start | standby => exact ⟨stays, counters.symm, di.symm, mp.symm.trans (by simp [closed, State.panelShut, was])⟩
  | manual | auto | hold => exact entered

/-- No wait outlasts their cancelling (R42). -/
theorem cancelWaits_waiting (u : State) : (cancelWaits u).waiting = [] := by
  unfold cancelWaits
  rw [endWaits_waiting]
  exact List.filter_eq_nil_iff.2 fun _ _ => by simp

/-- With room for the replies of all waits, each that WAITS is answered CANCELLED (R26, R42). -/
theorem cancelWaits_replies {u : State} {older newer : List WaitEntry} {e : WaitEntry} (waits : u.li.waits = older ++ e :: newer)
    (granted : u.Granted) (few : u.li.waits.length ≤ 8) (room : u.li.replyQueue.length + u.li.waits.length ≤ 16) :
    ⟨0x94, e.tag, .cancelled, 0, true, [], .plain⟩ ∈ (cancelWaits u).li.replyQueue := by
  have member : e ∈ u.li.waits := by simp [waits]
  have some := List.length_pos_of_mem member
  have free : u.li.replyQueue.length < Config.replyQueueSize := show _ < 16 by omega
  have queue : (cancelWaits u).li.replyQueue =
      u.li.replyQueue ++ (heldParts (endedWaits (fun _ => Option.some (Reply.refuse .cancelled)) u)).take u.freeSlots := by
    unfold cancelWaits
    rw [endWaits_eq granted few]
    rfl
  rw [queue, endedWaits_cancelled, heldParts_cancelled (granted free).1, List.take_of_length_le]
  · exact List.mem_append_right _ (List.mem_map.2 ⟨e, member, rfl⟩)
  · rw [List.length_map]
    exact show _ ≤ 16 - _ by omega

/-- The replies that stand when a request is answered stand after it (R8, R9). -/
theorem answerPlaced_prefix (x : State) (r : Request) (reply : Reply) (idle : x.li.handler = .idle) :
    x.li.replyQueue <+: (answerPlaced r (x, some reply)).li.replyQueue := by
  have placed : answerPlaced r (x, some reply) =
      sendRecords (handlerReply (singlePart r.kind r.tag reply) (takeReports x)) := rfl
  obtain ⟨t, ⟨-, -, -, -, grown, stays⟩, taken⟩ := takeReports_line x
  have li : (takeReports x).li = t.li := by rw [taken]
  obtain ⟨-, -, -, -, more, -⟩ := handlerReply_lineOnly (singlePart r.kind r.tag reply) (takeReports x)
    (by rw [li]; exact stays idle)
  rw [placed, (sendRecords_keeps _).2.2.2.1]
  rw [li] at more
  exact grown.trans more

end Sys2Proof.Machine

open Sys2Proof Sys2Proof.Machine in
/-- Settles O26: the waits end, the panel shuts, and the mode follows. -/
theorem panelClosed : Obligations.PanelClosed := by
  unfold Obligations.PanelClosed
  intro s now r rest takes closed
  have taken : exec (.panelClose now) s = .next (answerPlaced r (ownPanelClose r (s.taken now rest))) := by
    rw [← takeRequest_taken takes]
    rfl
  obtain ⟨idle, queue, -⟩ := takes
  refine ⟨fun shut => ⟨_, taken.trans (by rw [show ownPanelClose r (s.taken now rest) = _ from if_neg shut]; rfl),
    answerPlaced_only (Reply.refuse .wrongState) idle queue⟩, fun opened => ?_⟩
  have acts : ownPanelClose r (s.taken now rest) = (closePanel (s.taken now rest), some (Reply.ok [])) := if_pos opened
  rw [acts] at taken
  have mp : (s.taken now rest).mp = s.mp := rfl
  have di : (s.taken now rest).di = s.di := rfl
  have counts : ∀ n, (s.taken now rest).counter n = s.counter n := fun _ => rfl
  have line : (s.taken now rest).sr.line = s.sr.line := rfl
  have waits : (s.taken now rest).li.waits = s.li.waits := rfl
  have replies : (s.taken now rest).li.replyQueue = s.li.replyQueue := rfl
  have begun : (s.taken now rest).Granted ↔ s.Granted := Iff.rfl
  have starts : (s.taken now rest).runTime = now ∧ (s.taken now rest).pending = s.pending := ⟨rfl, rfl⟩
  have shut : ∀ c, ((s.taken now rest).panelShut now c).blocks = (closed c).blocks ∧
      (changeMode .standby ((s.taken now rest).panelShut now c)).blocks = (changeMode .standby (closed c)).blocks := fun c => by
    have amid : (s.taken now rest).panelShut now c = (closed c).amid ((s.taken now rest).panelShut now c) := rfl
    rw [amid]
    exact ⟨rfl, changeMode_amid_blocks _ _ _⟩
  have answered := fun {x : State} (time : x.runTime = now) (pending : x.pending = s.pending) =>
    answerPlaced_replied (u := x) (rest := rest) (reply := Reply.ok []) idle queue ⟨time, pending⟩
  have handler : (s.taken now rest).li.handler = .idle := idle
  generalize s.taken now rest = u at *
  obtain ⟨time, pending, li⟩ := closePanel_line u
  obtain ⟨blocks, counters, integrated, modes⟩ := closePanel_blocks u
  have only : u.LineOnly { u with li := (closePanel u).li } := by
    have cancelled := cancelWaits_lineOnly u
    have same : ({ u with li := (cancelWaits u).li } : State) = cancelWaits u := cancelled.1.symm
    rw [li, same]
    exact cancelled
  have none : (closePanel u).waiting = [] := by
    rw [State.waiting, li]
    exact cancelWaits_waiting u
  have still : (closePanel u).li.handler = .idle := by
    obtain ⟨-, -, -, -, -, stays⟩ := cancelWaits_lineOnly u
    rw [li]
    exact stays handler
  have ended : ∀ older e newer, s.li.waits = older ++ e :: newer → s.Granted → s.li.waits.length ≤ 8 →
      s.li.replyQueue.length + s.li.waits.length ≤ 16 →
      ⟨0x94, e.tag, .cancelled, 0, true, [], .plain⟩ ∈ (closePanel u).li.replyQueue := by
    intro older e newer split granted few room
    rw [← waits] at split few room
    rw [← replies] at room
    rw [li]
    exact cancelWaits_replies split (begun.2 granted) few room
  obtain ⟨replied, same, -⟩ := answered (time.trans starts.1) (pending.trans starts.2) only
  have stay := answerPlaced_stay (closePanel u) r (Reply.ok [])
  have first := answerPlaced_prefix (closePanel u) r (Reply.ok []) still
  rw [none, List.filter_nil] at stay
  generalize answerPlaced r (closePanel u, some (Reply.ok [])) = t at *
  generalize closePanel u = x at *
  have counted : t.counters = (u.panelShut u.runTime (u.addCounter 9 u.sr.line.length).counters).counters :=
    (congrArg Blocks.counters same).trans counters
  rw [starts.1] at blocks counted
  refine ⟨t, taken, replied, stay, ?_, fun n low high => ?_, ?_, ?_, fun older e newer split _ granted few room =>
    first.subset (ended older e newer split granted few room)⟩
  · rw [← di]
    exact (congrArg Blocks.di same).trans integrated
  · rw [← counts, ← counts, ← line, State.counter, counted]
    exact u.addCounter_get _ n low high
  · rw [same, blocks, ← mp, counted]
    split
    · exact (shut _).1
    · exact (shut _).2
  · rw [← mp]
    exact (congrArg Blocks.mp same).trans modes

end

section
/-! O27: START lasts while a channel is ABSENT and its window runs, whatever the arrivals bring; its end. -/

namespace Sys2Proof.Machine

/-! ### SENSOR_STALE is told when it becomes present -/

/-- SENSOR_STALE, absent once (`was`), is told to TU when it is present (R51). -/
def State.StaleTold (was : Bool) (s : State) : Prop :=
  s.fc.sensorStale = true → was = false → s.source Source.sensorStale = .active

theorem sensorStaleWatch_told {was : Bool} {s : State} (h : s.StaleTold was) : (sensorStaleWatch s).StaleTold was := by
  unfold sensorStaleWatch
  dsimp only
  split
  · exact h
  · intro present _
    rw [(condition_keeps _ _ _).2.2.2.2.1] at present
    rw [condition_source, if_pos rfl, show s.sensorStaleNow = true from present]
    cases State.source _ Source.sensorStale <;> rfl

/-! ### START goes on -/

/-- START runs with its window timer as it was, `absent` the channels that have not arrived yet (R29). -/
structure State.Starts (timer : Option Timer) (was : Bool) (absent : Channel → Prop) (s : State) : Prop where
  mode : s.mp.mode = .start
  window : s.mp.startTimer = timer
  channels : ∀ d, (s.chan d).state = .absent ↔ absent d
  told : s.StaleTold was

namespace State.Starts

variable {timer : Option Timer} {was : Bool} {absent : Channel → Prop} {s t : State}

theorem of_same (h : s.Starts timer was absent) (mode : t.mp.mode = s.mp.mode := by rfl)
    (window : t.mp.startTimer = s.mp.startTimer := by rfl) (channels : t.fc.channels = s.fc.channels := by rfl)
    (stale : t.fc.sensorStale = s.fc.sensorStale := by rfl)
    (source : t.source Source.sensorStale = s.source Source.sensorStale := by rfl) : t.Starts timer was absent := by
  refine ⟨mode.trans h.mode, window.trans h.window, fun d => ?_, ?_⟩
  · rw [State.chan_congr channels]
    exact h.channels d
  · unfold State.StaleTold
    rw [stale, source]
    exact h.told

theorem of_blocks (h : s.Starts timer was absent) (mp : t.mp = s.mp) (fc : t.fc = s.fc) (tu : t.tu = s.tu) :
    t.Starts timer was absent :=
  h.of_same (by rw [mp]) (by rw [mp]) (by rw [fc]) (by rw [fc]) (by rw [State.source, State.source, tu])

theorem condition {i : Source} (cutting : i ≠ Source.emergency) (other : i ≠ Source.sensorStale) (b : Bool)
    (h : s.Starts timer was absent) : (condition i b s).Starts timer was absent :=
  have mp := (condition_other cutting b s).1
  h.of_same (by rw [mp]) (by rw [mp]) (by simp) (by simp) (by rw [condition_source, if_neg (Ne.symm other)])

theorem sensorStaleWatch (h : s.Starts timer was absent) : (sensorStaleWatch s).Starts timer was absent := by
  obtain ⟨fc, mp, -⟩ := sensorStaleWatch_fields s
  refine ⟨by rw [mp]; exact h.mode, by rw [mp]; exact h.window, fun d => ?_, sensorStaleWatch_told h.told⟩
  rw [State.chan_congr (s := s) (by rw [fc])]
  exact h.channels d

theorem holdTest (h : s.Starts timer was absent) : (holdTest s).Starts timer was absent := by
  unfold Machine.holdTest
  rw [h.mode]
  exact h

theorem channelReport (c : Channel) (h : s.Starts timer was absent) : (channelReport c s).Starts timer was absent := by
  have mp := channelReport_mp c s
  have fc := channelReport_fc c s
  refine h.of_same ?_ ?_ (channelReport_channels c s) ?_ (channelReport_source c (by decide) (by decide) s)
  · rw [mp]
    cases c with
    | incl m a => simp only [derive_mp, (s.derived_fields a).2.1]
    | _ => rfl
  · rw [mp]
    cases c with
    | incl m a => simp only [derive_mp, (s.derived_fields a).2.1]
    | _ => rfl
  · rw [fc]
    cases c with
    | incl m a => simp only [derive_fc, (s.derived_fields a).1]
    | _ => rfl

/-- An entry that is not ABSENT takes the place of one that is not. -/
theorem setChan {c : Channel} {e : ChannelEntry} (h : s.Starts timer was absent) (present : e.state ≠ .absent)
    (other : ¬absent c) : (s.setChan c e).Starts timer was absent := by
  refine ⟨h.mode, h.window, fun d => ?_, h.told⟩
  by_cases same : c = d
  · subst same
    rw [State.chan_setChan_same]
    exact iff_of_false present other
  · rw [State.chan_setChan_other _ _ _ _ same]
    exact h.channels d

theorem forceStale (other : ¬absent .depth) (h : s.Starts timer was absent) : (forceStale s).Starts timer was absent := by
  unfold Machine.forceStale
  dsimp only
  have marked := (h.setChan (c := .depth) (e := { s.chan .depth with state := .stale, good := 0, unjudged := true })
    (by simp) other).of_same (t := { s.setChan .depth { s.chan .depth with state := .stale, good := 0, unjudged := true } with
      fc := { (s.setChan .depth { s.chan .depth with state := .stale, good := 0, unjudged := true }).fc with
        recovery := true, rejections := 0 } })
  split
  · exact (marked.channelReport .depth).holdTest.sensorStaleWatch
  · exact marked

theorem rejectDepth (other : ¬absent .depth) (h : s.Starts timer was absent) : (rejectDepth s).Starts timer was absent := by
  have counted : (s.count 5).Starts timer was absent := h.of_blocks (by simp) (by simp) (by simp)
  unfold Machine.rejectDepth
  dsimp only
  generalize s.count 5 = u at counted
  split
  · exact counted.of_same
  · exact counted.forceStale other

theorem acceptDepth (d raw : Int) (recovery : Bool) (h : s.Starts timer was absent) :
    (acceptDepth d raw recovery s).Starts timer was absent := by
  have accepted : ({ s with fc := { s.fc with
      lastAccepted := some d, lastRaw := some raw, rejections := 0, recovery := false, accepted := true } } : State).Starts
      timer was absent := h.of_same
  unfold Machine.acceptDepth
  exact accepted.of_blocks (by simp) (by simp) (by simp)

theorem depthArrival (v : Int) (other : ¬absent .depth) (h : s.Starts timer was absent) :
    (depthArrival v s).Starts timer was absent := by
  unfold Machine.depthArrival
  dsimp only
  split
  · exact h.rejectDepth other
  · split
    · exact h.acceptDepth _ _ _
    · split
      · split
        · exact h.acceptDepth _ _ _
        · exact h
      · split
        · exact h.rejectDepth other
        · exact h.acceptDepth _ _ _

theorem blockageWatch (h : s.Starts timer was absent) : (blockageWatch s).Starts timer was absent := by
  unfold Machine.blockageWatch
  split
  · split
    · split
      · exact h
      · exact h.of_same
    · dsimp only
      split
      · exact State.Starts.condition (by decide) (by decide) _ h.of_same
      · exact h.of_same
  · exact h

/-- The users of a value leave START as it runs (R29, R48). -/
theorem passValue (c : Channel) (v : Int) (other : ¬absent c) (h : s.Starts timer was absent) :
    (passValue c v s).Starts timer was absent := by
  cases c with
  | incl m a => exact (h.channelReport (.incl m a)).holdTest
  | twist =>
    obtain ⟨fc, mp, source⟩ := twistLimitWatch_fields s
    exact h.of_same (t := twistLimitWatch s) (by rw [mp]) (by rw [mp]) (by rw [fc]) (by rw [fc]) (source _ (by decide))
  | depth => exact h.depthArrival v other
  | speed w => exact h.of_blocks (t := gatherSpeed w v (speedArrival w v s)) (by simp) (by simp) (by simp)
  | press w => exact h.of_blocks (t := gatherPress w v (pressArrival w s)) (by simp) (by simp) (by simp)
  | plate p => exact h.of_blocks (t := plateArrival p s) (by simp) (by simp) (by simp)
  | pumpPress => exact h.blockageWatch
  | retFlow =>
    have watched := h.blockageWatch
    generalize made : Machine.blockageWatch s = u at watched
    refine watched.of_blocks (t := Machine.passValue .retFlow v s) ?_ ?_ ?_ <;> simp [Machine.passValue, made]
  | retDens =>
    have watched : (densityWatch v s).Starts timer was absent := by
      have marked := softWatch_same v s
      have kept : (softWatch v s).Starts timer was absent := by
        unfold softWatch
        dsimp only
        split
        · exact h
        · exact h.of_same
      rw [densityWatch_eq]
      unfold tellChange
      split
      · exact kept.of_same
      · exact State.Starts.condition (by decide) (by decide) _ kept.of_same
    exact watched.of_blocks (t := densitySample v (densityWatch v s)) (by simp) (by simp) (by simp)

/-- An arrival leaves START as it runs, its channel being ABSENT no more (R29, R48). -/
theorem arrival (c : Channel) (v : Int) (h : s.Starts timer was absent) :
    (arrival c v s).Starts timer was fun d => d ≠ c ∧ absent d := by
  have seen : (s.seen c v).Starts timer was fun d => d ≠ c ∧ absent d := by
    refine ⟨h.mode, h.window, fun d => ?_, h.told⟩
    rw [State.seen_state, ← h.channels]
    by_cases same : d = c
    · subst same
      by_cases first : (s.chan d).state = .absent <;> simp [first]
    · simp [same]
  rw [arrival_seen]
  refine State.Starts.passValue c v (fun k => k.1 rfl) ?_
  split
  · exact (seen.channelReport c).holdTest.sensorStaleWatch
  · exact seen

end State.Starts

/-! ### The end of START -/

/-- START has ended: what stands in MP and FC (R29, R51). -/
structure State.StartEnded (was : Bool) (t : State) : Prop where
  mode : t.mp.mode = .standby
  window : t.mp.startTimer = none
  ended : t.fc.startOver = true
  stale : t.fc.sensorStale = true ↔ ∃ c, t.fresh c = false
  told : t.StaleTold was

theorem endStart_eq (s : State) : endStart s = sensorStaleWatch (changeMode .standby s.startOver) := rfl

theorem endStart_ended {was : Bool} {s : State} (start : s.mp.mode = .start) (told : s.StaleTold was) :
    (endStart s).StartEnded was ∧ (endStart s).fc.channels = s.fc.channels ∧ (endStart s).sl = s.sl := by
  have entered : (changeMode .standby s.startOver).fc = { s.fc with startOver := true } ∧
      (changeMode .standby s.startOver).mp = { s.mp with mode := .standby, startTimer := none } ∧
      (changeMode .standby s.startOver).sl = s.sl ∧ (changeMode .standby s.startOver).StaleTold was := by
    have other : s.startOver.mp.mode ≠ .standby := by
      rw [show s.startOver.mp.mode = .start from start]
      decide
    have fc : (changeMode .standby s.startOver).fc = { s.fc with startOver := true } := by
      rw [(changeMode_keeps _ _).2.2.2.2.1]
      rfl
    refine ⟨fc, changeMode_mp _ _, (changeMode_sl other).trans rfl, ?_⟩
    unfold State.StaleTold State.source
    rw [fc, (changeMode_keeps _ _).2.2.2.2.2.2.1]
    exact told
  obtain ⟨fc, mp, sl, still⟩ := entered
  rw [endStart_eq]
  generalize changeMode .standby s.startOver = u at *
  obtain ⟨fc', mp', sl', -⟩ := sensorStaleWatch_fields u
  have channels : (sensorStaleWatch u).fc.channels = s.fc.channels := by rw [fc', fc]
  have stale : (sensorStaleWatch u).fc.sensorStale = true ↔ ∃ c, (sensorStaleWatch u).fresh c = false := by
    rw [fc', State.fresh_congr (s := u) (by rw [fc'])]
    show u.sensorStaleNow = true ↔ _
    rw [State.sensorStaleNow_iff, show u.fc.startOver = true by rw [fc]]
    refine exists_congr fun c => ?_
    unfold State.fresh
    cases (u.chan c).state <;> simp
  exact ⟨⟨by rw [mp', mp], by rw [mp', mp], by rw [fc', fc], stale, sensorStaleWatch_told still⟩, channels, sl'.trans sl⟩

/-- The end of the event leaves a START that has ended as it is. -/
theorem State.StartEnded.finish {was : Bool} {t : State} (h : t.StartEnded was) : (finish t).StartEnded was := by
  obtain ⟨-, -, -, mp, fc, -, -, tu, -⟩ := finish_keeps t
  refine ⟨by rw [mp]; exact h.mode, by rw [mp]; exact h.window, by rw [fc]; exact h.ended, ?_, ?_⟩
  · rw [State.fresh_congr (s := t) (by rw [fc]), fc]
    exact h.stale
  · unfold State.StaleTold State.source
    rw [fc, tu]
    exact h.told

end Sys2Proof.Machine

open Sys2Proof Sys2Proof.Machine in
/-- Settles O27: `endStart_ended` where START ends, `State.Starts.arrival` while it goes on. -/
theorem startEnds : Obligations.StartEnds := by
  unfold Obligations.StartEnds
  intro s now ended
  have fresh : (s.begin now).StaleTold s.fc.sensorStale := fun present absent => by
    rw [show s.fc.sensorStale = true from present] at absent
    cases absent
  have ends : ∀ u : State, u.runTime = now → u.StartEnded s.fc.sensorStale → ended (finish u) := fun u time starts => by
    have finished := starts.finish
    exact ⟨(finish_keeps u).1.trans time, finished.mode, finished.window, finished.ended, finished.stale, finished.told⟩
  refine ⟨fun g start running due => ?_, fun idle => ?_, fun c v start low high => ?_⟩
  · have acts : startExpiry (s.begin now) = endStart (s.begin now) := if_pos ⟨start, by
      show timerDue s.mp.startTimer now = true
      rw [running]
      exact decide_eq_true due⟩
    have run : exec (.startWindowExpiry now) s = .next (finish (endStart (s.begin now))) := by
      rw [← acts]
      rfl
    obtain ⟨starts, channels, sl⟩ := endStart_ended (s := s.begin now) start fresh
    obtain ⟨time, params, counters, -, di, -⟩ := endStart_keeps (s.begin now)
    generalize endStart (s.begin now) = u at *
    obtain ⟨-, params', counters', -, fc', di', sl', -⟩ := finish_keeps u
    exact ⟨_, run, ends u time starts, (congrArg FieldChannels.channels fc').trans channels, di'.trans di, sl'.trans sl,
      params'.trans params, counters'.trans counters⟩
  · refine ⟨_, rfl, ?_⟩
    have found : startExpiry (s.begin now) = s.begin now := if_neg fun ⟨start, due⟩ => by
      rcases idle with other | early
      · exact other start
      · rw [show timerDue s.mp.startTimer now = true from due] at early
        cases early
    exact event_lineBecomes found
  · have arrived := State.Starts.arrival (was := s.fc.sensorStale) (s := s.begin now) c v ⟨start, rfl, fun d => Iff.rfl, fresh⟩
    have run : exec (.sampleArrival (c.idx.val + 1) v now) s = .next (finish (startTest (arrival c v (s.begin now)))) := by
      rw [← sample_arrival low high]
      rfl
    have time : (arrival c v (s.begin now)).runTime = now := by simp
    generalize arrival c v (s.begin now) = u at *
    have chan : ∀ d, (s.begin now).chan d = s.chan d := fun _ => rfl
    have test : (∀ d, (u.chan d).state ≠ .absent) ↔ (Channel.all.all fun d => (u.chan d).state != .absent) = true := by
      simp [Channel.mem_all]
    simp only [ne_eq, arrived.channels, chan] at test
    unfold startTest at run
    refine ⟨fun present => ?_, fun ⟨d, other, absent⟩ => ?_⟩
    · rw [if_pos ⟨arrived.mode, test.1 fun d ⟨other, absent⟩ => present d other absent⟩] at run
      exact ⟨_, run, ends _ ((endStart_keeps u).1.trans time) (endStart_ended arrived.mode arrived.told).1⟩
    · rw [if_neg fun k => test.2 k.2 d ⟨other, absent⟩] at run
      obtain ⟨-, -, -, mp, -⟩ := finish_keeps u
      exact ⟨_, run, by rw [mp]; exact arrived.mode, by rw [mp]; exact arrived.window⟩

end

section
/-! O32: the slope of an axis derived once or, at the first arrival on a channel, twice. -/

namespace Sys2Proof.Machine

/-! ### What a derivation leaves -/

/-- The copy of a slope that DI holds (R66). -/
def AxisSlope.copy (v : AxisSlope) : SlopeCopy := ⟨v.slope, v.case, v.clamped, v.disagreeing⟩

/-- `u` holds the slope of the axis `a` as it is derived in `s`, with what follows from it (R33, R55 to R60, R66). -/
structure State.Derives (a : Axis) (s u : State) : Prop where
  time : u.runTime = s.runTime
  params : u.params = s.params
  channels : u.fc.channels = s.fc.channels
  slopes : u.fc.slopes = s.fc.slopes.set a (s.derivedSlope a)
  disagree : u.fc.inclDisagree = (s.fc.inclDisagree && (u.fc.slopes.x.disagreeing || u.fc.slopes.y.disagreeing))
  limit : u.fc.inclLimit = u.tilted
  copies : u.di.copies = s.di.copies.set a (s.derivedSlope a).copy
  track : u.di.path = s.di.path ∧ u.di.depth = s.di.depth ∧ u.di.log = s.di.log ∧ u.di.ring = s.di.ring
  causes : u.mp.holdCauses = { s.mp.holdCauses with slope := u.slopeless }
  plan : u.sl.plan = s.sl.plan

theorem derive_derives (a : Axis) (s : State) : s.Derives a (derive a s) := by
  obtain ⟨fc, mp, -, sl, -⟩ := s.derived_fields a
  have fc' := derive_fc a s
  have mp' := (derive_mp a s).trans mp
  obtain ⟨slopes, channels⟩ := derive_slopes a s
  have tilt : (s.derived a).tilted = (derive a s).tilted := by
    unfold State.tilted State.par
    rw [slopes, (derive_keeps a s).2.1, (s.derived_fields a).2.2.2.2.2, fc]
  have slopeless : (s.derived a).slopeless = (derive a s).slopeless := by
    unfold State.slopeless
    rw [slopes, fc]
  have disagrees : (s.derived a).stillDisagrees =
      (s.fc.inclDisagree && ((derive a s).fc.slopes.x.disagreeing || (derive a s).fc.slopes.y.disagreeing)) := by
    unfold State.stillDisagrees
    rw [slopes, fc]
  have di : (derive a s).di.copies = s.di.copies.set a (s.derivedSlope a).copy ∧ (derive a s).di.path = s.di.path ∧
      (derive a s).di.depth = s.di.depth ∧ (derive a s).di.log = s.di.log ∧ (derive a s).di.ring = s.di.ring := by
    rw [derive_di]
    exact ⟨rfl, rfl, rfl, rfl, rfl⟩
  exact ⟨(derive_keeps a s).1, (derive_keeps a s).2.1, channels, slopes, (congrArg FieldChannels.inclDisagree fc').trans disagrees,
    (congrArg FieldChannels.inclLimit fc').trans tilt,
    di.1, di.2, by rw [mp', slopeless], by rw [derive_sl]⟩

namespace State.Derives

variable {a : Axis} {s u t : State}

theorem of_same (h : s.Derives a u) (time : t.runTime = u.runTime) (params : t.params = u.params)
    (channels : t.fc.channels = u.fc.channels) (slopes : t.fc.slopes = u.fc.slopes)
    (disagree : t.fc.inclDisagree = u.fc.inclDisagree) (limit : t.fc.inclLimit = u.fc.inclLimit) (di : t.di = u.di)
    (causes : t.mp.holdCauses = u.mp.holdCauses) (plan : t.sl.plan = u.sl.plan) : s.Derives a t := by
  have tilted : t.tilted = u.tilted := by
    unfold State.tilted State.par
    rw [params, slopes]
  have slopeless : t.slopeless = u.slopeless := by
    unfold State.slopeless
    rw [slopes]
  exact ⟨time.trans h.time, params.trans h.params, channels.trans h.channels, slopes.trans h.slopes,
    by rw [disagree, slopes]; exact h.disagree, by rw [limit, tilted]; exact h.limit, by rw [di]; exact h.copies,
    by rw [di]; exact h.track, by rw [causes, slopeless]; exact h.causes, plan.trans h.plan⟩

/-- A slope derived again from the same channels is the same slope (R55, R58). -/
theorem derivedSlope (h : s.Derives a u) : u.derivedSlope a = s.derivedSlope a := by
  have chan := State.chan_congr h.channels
  have cases : u.slopeCase = s.slopeCase := State.slopeCase_congr h.channels
  have raw : u.rawSlope = s.rawSlope := by
    funext b
    unfold State.rawSlope State.value
    rw [State.fresh_congr h.channels, chan]
  have apart : u.disagrees = s.disagrees := by
    funext b
    unfold State.disagrees State.value State.par
    rw [cases, chan, h.params]
  have timer : ∀ n, u.timer n = s.timer n := fun n => by
    unfold State.timer
    rw [h.time]
  have old : u.fc.slopes.get a = s.derivedSlope a := by
    rw [h.slopes, PerAxis.get_set, if_pos rfl]
  unfold State.derivedSlope State.par
  simp only [old, cases, raw, apart, timer, h.params]
  unfold State.derivedSlope State.par
  dsimp only
  congr 1 <;> split <;> simp_all

theorem again (h : s.Derives a u) : s.Derives a (derive a u) := by
  have next := derive_derives a u
  have set_set : ∀ {α : Type} (p : PerAxis α) (v : α), (p.set a v).set a v = p.set a v := fun p v => by cases a <;> rfl
  have slopes : (derive a u).fc.slopes = u.fc.slopes := by
    rw [next.slopes, h.derivedSlope, h.slopes, set_set]
  have copies : (derive a u).di.copies = u.di.copies := by
    rw [next.copies, h.derivedSlope, h.copies, set_set]
  have disagree : (derive a u).fc.inclDisagree = u.fc.inclDisagree := by
    rw [next.disagree, slopes, h.disagree, Bool.and_assoc, Bool.and_self]
  have limit : (derive a u).fc.inclLimit = u.fc.inclLimit := by
    rw [next.limit, h.limit]
    unfold State.tilted State.par
    rw [slopes, next.params]
  have causes : (derive a u).mp.holdCauses = u.mp.holdCauses := by
    rw [next.causes, h.causes]
    unfold State.slopeless
    rw [slopes]
  obtain ⟨path, depth, log, ring⟩ := next.track
  obtain ⟨path', depth', log', ring'⟩ := h.track
  refine ⟨next.time.trans h.time, next.params.trans h.params, next.channels.trans h.channels, slopes.trans h.slopes,
    ?_, next.limit, copies.trans h.copies, ⟨path.trans path', depth.trans depth', log.trans log', ring.trans ring'⟩,
    ?_, next.plan.trans h.plan⟩
  · rw [disagree, slopes]
    exact h.disagree
  · rw [causes, h.causes]
    unfold State.slopeless
    rw [slopes]

end State.Derives

/-! ### MP's test -/

theorem HoldCauses.absent_iff (h : HoldCauses) : h.present = false ↔ h = ⟨false, false, false⟩ := by
  cases h
  simp [HoldCauses.present, and_assoc]

/-- MP has tested the causes of a state with the mode and the counter 17 of `s` (R34). -/
theorem holdTest_tested {s u : State} (mode : u.mp.mode = s.mp.mode) (counter : u.counter 17 = s.counter 17) :
    s.HoldTested (holdTest u) := by
  have mp := holdTest_mp u
  have count : (holdTest u).counter 17 = u.holdCounted.counter 17 := by
    unfold State.counter
    rw [holdTest_counters]
  have free : (holdTest u).mp.holdCauses = ⟨false, false, false⟩ ↔ u.mp.holdCauses.present = false := by
    rw [mp, HoldCauses.absent_iff]
  have counted := u.counter_count (n := 17) (by decide) (by decide) 17 (by decide)
  unfold State.HoldTested
  dsimp only
  rw [free, count, mp, ← mode, ← counter]
  unfold State.testedMode State.holdCounted
  cases u.mp.mode <;> cases u.mp.holdCauses.present <;> simp [counted]

namespace State.HoldTested

variable {s u t : State}

/-- The causes tested, START may still end (R29). -/
theorem of_same (h : s.HoldTested u) (causes : t.mp.holdCauses = u.mp.holdCauses) (counter : t.counter 17 = u.counter 17)
    (mode : t.mp.mode = u.mp.mode ∨ u.mp.mode = .start ∧ t.mp.mode = .standby) : s.HoldTested t := by
  unfold State.HoldTested at h ⊢
  dsimp only at h ⊢
  rw [causes, counter]
  obtain ⟨holds, resumes, stays⟩ := h
  rcases mode with same | ⟨start, standby⟩
  · rw [same]
    exact ⟨holds, resumes, stays⟩
  · rw [start] at holds resumes stays
    refine ⟨fun auto cause => ?_, fun hold free => ?_, fun a b => ?_⟩
    · cases (holds auto cause).1
    · cases (resumes hold free).1
    · obtain ⟨kept, was | was⟩ := stays a b
      · exact ⟨kept, .inr ⟨was.symm, standby⟩⟩
      · cases was.2

/-- What has been tested needs no second test (R34). -/
theorem quiet (h : s.HoldTested u) : holdTest u = u := by
  obtain ⟨holds, resumes, stays⟩ := h
  have free := u.mp.holdCauses.absent_iff
  refine holdTest_quiet (fun auto => ?_) fun hold => ?_
  · rw [free]
    by_contra cause
    by_cases was : s.mp.mode = .auto
    · rw [(holds was cause).1] at auto
      cases auto
    · obtain ⟨-, same | starts⟩ := stays (fun k => was k.1) fun k => cause k.2
      · exact was (same.symm.trans auto)
      · rw [starts.2] at auto
        cases auto
  · by_contra none
    have all := free.1 (Bool.eq_false_iff.2 none)
    by_cases was : s.mp.mode = .hold
    · rw [(resumes was all).1] at hold
      cases hold
    · obtain ⟨-, same | starts⟩ := stays (fun k => k.2 all) fun k => was k.1
      · exact was (same.symm.trans hold)
      · rw [starts.2] at hold
        cases hold

end State.HoldTested

/-! ### The arrival -/

/-- The test of START's end leaves of FC the slopes and the channels, and of MP the causes (R29). -/
theorem startTest_fields (s : State) :
    (startTest s).fc = { s.fc with startOver := (startTest s).fc.startOver, sensorStale := (startTest s).fc.sensorStale } ∧
      (startTest s).mp = { s.mp with mode := (startTest s).mp.mode, startTimer := (startTest s).mp.startTimer } ∧
      ((startTest s).mp.mode = s.mp.mode ∨ s.mp.mode = .start ∧ (startTest s).mp.mode = .standby) := by
  unfold startTest
  split
  · rename_i ends
    obtain ⟨fc, mp, -⟩ := sensorStaleWatch_fields (changeMode .standby s.startOver)
    rw [changeMode_mp] at mp
    rw [(changeMode_keeps _ _).2.2.2.2.1] at fc
    rw [endStart_eq]
    generalize sensorStaleWatch (changeMode .standby s.startOver) = u at *
    exact ⟨by rw [fc]; rfl, by rw [mp]; rfl, .inr ⟨ends.1, by rw [mp]⟩⟩
  · exact ⟨rfl, rfl, .inl rfl⟩

/-- The slope of the axis stands derived, and MP has tested the causes, once as after twice (R34, R48, R55). -/
theorem arrival_derives (m : Mount) (a : Axis) (v : Int) (s : State) :
    (s.seen (.incl m a) v).Derives a (arrival (.incl m a) v s) ∧ s.HoldTested (arrival (.incl m a) v s) := by
  have held : ∀ {u : State}, (s.seen (.incl m a) v).Derives a u → (s.seen (.incl m a) v).Derives a (holdTest u) := fun h => by
    have mp := holdTest_mp
    exact h.of_same (by simp) (by simp) (by simp) (by simp) (by simp) (by simp) (by simp) (by rw [mp]) (by simp)
  have derived := derive_derives a (s.seen (.incl m a) v)
  have mode : ∀ u : State, (derive a u).mp.mode = u.mp.mode := fun u => by rw [derive_mp, (u.derived_fields a).2.1]
  have counter : ∀ u : State, (derive a u).counter 17 = u.counter 17 := fun u => by
    unfold State.counter
    rw [(derive_keeps a u).2.2.1]
  have tested : s.HoldTested (holdTest (derive a (s.seen (.incl m a) v))) :=
    holdTest_tested (by rw [mode]; rfl) (by rw [counter]; rfl)
  rw [arrival_seen]
  split
  · show (s.seen (.incl m a) v).Derives a (holdTest (derive a (sensorStaleWatch (holdTest (derive a (s.seen (.incl m a) v)))))) ∧
      s.HoldTested (holdTest (derive a (sensorStaleWatch (holdTest (derive a (s.seen (.incl m a) v))))))
    have first := held derived
    generalize holdTest (derive a (s.seen (.incl m a) v)) = u at first tested
    obtain ⟨fc, mp, sl, -⟩ := sensorStaleWatch_fields u
    obtain ⟨time, params, counters, -, di, -⟩ := sensorStaleWatch_keeps u
    generalize sensorStaleWatch u = w at *
    have watched := first.of_same (t := w) time params (by rw [fc]) (by rw [fc]) (by rw [fc]) (by rw [fc]) di (by rw [mp]) (by rw [sl])
    have again := watched.again
    have same : (derive a w).mp.holdCauses = u.mp.holdCauses := by
      rw [again.causes, first.causes]
      unfold State.slopeless
      rw [again.slopes, first.slopes]
    have still : s.HoldTested (derive a w) :=
      tested.of_same same (by rw [counter, State.counter, counters]; rfl) (.inl (by rw [mode, mp]))
    rw [still.quiet]
    exact ⟨again, still⟩
  · exact ⟨held derived, tested⟩

/-- What the derivation of an axis gives, by the freshness of its channels (R55 to R58). -/
theorem State.derivedSlope_table (s : State) (a : Axis) :
    let old := s.fc.slopes.get a
    let new := s.derivedSlope a
    let up := s.chan (.incl .upper a)
    let low := s.chan (.incl .lower a)
    let derived := fun raw : Int => new.clamped = decide (raw < -5000 ∨ 5000 < raw) ∧
      new.slope = if raw < -5000 then -5000 else if 5000 < raw then 5000 else raw
    let apart := s.par .disagreeTolerance < |up.value - low.value|
    (up.state = .fresh → low.state = .fresh → new.case = .both ∧ derived (Int.tdiv (up.value + low.value) 2) ∧
      new.disagreeing = decide apart) ∧
    (up.state = .fresh → low.state ≠ .fresh → new.case = .single ∧ derived up.value) ∧
    (up.state ≠ .fresh → low.state = .fresh → new.case = .single ∧ derived low.value) ∧
    (up.state ≠ .fresh → low.state ≠ .fresh → new.case = .none ∧ new.slope = old.slope ∧ new.clamped = old.clamped) ∧
    (new.case ≠ .both → new.disagreeing = false) ∧
    (new.disagreeing = true → old.disagreeing = false →
      new.timer = some ⟨s.runTime, (s.par .disagreeTime * 1000).toNat⟩ ∧ new.persistent = old.persistent) ∧
    (new.disagreeing = true → old.disagreeing = true → new.timer = old.timer ∧ new.persistent = old.persistent) ∧
    (new.disagreeing = false → new.timer = none ∧ new.persistent = false) := by
  intro old new up low derived apart
  have fresh : ∀ c, s.fresh c = true ↔ (s.chan c).state = .fresh := fun c => beq_iff_eq
  have stale : ∀ c, s.fresh c = false ↔ (s.chan c).state ≠ .fresh := fun c => beq_eq_false_iff_ne
  have slopeTable : ∀ raw : Int, s.slopeCase a ≠ .none → s.rawSlope a = raw → derived raw := fun raw case is => by
    have beyond : (5000 < magnitude raw) = (raw < -5000 ∨ 5000 < raw) := propext (by rw [magnitude_eq_abs, lt_abs]; omega)
    have limit : Config.slopeLimit = 5000 := rfl
    refine ⟨?_, ?_⟩
    · show (if s.slopeCase a = .none then old.clamped else decide (Config.slopeLimit < magnitude (s.rawSlope a))) = _
      rw [if_neg case, is, limit]
      exact decide_eq_decide.2 (by rw [beyond])
    · show (if s.slopeCase a = .none then old.slope else _) = _
      rw [if_neg case, is]
      rfl
  have dis : new.disagreeing = s.disagrees a := rfl
  refine ⟨fun u l => ?_, fun u l => ?_, fun u l => ?_, fun u l => ?_, fun other => ?_, fun now was => ?_, fun now was => ?_,
    fun gone => ?_⟩
  · have case : s.slopeCase a = .both := by
      rw [State.slopeCase, (fresh _).2 u, (fresh _).2 l]
    refine ⟨case, slopeTable _ (by rw [case]; decide) (by rw [State.rawSlope, (fresh _).2 u, (fresh _).2 l]; rfl), ?_⟩
    rw [dis, State.disagrees, case, magnitude_eq_abs]
    rfl
  · have case : s.slopeCase a = .single := by
      rw [State.slopeCase, (fresh _).2 u, (stale _).2 l]
    exact ⟨case, slopeTable _ (by rw [case]; decide) (by rw [State.rawSlope, (fresh _).2 u, (stale _).2 l]; rfl)⟩
  · have case : s.slopeCase a = .single := by
      rw [State.slopeCase, (stale _).2 u, (fresh _).2 l]
    exact ⟨case, slopeTable _ (by rw [case]; decide) (by rw [State.rawSlope, (stale _).2 u, (fresh _).2 l]; rfl)⟩
  · have case : s.slopeCase a = .none := by
      rw [State.slopeCase, (stale _).2 u, (stale _).2 l]
    exact ⟨case, if_pos case, if_pos case⟩
  · have case : (s.slopeCase a == .both) = false := beq_eq_false_iff_ne.2 other
    rw [dis, State.disagrees, case, Bool.false_and]
  · have here : s.disagrees a = true := now
    refine ⟨?_, if_pos here⟩
    show (if s.disagrees a = true then (if old.disagreeing = true then old.timer else _) else _) = _
    rw [if_pos here, was]
    rfl
  · have here : s.disagrees a = true := now
    refine ⟨?_, if_pos here⟩
    show (if s.disagrees a = true then (if old.disagreeing = true then old.timer else _) else _) = _
    rw [if_pos here, if_pos was]
  · have here : ¬s.disagrees a = true := Bool.eq_false_iff.1 gone
    exact ⟨if_neg here, if_neg here⟩

end Sys2Proof.Machine

open Sys2Proof Sys2Proof.Machine in
/-- Settles O32: `arrival_derives`, with the table of the derivation. -/
theorem slopeDerived : Obligations.SlopeDerived := by
  unfold Obligations.SlopeDerived
  intro s m a v now low high
  have run : exec (.sampleArrival ((Channel.incl m a).idx.val + 1) v now) s =
      .next (finish (startTest (arrival (.incl m a) v (s.begin now)))) := by
    rw [← sample_arrival low high]
    rfl
  obtain ⟨derives, tested⟩ := arrival_derives m a v (s.begin now)
  have table := ((s.begin now).seen (.incl m a) v).derivedSlope_table a
  generalize arrival (.incl m a) v (s.begin now) = x at *
  obtain ⟨fc, mp, mode⟩ := startTest_fields x
  obtain ⟨time, params, counters, -, di, -⟩ := startTest_keeps x
  have plan := (startTest_plan x).1
  have ended := tested.of_same (t := startTest x) (by rw [mp]) (by unfold State.counter; rw [counters]) mode
  have starts := derives.of_same (t := startTest x) time params (by rw [fc]) (by rw [fc]) (by rw [fc]) (by rw [fc]) di
    (by rw [mp]) plan
  refine ⟨_, run, ?_⟩
  generalize startTest x = y at *
  obtain ⟨time, params, counters, mp, fc, di, sl, -⟩ := finish_keeps y
  have ended := ended.of_same (t := finish y) (by rw [mp]) (by unfold State.counter; rw [counters]) (.inl (by rw [mp]))
  have derives := starts.of_same (t := finish y) time params (by rw [fc]) (by rw [fc]) (by rw [fc]) (by rw [fc]) di
    (by rw [mp]) (by rw [sl])
  generalize finish y = t at *
  intro old new up lower derived apart
  have slope : new = ((s.begin now).seen (.incl m a) v).derivedSlope a := by
    show t.fc.slopes.get a = _
    rw [derives.slopes, PerAxis.get_set, if_pos rfl]
  have chan : ∀ c, t.chan c = ((s.begin now).seen (.incl m a) v).chan c := fun c => by rw [State.chan_congr derives.channels]
  dsimp only at table
  rw [← slope, ← chan, ← chan] at table
  obtain ⟨both, single, single', none, apart', begins, goes, stops⟩ := table
  have anyAxis : ∀ P : Axis → Prop, (∃ b, P b) ↔ P .x ∨ P .y := fun P =>
    ⟨fun ⟨b, hb⟩ => by cases b <;> simp [hb], fun h => h.elim (fun x => ⟨_, x⟩) fun y => ⟨_, y⟩⟩
  refine ⟨both, single, single', none, apart', begins, goes, stops, fun b other => ⟨?_, ?_⟩, ?_, ?_, ?_, ?_,
    derives.causes.trans ?_, ended, derives.track.1, derives.track.2.1, derives.track.2.2.1, derives.track.2.2.2,
    derives.plan, derives.params⟩
  · rw [derives.slopes, PerAxis.get_set, if_neg other]
    rfl
  · rw [derives.copies, PerAxis.get_set, if_neg other]
    rfl
  · rw [derives.copies, PerAxis.get_set, if_pos rfl, ← slope]
    rfl
  · rw [derives.limit, anyAxis, State.tilted, State.par, derives.params, magnitude_eq_abs, magnitude_eq_abs]
    simp
    rfl
  · rw [derives.disagree, anyAxis]
    simp
    rfl
  · rw [derives.causes, anyAxis]
    simp [State.slopeless]
    rfl
  · rw [derives.causes]
    rfl

end

section
/-! SUPPORT. The counters that the acts of DI, SL and PM count: every other counter stays (R24). -/

namespace Sys2Proof.Machine

/-- From `s` to `t` no counter but those of `l` has changed. -/
structure State.CountsOnly (l : List Nat) (s t : State) : Prop where
  others : ∀ n, 1 ≤ n → n ∉ l → t.counter n = s.counter n

namespace State.CountsOnly

variable {l : List Nat} {s t u : State}

theorem of_eq (same : t.counters = s.counters) : s.CountsOnly l t :=
  ⟨fun n _ _ => by rw [State.counter, State.counter, same]⟩

theorem refl (s : State) : s.CountsOnly l s := of_eq rfl

theorem trans (h : s.CountsOnly l t) (k : t.CountsOnly l u) : s.CountsOnly l u :=
  ⟨fun n low other => (k.others n low other).trans (h.others n low other)⟩

theorem then_eq (h : s.CountsOnly l t) (same : u.counters = t.counters) : s.CountsOnly l u := h.trans (of_eq same)

theorem count {n : Nat} (low : 1 ≤ n) (high : n ≤ 17) (mem : n ∈ l) (h : s.CountsOnly l t) : s.CountsOnly l (t.count n) :=
  h.trans ⟨fun m one other => by
    rw [t.counter_count low high m one, if_neg (by rintro rfl; exact other mem)]⟩

theorem mono {l' : List Nat} (h : s.CountsOnly l t) (sub : l ⊆ l') : s.CountsOnly l' t :=
  ⟨fun n low other => h.others n low fun mem => other (sub mem)⟩

end State.CountsOnly

/-! ### PM counts its moves in counters 15 and 16 (R145, R146) -/

theorem endDone_counts (s : State) : s.CountsOnly [15, 16] (endDone s) :=
  State.CountsOnly.count (by decide) (by decide) (by decide) (.of_eq (by simp))

theorem endFailed_counts (p : Plate) (s : State) : s.CountsOnly [15, 16] (endFailed p s) :=
  State.CountsOnly.count (by decide) (by decide) (by decide) (.of_eq (by simp))

theorem grantRounds_counts : ∀ (n : Nat) (s : State), s.CountsOnly [15, 16] (grantRounds n s)
  | 0, s => .refl s
  | n + 1, s => by
    unfold grantRounds
    split
    · exact .of_eq (by simp)
    · split
      · exact .trans (.of_eq (by simp)) (grantRounds_counts n _)
      · have started : ∀ (p : Plate) (t : Nat) (pm : Manifold), s.CountsOnly [15, 16] (startMove p t pm s) :=
          fun p t pm => .of_eq rfl
        dsimp only
        split
        · exact ((started _ _ _).trans (endFailed_counts _ _)).trans (grantRounds_counts n _)
        · split
          · exact ((started _ _ _).trans (endDone_counts _)).trans (grantRounds_counts n _)
          · exact started _ _ _

theorem grantPoint_counts (s : State) : s.CountsOnly [15, 16] (grantPoint s) := grantRounds_counts 9 s

theorem failMove_counts (p : Plate) (s : State) : s.CountsOnly [15, 16] (failMove p s) :=
  (endFailed_counts p s).trans (grantPoint_counts _)

theorem plateRequest_counts (p : Plate) (n : Nat) (c : PlateClass) (s : State) :
    s.CountsOnly [15, 16] (plateRequest p n c s) := by
  have entered : s.CountsOnly [15, 16] (requestEntry p n c s) := by
    unfold requestEntry
    split
    · exact .of_eq rfl
    · split
      · exact .of_eq rfl
      · dsimp only [makeEntry]
        split
        · refine State.CountsOnly.trans ?_ (grantPoint_counts _)
          exact .of_eq rfl
        · exact .of_eq rfl
  have retargeted : ∀ m, s.CountsOnly [15, 16] (retarget m n s) := fun m => by
    unfold retarget
    split
    · exact .refl s
    · dsimp only
      split
      · refine .trans (.trans ?_ (endDone_counts _)) (grantPoint_counts _)
        exact .of_eq rfl
      · exact .of_eq rfl
  unfold plateRequest
  split
  · exact .refl s
  · split
    · exact .refl s
    · split
      · split
        · exact retargeted _
        · exact entered
      · exact entered

theorem plateChannelLeft_counts (p : Plate) (s : State) : s.CountsOnly [15, 16] (plateChannelLeft p s) := by
  unfold plateChannelLeft
  split
  · split
    · exact failMove_counts p s
    · exact .refl s
  · exact .refl s

/-- A fold counts what each of its steps counts. -/
theorem State.CountsOnly.foldl {α : Type} {l : List Nat} {f : State → α → State}
    (step : ∀ (u : State) (a : α), u.CountsOnly l (f u a)) :
    ∀ (as : List α) (s : State), s.CountsOnly l (as.foldl f s)
  | [], s => .refl s
  | a :: as, s => (step s a).trans (foldl step as (f s a))

/-! ### DI counts the stations without a place in counter 7, SL through PM (R86, R117) -/

theorem closeStation_counts (k b : Int) (r : Bool) (s : State) : s.CountsOnly [7, 15, 16] (closeStation k b r s) := by
  unfold closeStation
  split
  · split
    · dsimp only [writeRecord]
      split
      · exact .of_eq rfl
      · exact State.CountsOnly.count (by decide) (by decide) (by decide) (.of_eq rfl)
    · exact .refl s
  · exact .refl s

theorem takeStep_counts (d : Int) (r : Bool) (s : State) : s.CountsOnly [7, 15, 16] (takeStep d r s) := by
  have down : ∀ (u : State) (b : Int), u.CountsOnly [7, 15, 16] (crossDown r u b) := fun u b => by
    have closed := closeStation_counts
    unfold crossDown
    refine .then_eq (.trans (.of_eq (integrateTo_keeps b u).2.2.1) (closed _ _ _ _)) (enterStation_keeps _ _).2.2.1
  have up : ∀ (u : State) (b : Int), u.CountsOnly [7, 15, 16] (crossUp u b) := fun u b => .of_eq (by simp)
  unfold takeStep
  dsimp only
  split
  · exact (State.CountsOnly.foldl down _ s).then_eq (integrateTo_keeps d _).2.2.1
  · exact (State.CountsOnly.foldl up _ s).then_eq (integrateTo_keeps d _).2.2.1

theorem evaluate_counts (b : Band) (s : State) : s.CountsOnly [7, 15, 16] (evaluate b s) := by
  unfold evaluate
  refine .trans ?_ (State.CountsOnly.foldl (fun u p => ?_) _ _)
  · exact .of_eq (by simp)
  unfold handPlate
  dsimp only
  split
  · exact (plateRequest_counts _ _ _ _).mono (by simp)
  · exact .refl u

theorem steerAtDepth_counts (s : State) : s.CountsOnly [7, 15, 16] (steerAtDepth s) := by
  unfold steerAtDepth
  split
  · dsimp only
    split
    · exact evaluate_counts _ s
    · exact .of_eq (by simp)
  · exact .refl s

theorem depthHandOff_counts (before : Int) (s : State) : s.CountsOnly [7, 15, 16] (depthHandOff before s) :=
  .trans (.of_eq (by simp)) (steerAtDepth_counts _)

theorem depthEvent_counts (d : Int) (r : Bool) (s : State) : s.CountsOnly [7, 15, 16] (depthEvent d r s) := by
  have emptied : s.CountsOnly [7, 15, 16] (if r = true then emptyRing s else s) := .of_eq (by split <;> simp)
  unfold depthEvent
  dsimp only
  generalize (if r = true then emptyRing s else s) = u at emptied
  refine emptied.trans ?_
  split
  · exact .of_eq (by simp)
  · split
    · exact .of_eq (by simp)
    · split
      · exact ((takeStep_counts d r u).then_eq (by simp)).trans (depthHandOff_counts _ _)
      · exact .trans (.of_eq (by simp)) (depthHandOff_counts _ _)

/-- The report of a channel counts the moves that end with it (R50, R147). -/
theorem channelReport_counts (c : Channel) (s : State) : s.CountsOnly [15, 16] (channelReport c s) := by
  unfold channelReport
  cases c with
  | incl m a => exact .of_eq (derive_keeps a s).2.2.1
  | plate p =>
    dsimp only
    split
    · exact plateChannelLeft_counts p s
    · exact .refl s
  | retDens => exact .refl s
  | _ => dsimp only; split <;> exact .of_eq (by simp)

end Sys2Proof.Machine

end

section
/-! O34: a DEPTH arrival, the test of its depth, and DI's integrated depth after it. -/

namespace Sys2Proof.Machine

/-! ### DI at an accepted depth (R67, R68) -/

theorem closeStation_anchored (k b : Int) (r : Bool) (s : State) : (closeStation k b r s).di.anchored = s.di.anchored := by
  unfold closeStation
  split
  · split
    · unfold writeRecord
      dsimp only
      split
      · rfl
      · rw [(State.count_keeps _ _).2.2.2.2.2.1]
    · rfl
  · rfl

theorem takeStep_anchored (d : Int) (r : Bool) (s : State) : (takeStep d r s).di.anchored = s.di.anchored := by
  have pieces : ∀ (b : Int) (u : State), (integrateTo b u).di.anchored = u.di.anchored := fun b u => by
    obtain ⟨path, di⟩ := integrateTo_di b u
    rw [di]
  have entered : ∀ (k : Int) (u : State), (enterStation k u).di.anchored = u.di.anchored := fun _ _ => rfl
  have down : ∀ (u : State) (b : Int), (crossDown r u b).di.anchored = u.di.anchored := fun u b => by
    unfold crossDown
    rw [entered, closeStation_anchored, pieces]
  have up : ∀ (u : State) (b : Int), (crossUp u b).di.anchored = u.di.anchored := fun u b => by
    unfold crossUp
    rw [entered, pieces]
  unfold takeStep
  dsimp only
  rw [pieces]
  split
  · exact foldl_keeps (crossDown r) (fun u => u.di.anchored) down _ _
  · exact foldl_keeps crossUp (fun u => u.di.anchored) up _ _

/-- DI after it has taken the depth `d`: copied while the panel is not OPEN, kept in START, otherwise the path anchored or
integrated to it (R67, R68). -/
structure State.DepthTaken (d : Int) (s t : State) : Prop where
  copied : s.mp.panel ≠ .opened → t.di.depth = d ∧ t.di.path = s.di.path
  kept : s.mp.panel = .opened → s.mp.mode = .start → t.di.depth = s.di.depth ∧ t.di.path = s.di.path
  tied : s.mp.panel = .opened → s.mp.mode ≠ .start → t.di.depth = d ∧ t.di.anchored = true
  anchored : s.mp.panel = .opened → s.mp.mode ≠ .start → s.di.anchored = false →
    t.di.path = s.di.path ∧ t.di.log = s.di.log ∧ t.di.closure = s.di.closure ∧
    t.di.openRecord.map OpenRecord.station = if 0 ≤ d then some (d / s.mp.interval).toNat else none

theorem depthEvent_taken (d : Int) (r : Bool) (s : State) : s.DepthTaken d (depthEvent d r s) := by
  have emptied : ∃ ring rate, (if r = true then emptyRing s else s).di = { s.di with ring := ring, feedRate := rate } := by
    split
    · exact ⟨_, _, emptyRing_di s⟩
    · exact ⟨_, _, rfl⟩
  have mp : (if r = true then emptyRing s else s).mp = s.mp := by split <;> simp
  have ringed : ∀ u : State, ∃ ring rate, (updateRing d u).di = { u.di with ring := ring, feedRate := rate } :=
    fun u => updateRing_di d u
  unfold depthEvent
  dsimp only
  generalize (if r = true then emptyRing s else s) = u at *
  obtain ⟨ring, rate, di⟩ := emptied
  by_cases opened : s.mp.panel = .opened
  · rw [if_neg (by rw [mp]; exact not_not.2 opened)]
    by_cases start : s.mp.mode = .start
    · rw [if_pos (by rw [mp]; exact start)]
      obtain ⟨ring', rate', di'⟩ := ringed u
      exact ⟨fun no => absurd opened no, fun _ _ => by rw [di', di]; exact ⟨rfl, rfl⟩, fun _ no => absurd start no,
        fun _ no => absurd start no⟩
    · rw [if_neg (by rw [mp]; exact start)]
      by_cases tied : u.di.anchored = true
      · rw [if_pos tied]
        have stepped : (depthHandOff s.di.depth (updateRing d (markRecovery r (takeStep d r u)))).di.depth = d ∧
            (depthHandOff s.di.depth (updateRing d (markRecovery r (takeStep d r u)))).di.anchored = true := by
          have depth := takeStep_depth d r u
          have stays := takeStep_anchored d r u
          generalize takeStep d r u = v at *
          obtain ⟨ring', rate', di'⟩ := ringed (markRecovery r v)
          have marked : (markRecovery r v).di.depth = v.di.depth ∧ (markRecovery r v).di.anchored = v.di.anchored := by
            unfold markRecovery
            split <;> exact ⟨rfl, rfl⟩
          rw [(depthHandOff_keeps _ _).2.2.2.2.2.1, di']
          exact ⟨marked.1.trans depth, (marked.2.trans stays).trans tied⟩
        have was : s.di.anchored = true := by
          rw [di] at tied
          exact tied
        exact ⟨fun no => absurd opened no, fun _ is => absurd is start, fun _ _ => stepped, fun _ _ no => by
          rw [was] at no
          cases no⟩
      · rw [if_neg tied]
        obtain ⟨ring', rate', di'⟩ := ringed (anchor d u)
        have place : (anchor d u).di.openRecord.map OpenRecord.station = if 0 ≤ d then some (d / s.mp.interval).toNat else none := by
          rw [← mp]
          show ((stationAt d u.mp.interval).map _).map OpenRecord.station = _
          unfold stationAt
          split <;> rfl
        have taken : (depthHandOff s.di.depth (updateRing d (anchor d u))).di = { (anchor d u).di with ring := ring', feedRate := rate' } := by
          rw [(depthHandOff_keeps _ _).2.2.2.2.2.1, di']
        generalize depthHandOff s.di.depth (updateRing d (anchor d u)) = t at *
        have anchors : (anchor d u).di.path = s.di.path ∧ (anchor d u).di.log = s.di.log ∧ (anchor d u).di.closure = s.di.closure := by
          refine ⟨?_, ?_, ?_⟩
          · exact (congrArg Integrator.path di :)
          · exact (congrArg Integrator.log di :)
          · exact (congrArg Integrator.closure di :)
        exact ⟨fun no => absurd opened no, fun _ is => absurd is start, fun _ _ => by rw [taken]; exact ⟨rfl, rfl⟩, fun _ _ _ => by
          rw [taken]
          exact ⟨anchors.1, anchors.2.1, anchors.2.2, place⟩⟩
  · rw [if_pos (by rw [mp]; exact opened)]
    obtain ⟨ring', rate', di'⟩ := ringed { u with di := { u.di with depth := d } }
    exact ⟨fun _ => by
      rw [(reportDepth_keeps _ _).2.2.2.2.2.2.1, di', di]
      exact ⟨rfl, rfl⟩, fun is => absurd is opened, fun is => absurd is opened, fun is => absurd is opened⟩

/-! ### The channel's arrival (R48, R50) -/

/-- `w` is `s` once its DEPTH channel has taken a value and a change of its state has been told: what the depth test
reads of FC, DI and MP (R33, R34, R48). -/
structure State.DepthSeen (s w : State) : Prop where
  fc : w.fc = { s.fc with channels := w.fc.channels, sensorStale := w.fc.sensorStale }
  di : w.di = s.di
  params : w.params = s.params
  counters : s.CountsOnly [17] w
  mp : w.mp = { s.mp with mode := w.mp.mode, holdCauses := w.mp.holdCauses }
  start : w.mp.mode = .start ↔ s.mp.mode = .start
  depth : (w.chan .depth).state = if (s.chan .depth).state = .stale then .stale else .fresh
  first : (s.chan .depth).state = .absent → w.mp.holdCauses = { s.mp.holdCauses with depth := false } ∧ s.HoldTested w
  later : (s.chan .depth).state ≠ .absent → w.mp.holdCauses = s.mp.holdCauses ∧ w.mp.mode = s.mp.mode ∧
    w.counter 17 = s.counter 17

theorem holdTest_counts (s : State) : s.CountsOnly [17] (holdTest s) := by
  have counted : s.CountsOnly [17] s.holdCounted := by
    unfold State.holdCounted
    split
    · exact State.CountsOnly.count (by decide) (by decide) (by decide) (.refl s)
    · exact .refl s
  exact counted.then_eq (holdTest_counters s)

theorem State.testedMode_start (s : State) : s.testedMode = .start ↔ s.mp.mode = .start := by
  unfold State.testedMode
  cases s.mp.mode <;> cases s.mp.holdCauses.present <;> simp

/-- The report of a FRESH DEPTH channel ends the DEPTH cause, and nothing else (R33, R50). -/
theorem channelReport_depth_fresh {s : State} (fresh : s.fresh .depth = true) :
    channelReport .depth s = setDepthCause false s := by
  unfold channelReport
  rw [fresh]
  rfl

theorem arrival_depthSeen (raw : Int) (s : State) : ∃ w, s.DepthSeen w ∧ arrival .depth raw s = depthArrival raw w := by
  have state : ((s.seen .depth raw).chan .depth).state = if (s.chan .depth).state = .stale then .stale else .fresh := by
    rw [State.seen_state]
    cases (s.chan .depth).state <;> simp
  rw [arrival_seen]
  by_cases absent : (s.chan .depth).state = .absent
  · rw [if_pos absent, channelReport_depth_fresh (by simp [State.seen_fresh, absent])]
    refine ⟨_, ?_, rfl⟩
    have tested : s.HoldTested (holdTest (setDepthCause false (s.seen .depth raw))) := holdTest_tested rfl rfl
    have counts := holdTest_counts (setDepthCause false (s.seen .depth raw))
    have mp := holdTest_mp (setDepthCause false (s.seen .depth raw))
    have start := (setDepthCause false (s.seen .depth raw)).testedMode_start
    obtain ⟨-, params, -, fc, di, -⟩ := holdTest_keeps (setDepthCause false (s.seen .depth raw))
    generalize holdTest (setDepthCause false (s.seen .depth raw)) = u at *
    obtain ⟨fc', mp', -⟩ := sensorStaleWatch_fields u
    obtain ⟨-, params', counters', -, di', -⟩ := sensorStaleWatch_keeps u
    generalize sensorStaleWatch u = w at *
    have causes : w.mp.holdCauses = { s.mp.holdCauses with depth := false } := by
      rw [mp', mp]
      rfl
    refine ⟨?_, di'.trans di, params'.trans params, ?_, ?_, ?_, ?_, fun _ => ⟨causes, ?_⟩, fun no => absurd absent no⟩
    · rw [fc', fc]
      rfl
    · exact ⟨fun n low other => (State.CountsOnly.then_eq counts counters').others n low other⟩
    · rw [mp', mp]
      rfl
    · rw [mp', mp]
      exact start
    · rw [State.chan_congr (s := s.seen .depth raw) (by rw [fc', fc]; rfl)]
      exact state
    · exact tested.of_same (by rw [mp']) (by unfold State.counter; rw [counters']) (.inl (by rw [mp']))
  · rw [if_neg absent]
    exact ⟨s.seen .depth raw, ⟨rfl, rfl, rfl, .of_eq rfl, rfl, Iff.rfl, state, fun is => absurd is absent, fun _ => ⟨rfl, rfl, rfl⟩⟩, rfl⟩

/-! ### A rejected depth (R63) -/

/-- MP after the DEPTH cause has become present: AUTO gives way to HOLD (R33, R34). -/
structure State.DepthLost (w x : State) : Prop where
  causes : x.mp.holdCauses = { w.mp.holdCauses with depth := true }
  auto : w.mp.mode = .auto → x.mp.mode = .hold ∧ x.counter 17 = min (w.counter 17 + 1) 65535
  other : w.mp.mode ≠ .auto → x.mp.mode = w.mp.mode ∧ x.counter 17 = w.counter 17
  stale : x.fc.sensorStale = x.sensorStaleNow

/-- `x` is `w` with the DEPTH sample rejected (R63, R64). -/
structure State.Rejected (w x : State) : Prop where
  fc : x.fc = { w.fc with
    channels := x.fc.channels, sensorStale := x.fc.sensorStale, rejections := x.fc.rejections, recovery := x.fc.recovery }
  counted : x.counter 5 = min (w.counter 5 + 1) 65535
  track : x.di.path = w.di.path ∧ x.di.depth = w.di.depth ∧ x.di.log = w.di.log
  few : w.fc.rejections < 4 → x.fc.rejections = w.fc.rejections + 1 ∧ x.fc.recovery = w.fc.recovery
  forced : 4 ≤ w.fc.rejections → x.fc.rejections = 0 ∧ x.fc.recovery = true ∧ (x.chan .depth).state = .stale ∧
    (x.chan .depth).good = 0 ∧ (x.chan .depth).unjudged = true
  lost : 4 ≤ w.fc.rejections → (w.chan .depth).state = .fresh → w.DepthLost x
  still : (4 ≤ w.fc.rejections → (w.chan .depth).state ≠ .fresh) → x.mp = w.mp ∧ x.counter 17 = w.counter 17

theorem State.sensorStaleNow_congr {s t : State} (channels : t.fc.channels = s.fc.channels)
    (began : t.fc.startOver = s.fc.startOver) : t.sensorStaleNow = s.sensorStaleNow := by
  rw [Bool.eq_iff_iff, State.sensorStaleNow_iff, State.sensorStaleNow_iff, State.chan_congr channels, began]

theorem sensorStaleWatch_stands (s : State) : (sensorStaleWatch s).fc.sensorStale = (sensorStaleWatch s).sensorStaleNow := by
  obtain ⟨fc, -⟩ := sensorStaleWatch_fields s
  rw [State.sensorStaleNow_congr (s := s) (by rw [fc]) (by rw [fc]), fc]

/-- The DEPTH channel forced STALE (R63, R64). -/
def State.depthForced (s : State) : State :=
  let s := s.setChan .depth { s.chan .depth with state := .stale, good := 0, unjudged := true }
  { s with fc := { s.fc with recovery := true, rejections := 0 } }

theorem forceStale_eq (s : State) : forceStale s = if (s.chan .depth).state = .fresh
    then sensorStaleWatch (holdTest (channelReport .depth s.depthForced)) else s.depthForced := rfl

/-- The report of a DEPTH channel that has left FRESH (R33, R50, R84). -/
theorem channelReport_depth_left {s : State} (left : s.fresh .depth = false) :
    channelReport .depth s = markEstimated (setDepthCause true s) := by
  unfold channelReport
  rw [left]
  rfl

theorem State.depthForced_entry (s : State) : s.depthForced.chan .depth =
    { s.chan .depth with state := .stale, good := 0, unjudged := true } := s.chan_setChan_same _ _

/-- The loss of a FRESH DEPTH channel, told to MP and DI (R33, R34, R50, R51). -/
theorem depthForced_lost (v : State) (left : v.fresh .depth = false) :
    let x := sensorStaleWatch (holdTest (channelReport .depth v))
    v.DepthLost x ∧ v.CountsOnly [17] x ∧ x.fc = { v.fc with sensorStale := x.fc.sensorStale } ∧ x.di.path = v.di.path ∧
      x.di.depth = v.di.depth ∧ x.di.log = v.di.log := by
  rw [channelReport_depth_left left]
  have told : (markEstimated (setDepthCause true v)).mp = { v.mp with holdCauses := { v.mp.holdCauses with depth := true } } := by
    simp
  have fc : (markEstimated (setDepthCause true v)).fc = v.fc := by simp
  have counters : (markEstimated (setDepthCause true v)).counters = v.counters := by simp
  have di : (markEstimated (setDepthCause true v)).di.path = v.di.path ∧ (markEstimated (setDepthCause true v)).di.depth = v.di.depth ∧
      (markEstimated (setDepthCause true v)).di.log = v.di.log := ⟨rfl, rfl, rfl⟩
  generalize markEstimated (setDepthCause true v) = y at *
  have tested : v.HoldTested (holdTest y) := holdTest_tested (by rw [told]) (by unfold State.counter; rw [counters])
  have counts : v.CountsOnly [17] (holdTest y) := .trans (.of_eq counters) (holdTest_counts y)
  have mp := holdTest_mp y
  obtain ⟨-, -, -, fc', di', -⟩ := holdTest_keeps y
  have causes : (holdTest y).mp.holdCauses = { v.mp.holdCauses with depth := true } := by rw [mp, told]
  generalize holdTest y = u at *
  obtain ⟨fc'', mp'', -⟩ := sensorStaleWatch_fields u
  obtain ⟨-, -, counters'', -, di'', -⟩ := sensorStaleWatch_keeps u
  have stands := sensorStaleWatch_stands u
  generalize sensorStaleWatch u = x at *
  have causesX : x.mp.holdCauses = { v.mp.holdCauses with depth := true } := by rw [mp'', causes]
  obtain ⟨holds, -, stays⟩ := tested.of_same (t := x) (by rw [mp'']) (by unfold State.counter; rw [counters'']) (.inl (by rw [mp'']))
  have held : x.mp.holdCauses ≠ ⟨false, false, false⟩ := by
    rw [causesX]
    intro no
    injection no with _ depth
    cases depth
  have mode : x.mp.mode = y.testedMode := by rw [mp'', mp]
  refine ⟨⟨causesX, fun auto => holds auto held, fun other => ?_, stands⟩, counts.then_eq counters'', ?_, ?_⟩
  · obtain ⟨counter, -⟩ := stays (fun k => other k.1) fun k => held k.2
    have present : y.mp.holdCauses.present = true := by
      rw [told]
      simp [HoldCauses.present]
    refine ⟨?_, counter⟩
    rw [mode]
    have same : y.mp.mode = v.mp.mode := by rw [told]
    rw [← same] at other ⊢
    unfold State.testedMode
    rw [present]
    cases was : y.mp.mode <;> simp [was] at other ⊢
  · rw [fc'', fc', fc]
  · rw [di'', di']
    exact di

theorem forceStale_rejected {w : State} (fifth : 4 ≤ w.fc.rejections) : w.Rejected (forceStale (w.count 5)) := by
  have counted := w.counter_count (n := 5) (by decide) (by decide)
  obtain ⟨c, shape⟩ := w.count_shape 5
  rw [shape] at counted ⊢
  generalize started : ({ w with counters := c } : State) = u at *
  have entry := u.depthForced_entry
  have fields : u.depthForced.fc = { w.fc with channels := u.depthForced.fc.channels, recovery := true, rejections := 0 } ∧
      u.depthForced.mp = w.mp ∧ u.depthForced.di = w.di ∧ u.depthForced.counters = u.counters ∧ u.chan = w.chan := by
    rw [← started]
    exact ⟨rfl, rfl, rfl, rfl, rfl⟩
  obtain ⟨fc, mp, di, counters, chan⟩ := fields
  rw [forceStale_eq, chan]
  have five := counted 5 (by decide)
  have seventeen := counted 17 (by decide)
  rw [if_pos rfl] at five
  rw [if_neg (by decide)] at seventeen
  generalize u.depthForced = v at *
  have counter : ∀ n, v.counter n = u.counter n := fun n => by rw [State.counter, State.counter, counters]
  by_cases fresh : (w.chan .depth).state = .fresh
  · rw [if_pos fresh]
    have left : v.fresh .depth = false := by
      unfold State.fresh
      rw [entry]
      rfl
    obtain ⟨⟨causes, auto, other, stands⟩, counts, fc', path, depth, log⟩ := depthForced_lost v left
    generalize sensorStaleWatch (holdTest (channelReport .depth v)) = x at *
    have here : x.chan .depth = v.chan .depth := by rw [State.chan_congr (s := v) (by rw [fc'])]
    refine ⟨by rw [fc', fc], ?_, ⟨?_, ?_, ?_⟩, fun no => by omega, fun _ => ?_, fun _ _ => ⟨?_, ?_, ?_, stands⟩,
      fun no => absurd fresh (no fifth)⟩
    · rw [counts.others 5 (by decide) (by decide), counter, five]
    · rw [path, di]
    · rw [depth, di]
    · rw [log, di]
    · rw [here, entry, fc', fc]
      exact ⟨rfl, rfl, rfl, rfl, rfl⟩
    · rw [causes, mp]
    · rw [mp, counter, seventeen] at auto
      exact auto
    · rw [mp, counter, seventeen] at other
      exact other
  · rw [if_neg fresh]
    refine ⟨?_, by rw [counter, five], ⟨?_, ?_, ?_⟩, fun no => by omega, fun _ => ?_, fun _ is => absurd is fresh,
      fun _ => ⟨mp, by rw [counter, seventeen]⟩⟩
    · rw [fc]
    · rw [di]
    · rw [di]
    · rw [di]
    · rw [entry, fc]
      exact ⟨rfl, rfl, rfl, rfl, rfl⟩

theorem rejectDepth_rejected (w : State) : w.Rejected (rejectDepth w) := by
  have limit : Config.rejectionLimit = 5 := rfl
  have same : (w.count 5).fc.rejections = w.fc.rejections := by rw [(w.count_keeps 5).2.2.2.2.1]
  unfold rejectDepth
  dsimp only
  rw [same, limit]
  split
  · rename_i few
    have counted := w.counter_count (n := 5) (by decide) (by decide)
    obtain ⟨c, shape⟩ := w.count_shape 5
    rw [shape] at counted ⊢
    refine ⟨rfl, (counted 5 (by decide)).trans (if_pos rfl), ⟨rfl, rfl, rfl⟩, fun _ => ⟨rfl, rfl⟩, fun no => by omega,
      fun no => by omega, fun _ => ⟨rfl, (counted 17 (by decide)).trans (if_neg (by decide))⟩⟩
  · exact forceStale_rejected (by omega)

/-! ### The test of the depth (R61, R62) -/

/-- `x` is `w` with the depth accepted (R62). -/
structure State.Accepted (d raw : Int) (w x : State) : Prop where
  fc : x.fc = { w.fc with lastAccepted := some d, lastRaw := some raw, rejections := 0, recovery := false, accepted := true }
  mp : x.mp = w.mp
  counters : w.CountsOnly [7, 15, 16] x
  taken : w.DepthTaken d x

theorem acceptDepth_accepted (d raw : Int) (r : Bool) (w : State) : w.Accepted d raw (acceptDepth d raw r w) := by
  have started : ∃ u, acceptDepth d raw r w = depthEvent d r u ∧ u.fc = { w.fc with
      lastAccepted := some d, lastRaw := some raw, rejections := 0, recovery := false, accepted := true } ∧ u.mp = w.mp ∧
      u.di = w.di ∧ u.counters = w.counters := ⟨_, rfl, rfl, rfl, rfl, rfl⟩
  obtain ⟨u, is, fc, mp, di, counters⟩ := started
  have taken := depthEvent_taken d r u
  have counts := depthEvent_counts d r u
  obtain ⟨-, -, -, mp', fc', -⟩ := depthEvent_keeps d r u
  rw [is]
  refine ⟨by rw [fc', fc], by rw [mp', mp], .trans (.of_eq counters) counts, ?_⟩
  obtain ⟨copied, kept, tied, anchored⟩ := taken
  rw [mp] at tied
  rw [mp, di] at copied kept anchored
  exact ⟨copied, kept, tied, anchored⟩

/-- A depth is rejected, held or accepted (R61 to R64). -/
theorem depthArrival_cases (raw : Int) (w : State) :
    let d := raw + w.fc.reference
    let outside := d < -5000 ∨ 300000 < d
    let far := ∃ last, w.fc.lastAccepted = some last ∧ w.par .depthMaxStep < |d - last|
    let recovering := w.fc.recovery = true ∧ w.fc.lastAccepted ≠ none
    (outside ∨ ¬recovering ∧ far → w.Rejected (depthArrival raw w)) ∧
    (¬outside → recovering → (w.chan .depth).state ≠ .fresh → depthArrival raw w = w) ∧
    (¬outside → (recovering → (w.chan .depth).state = .fresh) → (¬recovering → ¬far) → w.Accepted d raw (depthArrival raw w)) := by
  intro d outside far recovering
  have beyond : (d < Config.depthMin ∨ Config.depthMax < d) ↔ outside := Iff.rfl
  unfold depthArrival
  dsimp only
  by_cases out : outside
  · rw [if_pos (beyond.2 out)]
    exact ⟨fun _ => rejectDepth_rejected w, fun no => absurd out no, fun no => absurd out no⟩
  · rw [if_neg fun k => out (beyond.1 k)]
    cases last : w.fc.lastAccepted with
    | none =>
      refine ⟨fun h => ?_, fun _ h => absurd last h.2, fun _ _ _ => acceptDepth_accepted _ _ _ w⟩
      obtain ⟨l, accepted, -⟩ := (h.resolve_left out).2
      rw [last] at accepted
      cases accepted
    | some l =>
      dsimp only
      have recovers : recovering ↔ w.fc.recovery = true := ⟨And.left, fun h => ⟨h, by rw [last]; simp⟩⟩
      have step : far ↔ w.par .depthMaxStep < magnitude (d - l) := by
        rw [magnitude_eq_abs]
        exact ⟨fun ⟨k, accepted, h⟩ => by
          rw [last] at accepted
          injection accepted with same
          rw [same]
          exact h, fun h => ⟨l, last, h⟩⟩
      have fresh : w.fresh .depth = true ↔ (w.chan .depth).state = .fresh := beq_iff_eq
      rw [recovers, step]
      by_cases recovery : w.fc.recovery = true
      · rw [if_pos recovery]
        refine ⟨fun h => absurd recovery (h.resolve_left out).1, fun _ _ stale => if_neg fun k => stale (fresh.1 k), fun _ h _ => ?_⟩
        rw [if_pos (fresh.2 (h recovery))]
        exact acceptDepth_accepted _ _ _ w
      · rw [if_neg recovery]
        refine ⟨fun h => ?_, fun _ h => absurd h recovery, fun _ _ h => ?_⟩
        · rw [if_pos (h.resolve_left out).2]
          exact rejectDepth_rejected w
        · rw [if_neg (h recovery)]
          exact acceptDepth_accepted _ _ _ w

/-! ### The end of the event -/

/-- `t` is `x` once the test of START's end and the end of the event have gone over it (R29, R51). -/
structure State.Finishes (x t : State) : Prop where
  fc : t.fc = { x.fc with startOver := t.fc.startOver, sensorStale := t.fc.sensorStale }
  causes : t.mp.holdCauses = x.mp.holdCauses
  mode : t.mp.mode = x.mp.mode ∨ x.mp.mode = .start ∧ t.mp.mode = .standby
  counters : t.counters = x.counters
  di : t.di = x.di
  stale : x.fc.sensorStale = x.sensorStaleNow → t.fc.sensorStale = t.sensorStaleNow

theorem finish_startTest (x : State) : x.Finishes (finish (startTest x)) := by
  obtain ⟨fc, mp, mode⟩ := startTest_fields x
  obtain ⟨-, -, counters, -, di, -⟩ := startTest_keeps x
  have stale : x.fc.sensorStale = x.sensorStaleNow → (startTest x).fc.sensorStale = (startTest x).sensorStaleNow := fun h => by
    unfold startTest
    split
    · exact sensorStaleWatch_stands _
    · exact h
  generalize startTest x = y at *
  obtain ⟨-, -, counters', mp', fc', di', -⟩ := finish_keeps y
  refine ⟨by rw [fc', fc], by rw [mp', mp], by rw [mp']; exact mode, counters'.trans counters, di'.trans di, fun h => ?_⟩
  rw [State.sensorStaleNow_congr (s := y) (by rw [fc']) (by rw [fc']), fc']
  exact stale h

/-- The DEPTH cause, the mode and counter 17 over the whole event (R33, R34): `x` follows `w` in the test of the depth. -/
theorem depthArrival_modes {s w x t : State} {fifth : Prop} (seen : s.DepthSeen w) (ends : x.Finishes t)
    (lost : fifth → (w.chan .depth).state = .fresh → w.DepthLost x)
    (still : (fifth → (w.chan .depth).state ≠ .fresh) → x.mp = w.mp ∧ x.counter 17 = w.counter 17) :
    let was := (s.chan .depth).state
    let causes := s.mp.holdCauses
    let modeStays := t.mp.mode = s.mp.mode ∨ s.mp.mode = .start ∧ t.mp.mode = .standby
    (fifth → was ≠ .stale → t.mp.holdCauses = { causes with depth := true } ∧
      (s.mp.mode = .auto → t.mp.mode = .hold ∧ t.counter 17 = min (s.counter 17 + 1) 65535) ∧
      (s.mp.mode = .hold → t.mp.mode = .hold ∧ t.counter 17 =
        if was = .absent ∧ causes.link = false ∧ causes.slope = false then min (s.counter 17 + 1) 65535
        else s.counter 17) ∧
      (s.mp.mode ≠ .auto → s.mp.mode ≠ .hold → modeStays ∧ t.counter 17 = s.counter 17)) ∧
    (¬fifth → was = .absent → t.mp.holdCauses = { causes with depth := false } ∧ s.HoldTested t) ∧
    ((fifth → was = .stale) → was ≠ .absent → t.mp.holdCauses = causes ∧ modeStays ∧ t.counter 17 = s.counter 17) := by
  intro was causes modeStays
  have counter : t.counter 17 = x.counter 17 := by unfold State.counter; rw [ends.counters]
  have fresh : (w.chan .depth).state = .fresh ↔ was ≠ .stale := by
    rw [seen.depth]
    by_cases h : (s.chan .depth).state = .stale <;> simp [was, h]
  refine ⟨fun isFifth other => ?_, fun no absent => ?_, fun only present => ?_⟩
  · obtain ⟨lostCauses, auto, others, -⟩ := lost isFifth (fresh.2 other)
    have holds : x.mp.mode = .hold → t.mp.mode = .hold := fun hold => by
      rcases ends.mode with same | ⟨start, -⟩
      · exact same.trans hold
      · rw [hold] at start
        cases start
    have kept : s.mp.mode ≠ .auto → w.mp.mode = s.mp.mode → w.counter 17 = s.counter 17 → modeStays ∧ t.counter 17 = s.counter 17 :=
      fun notAuto mode same => by
        obtain ⟨stays, counted⟩ := others (by rw [mode]; exact notAuto)
        have modes := ends.mode
        rw [stays, mode] at modes
        exact ⟨modes, counter.trans (counted.trans same)⟩
    have given : (w.mp.mode = .auto → t.mp.mode = .hold ∧ t.counter 17 = min (w.counter 17 + 1) 65535) ∧
        (w.mp.mode = .hold → t.mp.mode = .hold ∧ t.counter 17 = w.counter 17) := by
      refine ⟨fun is => ?_, fun is => ?_⟩
      · obtain ⟨hold, counted⟩ := auto is
        exact ⟨holds hold, counter.trans counted⟩
      · obtain ⟨stays, counted⟩ := others (by rw [is]; decide)
        exact ⟨holds (stays.trans is), counter.trans counted⟩
    by_cases absent : was = .absent
    · obtain ⟨first, tested⟩ := seen.first absent
      obtain ⟨gives, resumes, stays⟩ := tested
      have free : w.mp.holdCauses = ⟨false, false, false⟩ ↔ causes.link = false ∧ causes.slope = false := by
        rw [first, HoldCauses.mk.injEq]
        simp [causes]
      refine ⟨by rw [ends.causes, lostCauses, first], fun isAuto => ?_, fun isHold => ?_, fun notAuto notHold => ?_⟩
      · by_cases none : w.mp.holdCauses = ⟨false, false, false⟩
        · obtain ⟨same, mode | starts⟩ := stays (fun k => k.2 none) fun k => by rw [isAuto] at k; cases k.1
          · obtain ⟨hold, counted⟩ := given.1 (mode.trans isAuto)
            exact ⟨hold, by rw [counted, same]⟩
          · rw [isAuto] at starts
            cases starts.1
        · obtain ⟨hold, counted⟩ := gives isAuto none
          obtain ⟨stays, same⟩ := given.2 hold
          exact ⟨stays, same.trans counted⟩
      · by_cases none : w.mp.holdCauses = ⟨false, false, false⟩
        · obtain ⟨resumed, same⟩ := resumes isHold none
          obtain ⟨hold, counted⟩ := given.1 resumed
          rw [if_pos ⟨absent, free.1 none⟩]
          exact ⟨hold, by rw [counted, same]⟩
        · obtain ⟨same, mode | starts⟩ := stays (fun k => by rw [isHold] at k; cases k.1) fun k => none k.2
          · obtain ⟨hold, counted⟩ := given.2 (mode.trans isHold)
            rw [if_neg fun k => none (free.2 k.2)]
            exact ⟨hold, counted.trans same⟩
          · rw [isHold] at starts
            cases starts.1
      · obtain ⟨same, mode | ⟨starts, standby⟩⟩ := stays (fun k => notAuto k.1) fun k => notHold k.1
        · exact kept notAuto mode same
        · rw [seen.start.2 starts] at standby
          cases standby
    · obtain ⟨causes', mode, same⟩ := seen.later absent
      rw [mode, same] at given
      refine ⟨by rw [ends.causes, lostCauses, causes'], given.1, fun isHold => ?_, fun notAuto _ => kept notAuto mode same⟩
      rw [if_neg fun k => absent k.1]
      exact given.2 isHold
  · obtain ⟨mp, same⟩ := still fun h => absurd h no
    obtain ⟨first, tested⟩ := seen.first absent
    exact ⟨by rw [ends.causes, mp, first], tested.of_same (by rw [ends.causes, mp]) (counter.trans same) (by rw [← mp]; exact ends.mode)⟩
  · obtain ⟨mp, same⟩ := still fun h is => fresh.1 is (only h)
    obtain ⟨causes', mode', counter'⟩ := seen.later present
    refine ⟨by rw [ends.causes, mp, causes'], ?_, by rw [counter, same, counter']⟩
    have modes := ends.mode
    rw [mp, mode'] at modes
    exact modes

end Sys2Proof.Machine

open Sys2Proof Sys2Proof.Machine in
/-- Settles O34: the arrival (`arrival_depthSeen`), the test of the depth (`depthArrival_cases`), the end of the event. -/
theorem depthAccepted : Obligations.DepthAccepted := by
  unfold Obligations.DepthAccepted
  intro s raw now low high candidate outside far recovering was causes fifth
  have run : exec (.sampleArrival 6 raw now) s = .next (finish (startTest (arrival .depth raw (s.begin now)))) := by
    rw [← sample_arrival (c := .depth) low high]
    rfl
  obtain ⟨w, seen, arrives⟩ := arrival_depthSeen raw (s.begin now)
  rw [arrives] at run
  have ends := finish_startTest (depthArrival raw w)
  refine ⟨_, run, ?_⟩
  have reference : w.fc.reference = s.fc.reference := (congrArg FieldChannels.reference seen.fc :)
  have last : w.fc.lastAccepted = s.fc.lastAccepted := (congrArg FieldChannels.lastAccepted seen.fc :)
  have lastRaw : w.fc.lastRaw = s.fc.lastRaw := (congrArg FieldChannels.lastRaw seen.fc :)
  have rejections : w.fc.rejections = s.fc.rejections := (congrArg FieldChannels.rejections seen.fc :)
  have recovery : w.fc.recovery = s.fc.recovery := (congrArg FieldChannels.recovery seen.fc :)
  have accepted : w.fc.accepted = s.fc.accepted := (congrArg FieldChannels.accepted seen.fc :)
  have par : ∀ p, w.par p = s.par p := fun p => by
    rw [State.par, seen.params]
    rfl
  have five : w.counter 5 = s.counter 5 := seen.counters.others 5 (by decide) (by decide)
  have di : w.di = s.di := seen.di
  have stale : (w.chan .depth).state ≠ .fresh ↔ was = .stale := by
    rw [seen.depth]
    show (if was = .stale then _ else _) ≠ _ ↔ _
    by_cases h : was = .stale <;> simp [h]
  obtain ⟨rejects, holds, accepts⟩ := depthArrival_cases raw w
  rw [reference, last, recovery, par] at rejects accepts
  rw [reference, last, recovery] at holds
  rw [stale] at holds
  have notStale : (w.chan .depth).state = .fresh ↔ was ≠ .stale := by
    rw [← not_iff_not, not_not]
    exact stale
  rw [notStale] at accepts
  generalize depthArrival raw w = x at *
  generalize finish (startTest x) = t at *
  have counter : ∀ n, t.counter n = x.counter n := fun n => by rw [State.counter, State.counter, ends.counters]
  obtain ⟨referenceT, lastT, lastRawT, rejectionsT, recoveryT, acceptedT⟩ : t.fc.reference = x.fc.reference ∧
      t.fc.lastAccepted = x.fc.lastAccepted ∧ t.fc.lastRaw = x.fc.lastRaw ∧ t.fc.rejections = x.fc.rejections ∧
      t.fc.recovery = x.fc.recovery ∧ t.fc.accepted = x.fc.accepted := by
    rw [ends.fc]
    exact ⟨rfl, rfl, rfl, rfl, rfl, rfl⟩
  have chan : t.chan = x.chan := State.chan_congr (by rw [ends.fc])
  have kinds : (outside ∨ ¬recovering ∧ far) ∧ w.Rejected x ∨ ¬(outside ∨ ¬recovering ∧ far) ∧ recovering ∧ was = .stale ∧ x = w ∨
      ¬(outside ∨ ¬recovering ∧ far) ∧ ¬(recovering ∧ was = .stale) ∧ w.Accepted candidate raw x := by
    by_cases rejected : outside ∨ ¬recovering ∧ far
    · exact .inl ⟨rejected, rejects rejected⟩
    · by_cases held : recovering ∧ was = .stale
      · exact .inr (.inl ⟨rejected, held.1, held.2, holds (fun k => rejected (.inl k)) held.1 held.2⟩)
      · exact .inr (.inr ⟨rejected, held, accepts (fun k => rejected (.inl k)) (fun r is => held ⟨r, is⟩)
          fun r is => rejected (.inr ⟨r, is⟩)⟩)
  have modes := depthArrival_modes (fifth := fifth) seen ends
    (fun is fresh => (rejects is.1).lost (by rw [rejections]; exact is.2) fresh) fun other => by
      rcases kinds with ⟨rejected, h⟩ | ⟨-, -, -, same⟩ | ⟨-, -, h⟩
      · exact h.still fun ge => other ⟨rejected, by rw [rejections] at ge; exact ge⟩
      · rw [same]
        exact ⟨rfl, rfl⟩
      · exact ⟨h.mp, h.counters.others 17 (by decide) (by decide)⟩
  have referenceX : x.fc.reference = s.fc.reference := by
    rw [← reference]
    rcases kinds with ⟨-, h⟩ | ⟨-, -, -, same⟩ | ⟨-, -, h⟩
    · exact (congrArg FieldChannels.reference h.fc :)
    · rw [same]
    · exact (congrArg FieldChannels.reference h.fc :)
  refine ⟨referenceT.trans referenceX, modes, fun rejected => ?_, fun inside recovers held => ?_,
    fun inside unheld near => ?_⟩
  · obtain ⟨fc, counted, ⟨path, depth, log⟩, few, forced, lost, -⟩ := rejects rejected
    rw [rejections] at few forced lost
    refine ⟨lastT.trans ((congrArg FieldChannels.lastAccepted fc :).trans last),
      lastRawT.trans ((congrArg FieldChannels.lastRaw fc :).trans lastRaw),
      acceptedT.trans ((congrArg FieldChannels.accepted fc :).trans accepted),
      by rw [counter, counted, five], by rw [ends.di, path, di], by rw [ends.di, depth, di], by rw [ends.di, log, di],
      fun small => ?_, fun big => ?_⟩
    · rw [rejectionsT, recoveryT, ← recovery]
      exact few small
    · obtain ⟨zero, recovers, entry⟩ := forced big
      rw [rejectionsT, recoveryT, chan]
      exact ⟨zero, recovers, entry.1, entry.2.1, entry.2.2, fun other => ends.stale (lost big (notStale.2 other)).stale⟩
  · have same := holds inside recovers held
    rw [same] at lastT lastRawT rejectionsT acceptedT recoveryT counter ends
    exact ⟨lastT.trans last,
      lastRawT.trans lastRaw,
      rejectionsT.trans rejections,
      acceptedT.trans accepted,
      recoveryT.trans (recovery.trans recovers.1), (counter 5).trans five, ends.di.trans di⟩
  · obtain ⟨fc, -, counts, copied, kept, tied, anchored⟩ := accepts inside unheld near
    have panel : w.mp.panel = s.mp.panel := (congrArg ModePanel.panel seen.mp :)
    have interval : w.mp.interval = s.mp.interval := (congrArg ModePanel.interval seen.mp :)
    have start : w.mp.mode = .start ↔ s.mp.mode = .start := seen.start
    rw [panel, di, ← ends.di] at copied
    rw [panel, start, di, ← ends.di] at kept
    rw [panel, ne_eq, start, ← ends.di] at tied
    rw [panel, ne_eq, start, di, interval, ← ends.di] at anchored
    exact ⟨lastT.trans (congrArg FieldChannels.lastAccepted fc :),
      lastRawT.trans (congrArg FieldChannels.lastRaw fc :),
      rejectionsT.trans (congrArg FieldChannels.rejections fc :),
      recoveryT.trans (congrArg FieldChannels.recovery fc :),
      acceptedT.trans (congrArg FieldChannels.accepted fc :),
      ((counter 5).trans (counts.others 5 (by decide) (by decide))).trans five, kept, copied, tied, anchored⟩

end

section
/-! O21: a restart is power-on with the table of R45 laid over it. The inputs report as at power-on, because in START
nothing of the module but TU, the arbiter and the pump state takes notice of them. -/

namespace Sys2Proof.Machine

/-- The state with the counters and what R45 keeps taken from another. -/
def State.recalling (s x : State) : State :=
  { s with
    counters := x.counters
    mp := { s.mp with
      panel := x.mp.panel, panelNumber := x.mp.panelNumber, cutArea := x.mp.cutArea, interval := x.mp.interval }
    di := x.di
    fc := { s.fc with reference := x.fc.reference, lastAccepted := x.fc.lastAccepted, lastRaw := x.fc.lastRaw }
    sr := { s.sr with cutter := x.sr.cutter } }

/-- The state of power-on before the inputs report. -/
def State.poweredOn (e g o : Level) (s : State) : State := { State.initial e g o with pending := s.pending }

theorem State.reborn_recalling (k : Bool) (s : State) : s.reborn k =
    (s.poweredOn s.fc.emergencyIn.raw s.fc.gearPressLow.raw s.fc.oilHot.raw).recalling (s.reborn k) := by
  unfold State.reborn
  obtain ⟨c, shape⟩ := restartState_shape s
  rw [shape]
  cases k
  · rfl
  · rw [if_pos rfl]
    unfold reopenStation
    split <;> rfl

theorem recomputePump_recalling (s x : State) : recomputePump (s.recalling x) = (recomputePump s).recalling x := by
  unfold recomputePump
  have same : (s.recalling x).sr.pumpState = s.sr.pumpState := rfl
  rw [same]
  cases s.sr.pumpState <;> rfl

theorem refreshPump_recalling (s x : State) : refreshPump (s.recalling x) = (refreshPump s).recalling x :=
  recomputePump_recalling { s with sr := { s.sr with pumpState := s.pumpStateNow } } x

theorem pumpUntripped_recalling (s x : State) : pumpUntripped (s.recalling x) = (pumpUntripped s).recalling x := by
  unfold pumpUntripped
  rw [refreshPump_recalling]
  rfl

theorem wheelTripped_stopped {w : WheelId} {s : State} (h : s.wheel w = .initial) : wheelTripped w s = s := by
  unfold wheelTripped
  rw [h]
  rfl

namespace State.AtRest

variable {s : State} (h : s.AtRest) (x : State)
include h

theorem told_recalling (g : Group) (b : Bool) :
    groupReport g b (s.recalling x) = (groupReport g b s).recalling x := by
  cases g with
  | wheel w =>
    cases b with
    | false => rfl
    | true =>
      have still : (s.recalling x).wheel w = .initial := h.wheel w
      show wheelTripped w (s.recalling x) = (wheelTripped w s).recalling x
      rw [wheelTripped_stopped (h.wheel w), wheelTripped_stopped still]
  | plates => cases b <;> rfl
  | pump =>
    cases b with
    | false => exact pumpUntripped_recalling s x
    | true =>
      exact pumpUntripped_recalling
        { s with sr := { s.sr with backflushTimer := none, trim := 0, manualTarget := 0 } } x
  | feed => rfl

theorem groups_recalling : recomputeGroups (s.recalling x) = (recomputeGroups s).recalling x := by
  have folds : ∀ (before after : GroupSet) (l : List Group) (u : State), u.AtRest →
      l.foldl (fun s g => if before.getLsbD g.bit = after.getLsbD g.bit then s else
        groupReport g (after.getLsbD g.bit) s) (u.recalling x) =
      (l.foldl (fun s g => if before.getLsbD g.bit = after.getLsbD g.bit then s else
        groupReport g (after.getLsbD g.bit) s) u).recalling x := fun before after l => by
    induction l with
    | nil => exact fun _ _ => rfl
    | cons g l ih =>
      intro u rest
      simp only [List.foldl_cons]
      split
      · exact ih u rest
      · rw [rest.told_recalling]
        exact ih _ (rest.told _ _)
  exact folds _ _ _ { s with tu := { s.tu with groups := s.tu.groupsNow } } ⟨h.mp, h.wd, h.sl, h.pm, h.sr⟩

theorem set_recalling (i : Source) (st : SourceState) :
    setSource i st (s.recalling x) = (setSource i st s).recalling x :=
  groups_recalling (s := { s with tu := { s.tu with sources := s.tu.sources.set i.val st i.isLt } })
    ⟨h.mp, h.wd, h.sl, h.pm, h.sr⟩ x

/-- In START even EMERGENCY changes no mode (R37). -/
theorem reported_recalling (i : Source) (b : Bool) :
    condition i b (s.recalling x) = (condition i b s).recalling x := by
  have active : (if i = Source.emergency then emergencyStandby ((setSource i .active (s.recalling x)).report (.trip i))
      else (setSource i .active (s.recalling x)).report (.trip i)) =
      State.recalling (if i = Source.emergency then emergencyStandby ((setSource i .active s).report (.trip i))
      else (setSource i .active s).report (.trip i)) x := by
    have start : (setSource i .active s).mp.mode = .start := (h.set i .active).mode
    have stays : ∀ {u : State}, u.mp.mode = .start → emergencyStandby u = u := fun e => by
      unfold emergencyStandby
      rw [e]
    rw [h.set_recalling]
    split
    · rw [stays (u := (setSource i .active s).report (.trip i)) start,
        stays (u := ((setSource i .active s).recalling x).report (.trip i)) start]
      rfl
    · rfl
  have same : (s.recalling x).source i = s.source i := rfl
  unfold condition
  rw [same]
  cases s.source i <;> cases b
  · rfl
  · exact active
  · exact h.set_recalling x i .latched
  · rfl
  · rfl
  · exact active

theorem inputs_recalling : reportInputs (s.recalling x) = (reportInputs s).recalling x := by
  have reports : ∀ {u : State} (i : InputId), u.AtRest → reportInput i (u.recalling x) = (reportInput i u).recalling x :=
    fun {u} i rest => by
      have same : (u.recalling x).input i = u.input i := by cases i <;> rfl
      unfold reportInput
      rw [same]
      exact rest.reported_recalling x _ _
  have emergency : (reportInput .emergencyIn s).AtRest := h.reported _ _
  have gear : (reportInput .gearPressLow (reportInput .emergencyIn s)).AtRest := emergency.reported _ _
  unfold reportInputs
  rw [reports _ h, reports _ emergency, reports _ gear]

end State.AtRest

theorem finish_recalling_sent (s x : State) : (finish (s.recalling x)).sent = (finish s).sent := by
  have wheels : ∀ (u : State) w, (takeReports u).wheel w = u.wheel w := fun u w => by simp [State.wheel]
  have manifold : ∀ u : State, (takeReports u).manifoldRecord = u.manifoldRecord := fun u => by
    have value : ∀ c, (takeReports u).value c = u.value c := fun c => by simp [State.value, State.chan]
    have pm : (takeReports u).pm = u.pm := by simp
    unfold State.manifoldRecord
    rw [pm]
    cases u.pm.move <;> simp only [value]
  unfold finish
  simp only [sendRecords_sent, wheels, manifold, takeReports_keeps]
  rfl

/-- The record that a restart with keep_log 1 opens, no channel having arrived (R45, R80, R84). -/
theorem reborn_open (s : State) : (s.reborn true).di.openRecord =
    (if s.mp.panel = .opened ∧ 0 ≤ s.di.depth then some
      { station := (s.di.depth / s.mp.interval).toNat, pass := passFor s.di.log (s.di.depth / s.mp.interval).toNat
        speed := ⟨⟨0, 0⟩, ⟨0, 0⟩⟩, press := ⟨⟨0, 0⟩, ⟨0, 0⟩⟩, flow := ⟨0, 0⟩
        flags := ⟨true, false, false, false⟩
        recovery := false, densityVolume := 0, volume := 0, attributions := 0, lastDensity := none }
    else none) ∧
    (s.reborn true).sr.cutter = (s.reborn true).di.openRecord.map fun r => ⟨r.station, r.pass, s.di.depth⟩ := by
  have kept := restartState_shape s
  unfold State.reborn reopenStation
  rw [if_pos rfl]
  obtain ⟨c, shape⟩ := kept
  rw [shape]
  generalize eq : keepRecord s _ = u
  have panel : u.mp.panel = s.mp.panel := by rw [← eq]; rfl
  have interval : u.mp.interval = s.mp.interval := by rw [← eq]; rfl
  have depth : u.di.depth = s.di.depth := by rw [← eq]; rfl
  have log : u.di.log = s.di.log := by rw [← eq]; rfl
  have copies : u.di.copies = Integrator.initial.copies := by rw [← eq]; rfl
  have none : u.di.openRecord = .none := by rw [← eq]; rfl
  have cutter : u.sr.cutter = .none := by rw [← eq]; rfl
  have opened := stationAt_freshRecord u u.di.depth u.mp.interval
  have absent : u.fresh .depth = false := by rw [← eq]; rfl
  rw [depth, interval, log, copies, absent] at opened
  rw [panel]
  split
  · rename_i isOpen
    simp only [isOpen, true_and]
    rw [← depth]
    refine ⟨?_, rfl⟩
    show (stationAt u.di.depth u.mp.interval).map u.freshRecord = _
    rw [depth, interval]
    exact opened
  · rename_i notOpen
    simp [notOpen, none, cutter]

/-- A restart ends as power-on does, with what R45 keeps laid over it. -/
theorem restartModule_recalls (k : Bool) (s : State) : ∃ w : State,
    powerOn s.fc.emergencyIn.raw s.fc.gearPressLow.raw s.fc.oilHot.raw s = finish w ∧
    restartModule k s = finish (w.recalling (s.reborn k)) ∧ w.runTime = 0 ∧ w.pending = s.pending ∧
    w.fc = .initial s.fc.emergencyIn.raw s.fc.gearPressLow.raw s.fc.oilHot.raw ∧ w.di = .initial ∧ w.AtRest := by
  generalize e : s.poweredOn s.fc.emergencyIn.raw s.fc.gearPressLow.raw s.fc.oilHot.raw = v
  have rest : v.AtRest := e ▸ State.initial_atRest _ _ _ s.pending
  have reborn : s.reborn k = v.recalling (s.reborn k) := e ▸ s.reborn_recalling k
  have recalls : reportInputs (s.reborn k) = (reportInputs v).recalling (s.reborn k) :=
    (congrArg reportInputs reborn).trans (rest.inputs_recalling _)
  refine ⟨reportInputs v, by rw [← e]; rfl, congrArg finish recalls, ?_, ?_, ?_, ?_, rest.inputs⟩
  all_goals
    rw [← e]
    simp [reportInputs, reportInput]
    rfl

theorem reborn_di (s : State) : (s.reborn true).di = { Integrator.initial with
    path := s.di.path, depth := s.di.depth, anchored := s.di.anchored, closure := s.di.closure
    log := s.di.log, openRecord := (s.reborn true).di.openRecord } := by
  unfold State.reborn reopenStation
  rw [if_pos rfl]
  split <;> rfl

theorem reborn_counters (k : Bool) (s : State) : (s.reborn k).counters = (s.addCounter 9 s.sr.line.length).counters := by
  cases k with
  | false => rfl
  | true => exact (reopenStation_keeps _).2.2.1

/-- With keep_log 0 the counters alone are not as power-on leaves them (R44). -/
theorem recalling_forgotten {w : State} (s : State) (rest : w.AtRest)
    (fc : w.fc = .initial s.fc.emergencyIn.raw s.fc.gearPressLow.raw s.fc.oilHot.raw) (di : w.di = .initial) :
    (w.recalling (s.reborn false)).blocks =
      { w.blocks with counters := (s.addCounter 9 s.sr.line.length).counters } := by
  obtain ⟨p, sr⟩ := rest.sr
  obtain ⟨c, plain⟩ := restartState_shape s
  have counters := reborn_counters false s
  have mp := rest.mp
  have reborn : s.reborn false = _ := plain
  rw [← counters, reborn]
  unfold State.recalling State.blocks
  dsimp only
  rw [mp, fc, di, sr]
  rfl

/-- With keep_log 1 the table of R45 is kept as well, and the record open stands as the restart opens it. -/
theorem recalling_kept {w : State} (s : State) (di : w.di = .initial) :
    (w.recalling (s.reborn true)).blocks = { w.blocks with
      counters := (s.addCounter 9 s.sr.line.length).counters
      mp := { w.mp with
        panel := s.mp.panel, panelNumber := s.mp.panelNumber, cutArea := s.mp.cutArea, interval := s.mp.interval }
      di := { w.di with
        path := s.di.path, depth := s.di.depth, anchored := s.di.anchored, closure := s.di.closure
        log := s.di.log, openRecord := (s.reborn true).di.openRecord }
      fc := { w.fc with
        reference := s.fc.reference, lastAccepted := s.fc.lastAccepted, lastRaw := s.fc.lastRaw }
      sr := { w.sr.unsent with cutter := (s.reborn true).sr.cutter } } := by
  have counters := reborn_counters true s
  have kept := reborn_di s
  obtain ⟨mp, -, header, -⟩ := reborn_keepLog s
  rw [← counters, di, ← kept]
  generalize s.reborn true = r at *
  unfold State.recalling State.blocks
  dsimp only
  rw [mp, header]
  rfl

end Sys2Proof.Machine

open Sys2Proof Sys2Proof.Machine in
/-- Settles O21: the module restarts as it powers on, with the table of R45 laid over it. -/
theorem restartState : Obligations.RestartState := by
  unfold Obligations.RestartState
  intro s p keep handler powered
  obtain ⟨w, powers, restarts, time, pending, fc, di, rest⟩ := restartModule_recalls keep s
  have li := restartModule_li keep s
  have liP := powerOn_li s.fc.emergencyIn.raw s.fc.gearPressLow.raw s.fc.oilHot.raw s
  have runs := exec_moduleRestart handler
  obtain ⟨record, cutter⟩ := reborn_open s
  obtain rfl : finish w = p := powers.symm.trans (Host.Outcome.next.inj powered)
  have keeps : ∀ u : State, (finish u).runTime = u.runTime ∧ (finish u).pending = u.pending := fun u => by simp
  rw [restarts] at li runs
  rw [powers] at liP
  refine ⟨_, runs, (keeps _).1.trans time, (keeps _).2.trans pending, li.trans liP.symm, finish_recalling_sent _ _, ?_, ?_⟩
  · rintro rfl
    rw [finish_blocks, finish_blocks]
    exact recalling_forgotten s rest fc di
  · rintro rfl
    have blocks := finish_blocks (w.recalling (s.reborn true))
    have opens : (finish (w.recalling (s.reborn true))).di = (s.reborn true).di := congrArg Blocks.di blocks
    have copies : (finish (w.recalling (s.reborn true))).sr.cutter = (s.reborn true).sr.cutter :=
      (congrArg (fun b : Blocks => b.sr.cutter) blocks :)
    have blocksP := finish_blocks w
    have mpP : (finish w).mp = w.mp := congrArg Blocks.mp blocksP
    have diP : (finish w).di = w.di := congrArg Blocks.di blocksP
    have fcP : (finish w).fc = w.fc := congrArg Blocks.fc blocksP
    have srP : (finish w).sr.unsent = w.sr.unsent := congrArg Blocks.sr blocksP
    rw [opens, copies, blocks, blocksP, mpP, diP, fcP, srP]
    exact ⟨recalling_kept s di, record, cutter⟩
end

section
/-! SUPPORT of O51 and O30. What no trip and no change of mode but the end of START touches of SR: the marks, the
blockage watch and the feed limit. -/

namespace Sys2Proof.Machine

/-- SR's watches of the return line, and the feed limit (R177, R179, R180). -/
structure ReturnWatch where
  soft : Bool
  heavy : Bool
  timer : Option Timer
  blocked : Bool
  limit : Int

def State.watch (s : State) : ReturnWatch :=
  ⟨s.sr.softMark, s.sr.returnHeavy, s.sr.blockTimer, s.sr.returnBlocked, s.sr.feedLimit⟩

@[simp] theorem State.report_watch (r : Report) (s : State) : (s.report r).watch = s.watch := rfl

@[simp] theorem recomputePermit_watch (s : State) : (recomputePermit s).watch = s.watch := rfl

@[simp] theorem refreshPump_watch (s : State) : (refreshPump s).watch = s.watch := by
  obtain ⟨c, shape⟩ := refreshPump_shape s
  rw [shape]
  rfl

@[simp] theorem pumpUntripped_watch (s : State) : (pumpUntripped s).watch = s.watch := by
  rw [pumpUntripped, recomputePermit_watch, refreshPump_watch]

@[simp] theorem pumpTripped_watch (s : State) : (pumpTripped s).watch = s.watch := by
  rw [pumpTripped, recomputePermit_watch, refreshPump_watch]
  rfl

@[simp] theorem changeWheel_watch (w : WheelId) (v : Wheel) (s : State) : (changeWheel w v s).watch = s.watch := by
  unfold State.watch
  rw [changeWheel_shape]

@[simp] theorem wheelTripped_watch (w : WheelId) (s : State) : (wheelTripped w s).watch = s.watch := by
  unfold wheelTripped
  dsimp only
  split <;> simp

@[simp] theorem groupReport_watch (g : Group) (b : Bool) (s : State) : (groupReport g b s).watch = s.watch := by
  cases g with
  | wheel w =>
    cases b
    · rfl
    · exact wheelTripped_watch w s
  | plates => cases b <;> rfl
  | pump =>
    cases b
    · exact pumpUntripped_watch s
    · exact pumpTripped_watch s
  | feed => rfl

@[simp] theorem recomputeGroups_watch (s : State) : (recomputeGroups s).watch = s.watch := by
  rw [recomputeGroups_eq]
  refine (foldl_keeps _ State.watch (fun u g => ?_) _ _).trans rfl
  unfold reportGroup
  split <;> simp

@[simp] theorem setSource_watch (i : Source) (st : SourceState) (s : State) : (setSource i st s).watch = s.watch := by
  rw [setSource, recomputeGroups_watch]
  rfl

/-- Only the end of START changes the feed limit (R177). -/
theorem changeMode_watch {m : Mode} {s : State} (run : s.mp.mode ≠ .start) : (changeMode m s).watch = s.watch := by
  by_cases other : s.mp.mode = m
  · rw [changeMode, if_pos other]
  · have sr := changeMode_sr other
    dsimp only at sr
    rw [if_pos run] at sr
    unfold State.watch
    rw [sr]

@[simp] theorem emergencyStandby_watch (s : State) : (emergencyStandby s).watch = s.watch := by
  unfold emergencyStandby
  split
  case h_4 | h_5 => rfl
  all_goals
    rename_i mode
    exact changeMode_watch (by rw [mode]; decide)

@[simp] theorem holdTest_watch (s : State) : (holdTest s).watch = s.watch := by
  unfold holdTest
  split
  · rename_i auto
    split
    · rw [changeMode_watch (by simp [auto])]
      obtain ⟨c, shape⟩ := State.count_shape 17 s
      rw [shape]
      rfl
    · rfl
  · rename_i hold
    split
    · rfl
    · exact changeMode_watch (by rw [hold]; decide)
  all_goals rfl

@[simp] theorem condition_watch (i : Source) (b : Bool) (s : State) : (condition i b s).watch = s.watch := by
  unfold condition
  split
  iterate 2
    dsimp only
    split <;> simp
  · simp
  all_goals rfl

@[simp] theorem tellChange_watch (i : Source) (old now : Bool) (s : State) : (tellChange i old now s).watch = s.watch := by
  unfold tellChange
  split <;> simp

@[simp] theorem sensorStaleWatch_watch (s : State) : (sensorStaleWatch s).watch = s.watch := by
  rw [sensorStaleWatch_eq, tellChange_watch]
  rfl

@[simp] theorem finish_watch (s : State) : (finish s).watch = s.watch :=
  congrArg (fun b : Blocks =>
    (⟨b.sr.softMark, b.sr.returnHeavy, b.sr.blockTimer, b.sr.returnBlocked, b.sr.feedLimit⟩ : ReturnWatch)) (finish_blocks s)

/-- Where START ends the feed limit is formed, and the watches stand (R29, R177). -/
theorem endStart_watch {s : State} (start : s.mp.mode = .start) : (endStart s).watch = { s.watch with
    limit := ({ s with mp := { s.mp with mode := .standby } } : State).feedLimitNow } := by
  have began : s.startOver.mp.mode = .start := start
  have sr := changeMode_sr (m := .standby) (s := s.startOver) (by rw [began]; decide)
  have limit := State.feedLimitNow_of_mode (s := { s with mp := { s.mp with mode := .standby } }) Mode.noConfusion
  dsimp only at sr
  rw [if_neg (not_not.2 began)] at sr
  rw [endStart_eq, sensorStaleWatch_watch, limit]
  unfold State.watch
  rw [sr]
  rfl

end Sys2Proof.Machine
end

section
/-! O51, the density sample: the arrival, the watch, the head of the line, and the test of START's end. -/

namespace Sys2Proof.Machine

/-- What of a state the density watch and the feed limit read, kept from `s` to `u`. -/
structure State.WatchKept (s u : State) : Prop where
  watch : u.watch = s.watch
  params : u.params = s.params
  area : u.mp.cutArea = s.mp.cutArea
  line : u.sr.line = s.sr.line
  sources : ∀ j, j ≠ Source.sensorStale → u.source j = s.source j

theorem State.WatchKept.trans {s u v : State} (h : s.WatchKept u) (k : u.WatchKept v) : s.WatchKept v :=
  ⟨k.watch.trans h.watch, k.params.trans h.params, k.area.trans h.area, k.line.trans h.line,
    fun j other => (k.sources j other).trans (h.sources j other)⟩

theorem holdTest_watchKept (s : State) : s.WatchKept (holdTest s) := by
  have mp := holdTest_mp s
  exact ⟨by simp, by simp, by rw [mp], by simp, fun j _ => by simp [State.source]⟩

theorem sensorStaleWatch_watchKept (s : State) : s.WatchKept (sensorStaleWatch s) := by
  obtain ⟨-, mp, -, sources⟩ := sensorStaleWatch_fields s
  exact ⟨by simp, by simp, by rw [mp], by simp, sources⟩

/-- A density sample reaches its watch with the watches as they stood (R48, R50). -/
theorem arrival_retDens (v : Int) (s : State) :
    ∃ w, arrival .retDens v s = densitySample v (densityWatch v w) ∧ s.WatchKept w := by
  have seen : s.WatchKept (s.seen .retDens v) := ⟨rfl, rfl, rfl, rfl, fun _ _ => rfl⟩
  rw [arrival_seen]
  refine ⟨_, rfl, ?_⟩
  split
  · rename_i absent
    rw [channelReport_fresh rfl (by simp [State.seen_fresh, absent])]
    exact (seen.trans (holdTest_watchKept _)).trans (sensorStaleWatch_watchKept _)
  · exact seen

/-- The soft mark is the comparison with the limit, and a changed mark forms the feed limit (R177, R179). -/
theorem densityWatch_watch (v : Int) (s : State) :
    (densityWatch v s).watch = { s.watch with
      soft := decide (s.par .softLimit < v)
      heavy := decide (s.par .hardLimit < v)
      limit := if decide (s.par .softLimit < v) = s.sr.softMark then s.sr.feedLimit
        else ({ s with sr := { s.sr with softMark := decide (s.par .softLimit < v) } } : State).feedLimitNow } := by
  rw [densityWatch_eq, tellChange_watch]
  unfold softWatch
  dsimp only
  split
  · rename_i same
    unfold State.watch
    rw [same]
  · rfl

/-- The source follows a change of the condition, and no other source does (R179, R203). -/
theorem densityWatch_source (v : Int) (s : State) (j : Source) : (densityWatch v s).source j =
    if j = Source.returnHeavy ∧ decide (s.par .hardLimit < v) ≠ s.sr.returnHeavy then
      (s.source j).after (decide (s.par .hardLimit < v))
    else s.source j := by
  have marked : (softWatch v s).sr.returnHeavy = s.sr.returnHeavy ∧ (softWatch v s).tu = s.tu := by
    unfold softWatch
    dsimp only
    split <;> exact ⟨rfl, rfl⟩
  obtain ⟨heavy, tu⟩ := marked
  have source : ∀ k, ({ softWatch v s with sr := { (softWatch v s).sr with returnHeavy := s.par .hardLimit < v } } :
      State).source k = s.source k := fun k => congrArg (fun t : TripUnit => t.sources.get k) tu
  rw [densityWatch_eq, heavy]
  unfold tellChange
  by_cases same : decide (s.par .hardLimit < v) = s.sr.returnHeavy
  · rw [if_pos same, if_neg fun h => h.2 same, source]
  · rw [if_neg same, condition_source, source, source]
    by_cases self : j = Source.returnHeavy
    · rw [if_pos self, if_pos ⟨self, same⟩, self]
    · rw [if_neg self, if_neg fun h => self h.1]

theorem densityWatch_mp (v : Int) (s : State) : (densityWatch v s).mp = s.mp := by
  rw [densityWatch_eq, (tellChange_mode (by decide) _ _ _).1]
  unfold softWatch
  dsimp only
  split <;> rfl

/-- The head of the line takes the sample if it is AT_METER, up to its cap (R195). -/
theorem densitySample_head {s : State} {head : Parcel} {behind : List Parcel} (v : Int) (h : s.sr.line = head :: behind) :
    (densitySample v s).sr.line = (if head.atMeter = true ∧ head.densityCount < 65535 then
      { head with densitySum := head.densitySum + v, densityCount := head.densityCount + 1 } else head) :: behind := by
  unfold densitySample
  rw [h]
  dsimp only
  by_cases meter : head.atMeter = true
  · rw [if_pos meter]
    show head.addDensity v :: behind = _
    unfold Parcel.addDensity
    by_cases room : head.densityCount < Config.densityCap
    · rw [if_pos room, if_pos ⟨meter, room⟩]
    · rw [if_neg room, if_neg fun k => room k.2]
  · rw [if_neg meter, if_neg fun k => meter k.1, h]

theorem densitySample_watch (v : Int) (s : State) : (densitySample v s).watch = s.watch := by
  unfold densitySample
  split
  · split <;> rfl
  · rfl

/-- The test of START's end forms the feed limit where START ends, and leaves the line and the sources (R29, R51). -/
theorem startTest_watch (s : State) :
    (startTest s).sr.line = s.sr.line ∧ (∀ j, j ≠ Source.sensorStale → (startTest s).source j = s.source j) ∧
    ((startTest s).mp = s.mp ∧ (startTest s).watch = s.watch ∨
      (startTest s).mp.mode = .standby ∧ (startTest s).watch = { s.watch with
        limit := ({ s with mp := { s.mp with mode := .standby } } : State).feedLimitNow }) := by
  refine ⟨by simp, ?_, ?_⟩
  · unfold startTest
    split
    · intro j other
      rw [endStart_eq, (sensorStaleWatch_fields _).2.2.2 j other]
      simp [State.source, State.startOver]
    · exact fun _ _ => rfl
  · unfold startTest
    split
    · rename_i ends
      refine .inr ⟨?_, endStart_watch ends.1⟩
      obtain ⟨-, mp, -⟩ := sensorStaleWatch_fields (changeMode .standby s.startOver)
      rw [endStart_eq, mp, changeMode_mp]
    · exact .inl ⟨rfl, rfl⟩

/-- What a density sample leaves of the watches and of the feed limit, with the mode that then stands (R177, R179). -/
structure DensityWatched (v : Int) (s t : State) : Prop where
  soft : t.sr.softMark = decide (s.par .softLimit < v)
  heavy : t.sr.returnHeavy = decide (s.par .hardLimit < v)
  source : t.source Source.returnHeavy = if decide (s.par .hardLimit < v) ≠ s.sr.returnHeavy then
    (s.source Source.returnHeavy).after (decide (s.par .hardLimit < v)) else s.source Source.returnHeavy
  limit : t.sr.softMark ≠ s.sr.softMark → t.sr.feedLimit = t.feedLimitNow
  params : t.params = s.params
  area : t.mp.cutArea = s.mp.cutArea
  line : t.sr.line = (densitySample v s).sr.line

theorem State.feedLimitNow_congr {s t : State} (mode : t.mp.mode = s.mp.mode) (params : t.params = s.params)
    (area : t.mp.cutArea = s.mp.cutArea) (soft : t.sr.softMark = s.sr.softMark) : t.feedLimitNow = s.feedLimitNow := by
  have par : ∀ p, t.par p = s.par p := fun p => by rw [State.par, State.par, params]
  unfold State.feedLimitNow State.slurryLimitedFeed State.maxFlow
  simp only [mode, par, area, soft]

theorem arrival_densityWatched (v : Int) (s : State) : DensityWatched v s (startTest (arrival .retDens v s)) := by
  obtain ⟨w, arrives, kept⟩ := arrival_retDens v s
  have par : ∀ p, w.par p = s.par p := fun p => by rw [State.par, State.par, kept.params]
  have was : w.sr.softMark = s.sr.softMark := congrArg ReturnWatch.soft kept.watch
  have wasHeavy : w.sr.returnHeavy = s.sr.returnHeavy := congrArg ReturnWatch.heavy kept.watch
  have watch := (densitySample_watch v (densityWatch v w)).trans (densityWatch_watch v w)
  have source : (densitySample v (densityWatch v w)).source Source.returnHeavy = _ :=
    (by simp [State.source] : _ = (densityWatch v w).source Source.returnHeavy).trans (densityWatch_source v w _)
  have mp : (densitySample v (densityWatch v w)).mp = w.mp := (by simp : _ = (densityWatch v w).mp).trans (densityWatch_mp v w)
  have params : (densitySample v (densityWatch v w)).params = s.params :=
    (by simp : _ = w.params).trans kept.params
  have line : (densitySample v (densityWatch v w)).sr.line = (densitySample v s).sr.line := by
    have reads : ∀ {x y : State}, x.sr.line = y.sr.line → (densitySample v x).sr.line = (densitySample v y).sr.line :=
      fun {x y} h => by
        unfold densitySample
        rw [h]
        split
        · split
          · rfl
          · exact h
        · exact h
    exact reads ((by simp : _ = w.sr.line).trans kept.line)
  rw [arrives]
  rw [kept.sources _ (by decide), wasHeavy, par] at source
  rw [par, par, was] at watch
  have limited : (densitySample v (densityWatch v w)).sr.softMark ≠ s.sr.softMark →
      (densitySample v (densityWatch v w)).sr.feedLimit = (densitySample v (densityWatch v w)).feedLimitNow := fun changed => by
    have soft : (densitySample v (densityWatch v w)).sr.softMark = decide (s.par .softLimit < v) :=
      congrArg ReturnWatch.soft watch
    have limit := congrArg ReturnWatch.limit watch
    rw [soft] at changed
    rw [if_neg changed] at limit
    exact limit.trans (State.feedLimitNow_congr (by rw [mp]) (by rw [params, kept.params]) (by rw [mp]) soft).symm
  generalize densitySample v (densityWatch v w) = y at *
  obtain ⟨lineT, sources, ends⟩ := startTest_watch y
  have paramsT : (startTest y).params = y.params := by simp
  have areaT : (startTest y).mp.cutArea = y.mp.cutArea := by rw [(startTest_fields y).2.1]
  have soft := congrArg ReturnWatch.soft watch
  have heavy := congrArg ReturnWatch.heavy watch
  have same : (startTest y).sr.softMark = y.sr.softMark ∧ (startTest y).sr.returnHeavy = y.sr.returnHeavy ∧
      (y.sr.softMark ≠ s.sr.softMark → (startTest y).sr.feedLimit = (startTest y).feedLimitNow) := by
    rcases ends with ⟨mode, stands⟩ | ⟨mode, formed⟩
    · refine ⟨congrArg ReturnWatch.soft stands, congrArg ReturnWatch.heavy stands, fun changed => ?_⟩
      rw [State.feedLimitNow_congr (s := y) (by rw [mode]) paramsT areaT (congrArg ReturnWatch.soft stands)]
      exact (congrArg ReturnWatch.limit stands).trans (limited changed)
    · refine ⟨congrArg ReturnWatch.soft formed, congrArg ReturnWatch.heavy formed, fun _ => ?_⟩
      rw [State.feedLimitNow_congr (s := { y with mp := { y.mp with mode := .standby } }) mode paramsT areaT
        (congrArg ReturnWatch.soft formed)]
      exact congrArg ReturnWatch.limit formed
  obtain ⟨softT, heavyT, limitT⟩ := same
  refine ⟨softT.trans soft, heavyT.trans heavy, ?_, fun changed => limitT (softT ▸ changed), paramsT.trans params, ?_,
    lineT.trans line⟩
  · rw [sources _ (by decide), source]
    simp
  · rw [areaT, mp, kept.area]

theorem DensityWatched.finish {v : Int} {s u : State} (h : DensityWatched v s u) : DensityWatched v s (finish u) := by
  obtain ⟨-, params, -, mp, -, -, -, tu, -⟩ := finish_keeps u
  have watch := finish_watch u
  have soft := congrArg ReturnWatch.soft watch
  have heavy := congrArg ReturnWatch.heavy watch
  have limit := congrArg ReturnWatch.limit watch
  have line : (Machine.finish u).sr.line = u.sr.line := congrArg (fun b : Blocks => b.sr.line) (finish_blocks u)
  have source := finish_source u Source.returnHeavy
  generalize Machine.finish u = t at *
  refine ⟨soft.trans h.soft, heavy.trans h.heavy, source.trans h.source, fun changed => ?_, params.trans h.params, ?_,
    line.trans h.line⟩
  · rw [State.feedLimitNow_congr (s := u) (by rw [mp]) params (by rw [mp]) soft]
    exact limit.trans (h.limit fun same => changed (soft.trans same))
  · rw [mp, h.area]

/-- The clauses of the statement for a density sample. -/
theorem DensityWatched.clauses {v : Int} {s t : State} (h : DensityWatched v s t) :
    t.sr.softMark = decide (s.par .softLimit < v) ∧ t.sr.returnHeavy = decide (s.par .hardLimit < v) ∧
    (s.sr.returnHeavy = false → t.sr.returnHeavy = true → t.source Source.returnHeavy = .active) ∧
    (s.sr.returnHeavy = true → t.sr.returnHeavy = false → s.source Source.returnHeavy = .active →
      t.source Source.returnHeavy = .latched) ∧
    (t.sr.softMark ≠ s.sr.softMark →
      let most := s.par .pumpMaxRpm * s.par .displacement / 1000;
      let pumped := (most - s.par .baseFlow) * 1000000 / (s.mp.cutArea * s.par .carry);
      let limit :=
        min (s.par .operatorFeedLimit) (if pumped < 0 then 0 else if 2000 < pumped then 2000 else pumped);
      t.sr.feedLimit =
        if t.mp.mode = .start then 0 else if s.par .softLimit < v then limit / 2 else limit) := by
  have par : ∀ p, t.par p = s.par p := fun p => by rw [State.par, State.par, h.params]
  have source := h.source
  rw [← h.heavy] at source
  refine ⟨h.soft, h.heavy, fun was now => ?_, fun was now active => ?_, fun changed => ?_⟩
  · rw [now, was, if_pos (by decide)] at source
    rw [source]
    cases s.source Source.returnHeavy <;> rfl
  · rw [now, was, if_pos (by decide), active] at source
    exact source
  · intro most pumped limit
    rw [h.limit changed]
    by_cases start : t.mp.mode = .start
    · rw [if_pos start]
      exact if_pos start
    · rw [if_neg start, State.feedLimitNow_of_mode start, h.soft, h.area]
      simp only [par, decide_eq_true_eq]
      rfl

end Sys2Proof.Machine
end

section
/-! O51: the blockage watch at a pump pressure or return flow sample, and the trim. -/

namespace Sys2Proof.Machine

/-! ### The blockage watch (R180) -/

/-- R180 is evaluated: both channels are FRESH and the pump does not flush back. -/
def State.blockageWatched (s : State) : Prop :=
  s.fresh .pumpPress = true ∧ s.fresh .retFlow = true ∧ s.sr.pumpState ≠ .backflush

/-- What the blockage watch makes of SR's watch and of TU. -/
structure State.BlockageSeen (s t : State) : Prop where
  starts : s.blockageWatched → s.blockageCondition = true → t.sr.returnBlocked = s.sr.returnBlocked ∧ t.tu = s.tu ∧
    t.sr.blockTimer = if s.sr.blockTimer ≠ none ∨ s.sr.returnBlocked = true then s.sr.blockTimer
      else some (s.timer (s.par .blockTime * 1000))
  ends : s.blockageWatched → s.blockageCondition = false → t.sr.returnBlocked = false ∧ t.sr.blockTimer = none ∧
    (s.sr.returnBlocked = true → t.source Source.returnBlocked = (s.source Source.returnBlocked).after false) ∧
    (s.sr.returnBlocked = true → ∀ j, j ≠ Source.returnBlocked → t.source j = s.source j) ∧
    (s.sr.returnBlocked = false → t.tu = s.tu)
  stands : ¬s.blockageWatched → t.sr.returnBlocked = s.sr.returnBlocked ∧ t.sr.blockTimer = s.sr.blockTimer ∧ t.tu = s.tu

theorem State.BlockageSeen.of_same {s t u : State} (h : s.BlockageSeen t) (watch : u.watch.blocked = t.watch.blocked)
    (timer : u.watch.timer = t.watch.timer) (tu : u.tu = t.tu) : s.BlockageSeen u := by
  have source : u.source = t.source := by
    unfold State.source
    rw [tu]
  have blocked : u.sr.returnBlocked = t.sr.returnBlocked := watch
  have runs : u.sr.blockTimer = t.sr.blockTimer := timer
  obtain ⟨starts, ends, stands⟩ := h
  refine ⟨?_, ?_, ?_⟩
  · rw [blocked, runs, tu]
    exact starts
  · rw [blocked, runs, tu, source]
    exact ends
  · rw [blocked, runs, tu]
    exact stands

theorem State.BlockageSeen.others {s t : State} (h : s.BlockageSeen t) (j : Source) (other : j ≠ Source.returnBlocked) :
    t.source j = s.source j := by
  have same : t.tu = s.tu → t.source j = s.source j := fun tu => by rw [State.source, tu, State.source]
  by_cases watched : s.blockageWatched
  · cases condition : s.blockageCondition with
    | true => exact same (h.starts watched condition).2.1
    | false =>
      obtain ⟨-, -, -, others, trips⟩ := h.ends watched condition
      cases was : s.sr.returnBlocked with
      | true => exact others was j other
      | false => exact same (trips was)
  · exact same (h.stands watched).2.2

theorem blockageWatch_seen (s : State) : s.BlockageSeen (blockageWatch s) := by
  have runs : (s.fresh .pumpPress && s.fresh .retFlow && s.sr.pumpState != .backflush) = true ↔ s.blockageWatched := by
    simp [State.blockageWatched, and_assoc]
  unfold blockageWatch
  by_cases watched : s.blockageWatched
  · rw [if_pos (runs.2 watched)]
    by_cases condition : s.blockageCondition = true
    · rw [if_pos condition]
      refine ⟨fun _ _ => ?_, fun _ no => absurd condition (by simp [no]), fun no => absurd watched no⟩
      by_cases running : s.sr.blockTimer ≠ none ∨ s.sr.returnBlocked = true
      · rw [if_pos running, if_pos (by simpa [Option.isSome_iff_ne_none] using running)]
        exact ⟨rfl, rfl, rfl⟩
      · rw [if_neg running, if_neg (by simpa [Option.isSome_iff_ne_none] using running)]
        exact ⟨rfl, rfl, rfl⟩
    · rw [if_neg condition]
      refine ⟨fun _ yes => absurd yes condition, fun _ _ => ?_, fun no => absurd watched no⟩
      dsimp only
      by_cases was : s.sr.returnBlocked = true
      · rw [if_pos was]
        have watch := condition_watch Source.returnBlocked false
          { s with sr := { s.sr with blockTimer := none, returnBlocked := false } }
        refine ⟨congrArg ReturnWatch.blocked watch, congrArg ReturnWatch.timer watch, fun _ => ?_, fun _ j other => ?_,
          fun no => absurd was (by simp [no])⟩
        · rw [condition_source, if_pos rfl]
          rfl
        · rw [condition_source, if_neg other]
          rfl
      · rw [if_neg was]
        exact ⟨rfl, rfl, fun yes => absurd yes was, fun yes => absurd yes was, fun _ => rfl⟩
  · rw [if_neg fun yes => watched (runs.1 yes)]
    exact ⟨fun yes => absurd yes watched, fun yes => absurd yes watched, fun _ => ⟨rfl, rfl, rfl⟩⟩

theorem blockageWatch_mp (s : State) : (blockageWatch s).mp = s.mp := by
  unfold blockageWatch
  split
  · split
    · split <;> rfl
    · dsimp only
      split
      · exact (condition_other (by decide) false _).1
      · rfl
  · rfl

/-! ### The test of START's end -/

/-- A quiet test of START's end leaves TU and the blockage watch, and all of a state that stays in its mode (R29). -/
theorem startTest_stands {s : State} (h : s.mp.mode = .start → s.SensorStaleFollows) :
    (startTest s).tu = s.tu ∧ (startTest s).watch.blocked = s.watch.blocked ∧
    (startTest s).watch.timer = s.watch.timer ∧ (startTest s).fc.channels = s.fc.channels ∧
    (startTest s = s ∨ s.mp.mode = .start ∧ startTest s = changeMode .standby s.startOver) := by
  have quiet := startTest_quiet h
  obtain ⟨-, -, ends⟩ := startTest_watch s
  have fc := (startTest_fields s).1
  refine ⟨?_, ?_, ?_, by rw [fc], quiet⟩
  · rcases quiet with same | ⟨-, moves⟩
    · rw [same]
    · rw [moves]
      simp [State.startOver]
  · rcases ends with ⟨-, same⟩ | ⟨-, formed⟩
    · rw [same]
    · rw [formed]
  · rcases ends with ⟨-, same⟩ | ⟨-, formed⟩
    · rw [same]
    · rw [formed]

/-! ### The statement's watch -/

/-- The flow basis of R174 as the statement writes it. -/
theorem State.flowBasis_eq (s : State) : s.flowBasis = match s.sr.pumpState with
    | .idle => s.par .idleFlow
    | .manual => s.sr.manualTarget
    | .balance => s.sr.required
    | .off | .tripped | .backflush => 0 := by
  unfold State.flowBasis
  cases s.sr.pumpState <;> rfl

/-- What an arrival on `c` leaves of the blockage watch, in the words of the statement. -/
def State.Watched (s t : State) (now : RunTime) (c : Channel) (pressure flow : Int) : Prop :=
  let basis := match s.sr.pumpState with
    | .idle => s.par .idleFlow
    | .manual => s.sr.manualTarget
    | .balance => s.sr.required
    | .off | .tripped | .backflush => 0
  let watched := t.fresh .pumpPress = true ∧ t.fresh .retFlow = true ∧ s.sr.pumpState ≠ .backflush
  let tripsStay := t.tu = { s.tu with
    sources := s.tu.sources.set Source.sensorStale.val (t.source Source.sensorStale) Source.sensorStale.isLt }
  let blocked := basis ≠ 0 ∧ s.par .blockPressure < pressure ∧ 10 * flow < 3 * basis
  (watched → blocked → t.sr.returnBlocked = s.sr.returnBlocked ∧ tripsStay ∧
    t.sr.blockTimer = if s.sr.blockTimer ≠ none ∨ s.sr.returnBlocked = true then s.sr.blockTimer
      else some ⟨now, (s.par .blockTime * 1000).toNat⟩) ∧
  (watched → ¬blocked → t.sr.returnBlocked = false ∧ t.sr.blockTimer = none ∧
    (s.sr.returnBlocked = true → s.source Source.returnBlocked = .active →
      t.source Source.returnBlocked = .latched) ∧
    (s.sr.returnBlocked = false → tripsStay)) ∧
  (¬watched → t.sr.returnBlocked = s.sr.returnBlocked ∧ t.sr.blockTimer = s.sr.blockTimer ∧ tripsStay) ∧
  ((s.chan c).state ≠ .absent → t.source Source.sensorStale = s.source Source.sensorStale)

theorem State.BlockageSeen.watched {s u t : State} {c : Channel} {x pressure flow : Int} {now : RunTime}
    (arrived : (s.begin now).Arrived c x u) (h : u.BlockageSeen t) (channels : t.fc.channels = u.fc.channels)
    (press : u.value .pumpPress = pressure) (measured : u.value .retFlow = flow) : s.Watched t now c pressure flow := by
  obtain ⟨time, par, -, -, -⟩ := arrived.reads
  have fresh : t.fresh = u.fresh := State.fresh_congr channels
  have sr : u.sr = s.sr := (congrArg State.sr arrived.only :)
  have tu : u.tu = { s.tu with
      sources := s.tu.sources.set Source.sensorStale.val (u.source Source.sensorStale) Source.sensorStale.isLt } :=
    (congrArg State.tu arrived.only :)
  have source : ∀ j, j ≠ Source.sensorStale → u.source j = s.source j := fun j other => by
    have apart : Source.sensorStale.val ≠ j.val := fun e => other (Fin.ext e.symm)
    unfold State.source
    rw [tu]
    simp [Vector.get_eq_getElem, apart]
  have quiet : (s.chan c).state ≠ .absent → u.tu = s.tu := arrived.tu
  have runs : u.blockageWatched ↔ t.fresh .pumpPress = true ∧ t.fresh .retFlow = true ∧ s.sr.pumpState ≠ .backflush := by
    rw [State.blockageWatched, fresh, sr]
  have basis : u.flowBasis = s.flowBasis := by
    unfold State.flowBasis
    rw [sr]
    simp only [par]
  have condition : u.blockageCondition = true ↔
      s.flowBasis ≠ 0 ∧ s.par .blockPressure < pressure ∧ 10 * flow < 3 * s.flowBasis := by
    unfold State.blockageCondition
    rw [basis, par, press, measured]
    simp [and_assoc]
  have tripsStay : t.tu = u.tu → t.tu = { s.tu with
      sources := s.tu.sources.set Source.sensorStale.val (t.source Source.sensorStale) Source.sensorStale.isLt } :=
    fun same => by
      rw [State.source, same]
      exact tu
  have others := h.others Source.sensorStale (by decide)
  obtain ⟨starts, ends, stands⟩ := h
  rw [runs, sr] at starts ends stands
  rw [condition] at starts
  unfold State.Watched
  rw [← State.flowBasis_eq]
  refine ⟨fun watched blocked => ?_, fun watched free => ?_, fun free => ?_, fun there => ?_⟩
  · obtain ⟨present, trips, timer⟩ := starts watched blocked
    rw [State.timer, time, par] at timer
    exact ⟨present, tripsStay trips, timer⟩
  · obtain ⟨gone, timer, left, -, trips⟩ := ends watched (Bool.eq_false_iff.2 fun yes => free (condition.1 yes))
    refine ⟨gone, timer, fun was active => ?_, fun was => tripsStay (trips was)⟩
    rw [left was, source _ (by decide), active]
    rfl
  · obtain ⟨present, timer, trips⟩ := stands free
    exact ⟨present, timer, tripsStay trips⟩
  · rw [others, State.source, quiet there, State.source]

end Sys2Proof.Machine
end

section
/-! O51: the events of a pump pressure and of a return flow sample. -/

namespace Sys2Proof.Machine

/-- What an arrival's users leave stands when START has been tested and the records have left (R29). -/
theorem State.BlockageSeen.told {s u x : State} {c : Channel} {v pressure flow : Int} {now : RunTime}
    (arrived : (s.begin now).Arrived c v u) (h : u.BlockageSeen x) (fc : x.fc = u.fc)
    (stale : x.mp.mode = .start → x.SensorStaleFollows) (press : u.value .pumpPress = pressure)
    (measured : u.value .retFlow = flow) : s.Watched (finish (startTest x)) now c pressure flow := by
  obtain ⟨tu, blocked, timer, channels, -⟩ := startTest_stands stale
  have watch := finish_watch (startTest x)
  have finished : (finish (startTest x)).tu = (startTest x).tu ∧ (finish (startTest x)).fc = (startTest x).fc := by simp
  obtain ⟨tuT, fcT⟩ := finished
  refine State.BlockageSeen.watched arrived (h.of_same ?_ ?_ (tuT.trans tu)) ?_ press measured
  · rw [watch, blocked]
  · rw [watch, timer]
  · rw [fcT, channels, fc]

/-- A pump pressure sample (R48, R180). -/
theorem pumpPress_event {s : State} {v : Int} (now : RunTime) (low : 0 ≤ v) (high : v ≤ 100)
    (quiet : s.mp.mode = .start ∨ (s.chan .pumpPress).state = .absent → s.ArrivalQuiet) :
    ∃ t, exec (.sampleArrival 19 v now) s = .next t ∧ t.runTime = now ∧ t.pending = s.pending ∧
      s.Watched t now .pumpPress v (s.value .retFlow) ∧ t.sr.line = s.sr.line ∧ t.counters = s.counters := by
  obtain ⟨u, arrived, eq⟩ := arrival_quiet (c := .pumpPress) rfl (s := s.begin now) v fun absent => quiet (.inr absent)
  obtain ⟨-, -, -, -, value⟩ := arrived.reads
  have mp : (blockageWatch u).mp = s.mp := (blockageWatch_mp u).trans (congrArg State.mp arrived.only :)
  have fc : (blockageWatch u).fc = u.fc := by simp
  have stale : (blockageWatch u).mp.mode = .start → (blockageWatch u).SensorStaleFollows := fun start => by
    obtain ⟨-, follows, -⟩ := quiet (.inl (mp ▸ start))
    exact (arrived.stale follows).of_fc fc
  have told := State.BlockageSeen.told arrived (blockageWatch_seen u) fc stale (value .pumpPress) (value .retFlow)
  have line : (finish (startTest (blockageWatch u))).sr.line = s.sr.line := by
    have sent : ∀ x : State, (finish x).sr.line = x.sr.line := fun x =>
      congrArg (fun b : Blocks => b.sr.line) (finish_blocks x)
    have sr : u.sr = s.sr := (congrArg State.sr arrived.only :)
    rw [sent, (startTest_line _).1, (blockageWatch_line _).1, sr]
  have run : exec (.sampleArrival 19 v now) s = .next (finish (startTest (blockageWatch u))) := by
    have same : arrival .pumpPress v (s.begin now) = blockageWatch u := eq
    rw [← same, ← sample_arrival (c := .pumpPress) low high]
    rfl
  have began : u.runTime = now ∧ u.pending = s.pending ∧ u.counters = s.counters :=
    ⟨(congrArg State.runTime arrived.only :), (congrArg State.pending arrived.only :),
      (congrArg State.counters arrived.only :)⟩
  obtain ⟨time, pending, counters⟩ := began
  refine ⟨_, run, ?_, ?_, told, line, ?_⟩
  · simpa using time
  · simpa using pending
  · simpa using counters

/-- The trim and the pump command after a return flow sample, in the words of the statement (R174, R175). -/
def State.Trimmed (s t : State) (v : Int) : Prop :=
  let speed : Int → Int → Int := fun flow trim =>
    let c := -((-(flow * 1000)) / s.par .displacement)
    let x := (2 * (c * (1000 + trim)) + 1000) / 2000
    if x < 0 then 0 else if s.par .pumpMaxRpm < x then s.par .pumpMaxRpm else x
  let far := s.par .flowBand * s.sr.required < 100 * abs (v - s.sr.required)
  let trim := if v < s.sr.required then min 100 (s.sr.trim + 1) else max (-100) (s.sr.trim - 1)
  if t.mp.mode ≠ s.mp.mode then
    t.sr.trim = 0 ∧ (t.sr.pumpState = .idle → t.sr.command = speed (s.par .idleFlow) 0)
  else if s.sr.pumpState = .balance ∧ s.mp.mode = .auto ∧ t.fresh .retFlow = true then
    t.sr.trim = (if far then trim else s.sr.trim) ∧ t.sr.command = speed s.sr.required t.sr.trim
  else t.sr.trim = s.sr.trim ∧ t.sr.command = s.sr.command

theorem State.pumpFor_speed (s : State) (flow trim : Int) : s.pumpFor flow trim =
    let c := -((-(flow * 1000)) / s.par .displacement)
    let x := (2 * (c * (1000 + trim)) + 1000) / 2000
    if x < 0 then 0 else if s.par .pumpMaxRpm < x then s.par .pumpMaxRpm else x := rfl

/-- A measured flow moves the trim, and the command with it, in AUTO with the pump state BALANCE (R174, R175). -/
theorem adjustTrim_trimmed (v : Int) (s : State) :
    ((adjustTrim v s).sr.trim, (adjustTrim v s).sr.command) =
      if s.sr.pumpState = .balance ∧ s.mp.mode = .auto ∧ s.fresh .retFlow = true then
        (s.trimAfter v, s.pumpFor s.sr.required (s.trimAfter v))
      else (s.sr.trim, s.sr.command) := by
  unfold adjustTrim
  split
  · rename_i trims
    obtain ⟨balance, -⟩ := trims
    rw [recomputePump_eq]
    have command : ({ s with sr := { s.sr with trim := s.trimAfter v } } : State).pumpCommand =
        s.pumpFor s.sr.required (s.trimAfter v) := by
      unfold State.pumpCommand
      rw [balance]
      rfl
    rw [command]
  · rfl

theorem trimAfter_eq (s : State) (v : Int) : s.trimAfter v =
    if s.par .flowBand * s.sr.required < 100 * abs (v - s.sr.required) then
      if v < s.sr.required then min 100 (s.sr.trim + 1) else max (-100) (s.sr.trim - 1)
    else s.sr.trim := by
  unfold State.trimAfter
  dsimp only
  rw [magnitude_eq_abs]

/-- What the users of a return flow sample leave to the test of START's end. -/
structure State.FlowUsed (u z : State) (v : Int) : Prop where
  seen : u.BlockageSeen z
  time : z.runTime = u.runTime
  pending : z.pending = u.pending
  params : z.params = u.params
  mp : z.mp = u.mp
  fc : z.fc = u.fc
  state : z.sr.pumpState = u.sr.pumpState
  trimmed : (z.sr.trim, z.sr.command) =
    if u.sr.pumpState = .balance ∧ u.mp.mode = .auto ∧ u.fresh .retFlow = true then
      (u.trimAfter v, u.pumpFor u.sr.required (u.trimAfter v))
    else (u.sr.trim, u.sr.command)

/-- The pumped volume leaves the pump, the trim and the watches (R188). -/
theorem pumpedVolume_pump (f : Int) (s : State) :
    (pumpedVolume f s).watch = s.watch ∧ (pumpedVolume f s).sr.pumpState = s.sr.pumpState ∧
    (pumpedVolume f s).sr.trim = s.sr.trim ∧ (pumpedVolume f s).sr.command = s.sr.command := by
  unfold State.watch
  rw [pumpedVolume_sr]
  exact ⟨rfl, rfl, rfl, rfl⟩

theorem adjustTrim_pump (v : Int) (s : State) :
    (adjustTrim v s).watch = s.watch ∧ (adjustTrim v s).sr.pumpState = s.sr.pumpState ∧ (adjustTrim v s).tu = s.tu ∧
    (adjustTrim v s).mp = s.mp := by
  rw [adjustTrim_eq]
  exact ⟨rfl, rfl, rfl, rfl⟩

theorem passValue_flowUsed (v : Int) {u : State} (h : u.sr.returnBlocked = true → u.GroupsFollow) :
    u.FlowUsed (passValue .retFlow v u) v := by
  have seen := blockageWatch_seen u
  obtain ⟨timer, on, tu, eq⟩ : ∃ timer on tu, blockageWatch u =
      { u with sr := { u.sr with blockTimer := timer, returnBlocked := on }, tu := tu } := ⟨_, _, _, blockageWatch_quiet h⟩
  have trims := adjustTrim_trimmed v (blockageWatch u)
  obtain ⟨watch, state, trips, mode⟩ := adjustTrim_pump v (blockageWatch u)
  obtain ⟨watchP, stateP, trimP, commandP⟩ := pumpedVolume_pump v (gatherFlow v (adjustTrim v (blockageWatch u)))
  obtain ⟨time, params, -, mp, fc, -, -, -, tuP, -, -, pending⟩ :=
    pumpedVolume_keeps v (gatherFlow v (adjustTrim v (blockageWatch u)))
  have gathered : gatherFlow v (adjustTrim v (blockageWatch u)) = { adjustTrim v (blockageWatch u) with
      di := (gatherFlow v (adjustTrim v (blockageWatch u))).di } := rfl
  show u.FlowUsed (pumpedVolume v (gatherFlow v (adjustTrim v (blockageWatch u)))) v
  generalize pumpedVolume v (gatherFlow v (adjustTrim v (blockageWatch u))) = z at *
  rw [gathered] at time params mp fc tuP pending watchP stateP trimP commandP
  refine ⟨seen.of_same (congrArg ReturnWatch.blocked (watchP.trans watch)) (congrArg ReturnWatch.timer (watchP.trans watch))
    (tuP.trans trips), by simpa using time, by simpa using pending, by simpa using params,
    (mp.trans mode).trans (blockageWatch_mp u), by simpa using fc, (stateP.trans state).trans ?_, ?_⟩
  · rw [eq]
  · rw [trimP, commandP]
    refine trims.trans ?_
    rw [eq]
    rfl

/-- A return flow sample (R48, R175, R180). -/
theorem retFlow_event {s : State} {v : Int} (now : RunTime) (low : -10000 ≤ v) (high : v ≤ 10000)
    (blocked : s.sr.returnBlocked = true → s.GroupsFollow)
    (quiet : s.mp.mode = .start ∨ (s.chan .retFlow).state = .absent → s.ArrivalQuiet) :
    ∃ t, exec (.sampleArrival 20 v now) s = .next t ∧ t.runTime = now ∧ t.pending = s.pending ∧
      s.Watched t now .retFlow (s.value .pumpPress) v ∧ s.Trimmed t v := by
  obtain ⟨u, arrived, eq⟩ := arrival_quiet (c := .retFlow) rfl (s := s.begin now) v fun absent => quiet (.inr absent)
  have sr : u.sr = s.sr := (congrArg State.sr arrived.only :)
  have mp : u.mp = s.mp := (congrArg State.mp arrived.only :)
  have waits : u.pending = s.pending := (congrArg State.pending arrived.only :)
  have used := passValue_flowUsed v (u := u) fun h => arrived.groups (blocked (sr ▸ h))
  have run : exec (.sampleArrival 20 v now) s = .next (finish (startTest (passValue .retFlow v u))) := by
    rw [← eq, ← sample_arrival (c := .retFlow) low high]
    rfl
  generalize passValue .retFlow v u = z at *
  obtain ⟨time, par, -, -, value⟩ := arrived.reads
  have stale : z.mp.mode = .start → z.SensorStaleFollows := fun start => by
    rw [used.mp, mp] at start
    obtain ⟨-, follows, -⟩ := quiet (.inl start)
    exact (arrived.stale follows).of_fc used.fc
  have told := State.BlockageSeen.told arrived used.seen used.fc stale (value .pumpPress) (value .retFlow)
  obtain ⟨-, -, -, channels, ends⟩ := startTest_stands stale
  refine ⟨_, run, ?_, ?_, told, ?_⟩
  · simpa using used.time.trans time
  · simpa using used.pending.trans waits
  · have fresh : u.fresh .retFlow = (finish (startTest z)).fresh .retFlow := by
      have fc : (finish (startTest z)).fc.channels = u.fc.channels := by
        rw [(by simp : (finish (startTest z)).fc = (startTest z).fc), channels, used.fc]
      rw [State.fresh_congr fc]
    have pump : ∀ x : State, (finish x).sr.trim = x.sr.trim ∧ (finish x).sr.command = x.sr.command ∧
        (finish x).sr.pumpState = x.sr.pumpState ∧ (finish x).mp = x.mp := fun x => by
      have blocks := finish_blocks x
      exact ⟨congrArg (fun b : Blocks => b.sr.trim) blocks, congrArg (fun b : Blocks => b.sr.command) blocks,
        congrArg (fun b : Blocks => b.sr.pumpState) blocks, congrArg Blocks.mp blocks⟩
    obtain ⟨trim, command, state, mode⟩ := pump (startTest z)
    unfold State.Trimmed
    dsimp only
    rw [trim, command, state, mode, ← fresh]
    rcases ends with same | ⟨start, ends⟩
    · rw [same, used.mp, mp, if_neg (not_not.2 rfl)]
      have trimmed := used.trimmed
      rw [sr, mp] at trimmed
      split
      · rename_i trims
        rw [if_pos trims] at trimmed
        obtain ⟨moved, follows⟩ := Prod.mk.inj trimmed
        rw [follows, moved, trimAfter_eq, State.pumpFor_speed, sr]
        simp only [par, and_self]
      · rename_i stays
        rw [if_neg stays] at trimmed
        exact Prod.mk.inj trimmed
    · have began : z.startOver.mp.mode = .start := start
      have was : s.mp.mode = .start := by rw [← mp, ← used.mp]; exact start
      have entered := changeMode_sr (m := .standby) (s := z.startOver) (by rw [began]; decide)
      have parZ : ∀ p, z.startOver.par p = s.par p := fun p => by
        rw [← par, State.par, State.par, ← used.params]
        rfl
      dsimp only at entered
      rw [ends, changeMode_mp, was]
      dsimp only
      rw [if_pos (by decide)]
      refine ⟨congrArg Slurry.trim entered, fun idle => ?_⟩
      rw [congrArg Slurry.command entered]
      dsimp only
      rw [idle, State.pumpFor_speed]
      simp only [parZ]

end Sys2Proof.Machine

open Sys2Proof Sys2Proof.Machine in
/-- Settles O51: the density watch (`DensityWatched`), the blockage watch (`State.BlockageSeen`) and the trim. -/
theorem returnLineWatches : Obligations.ReturnLineWatches := by
  unfold Obligations.ReturnLineWatches
  intro s v now speed
  refine ⟨fun low high => ?_, ?_⟩
  · have watched := (arrival_densityWatched v (s.begin now)).finish
    have run : exec (.sampleArrival 21 v now) s = .next (finish (startTest (arrival .retDens v (s.begin now)))) := by
      rw [← sample_arrival (c := .retDens) low high]
      rfl
    obtain ⟨soft, heavy, active, latched, limit⟩ := watched.clauses
    refine ⟨_, run, by simp, by simp, soft, heavy, active, latched, limit, fun empty => ?_, fun head behind h => ?_⟩
    · have same : (densitySample v (s.begin now)).sr.line = [] := by
        have began : (s.begin now).sr.line = [] := empty
        unfold densitySample
        rw [began]
        exact began
      exact watched.line.trans same
    · exact watched.line.trans (densitySample_head (s := s.begin now) v h)
  · exact ⟨fun quiet low high => pumpPress_event now low high quiet,
      fun quiet low high blocked => retFlow_event now low high blocked quiet⟩
end

section
/-! O30: the judgement of the channels, and what the reports of the changed ones leave of FC, DI and the causes. -/

namespace Sys2Proof.Machine

/-! ### The judgement (R49) -/

/-- The table of R49. -/
theorem ChannelEntry.judged_eq (e : ChannelEntry) (threshold : Nat) : e.judged threshold =
    if e.state = .absent then { e with windowCount := 0 }
    else if e.unjudged = true then { e with unjudged := false, windowCount := 0 }
    else if e.state = .fresh then
      if threshold ≤ e.windowCount then { e with windowCount := 0 }
      else { e with state := .stale, good := 0, windowCount := 0 }
    else if ¬threshold ≤ e.windowCount then { e with good := 0, windowCount := 0 }
    else if e.good = 0 then { e with good := 1, windowCount := 0 }
    else { e with state := .fresh, good := 0, windowCount := 0 } := by
  unfold ChannelEntry.judged
  cases state : e.state with
  | absent => simp
  | fresh => simp
  | stale => simp [not_le]

theorem judgeAll_chan (s : State) (c : Channel) : (judgeAll s).chan c = (s.chan c).judged c.threshold := by
  have judges : ∀ (l : List Channel) (u : State), l.Nodup →
      (l.foldl (fun t d => t.setChan d ((t.chan d).judged d.threshold)) u).chan c =
        if c ∈ l then (u.chan c).judged c.threshold else u.chan c := fun l => by
    induction l with
    | nil => simp
    | cons d l ih =>
      intro u once
      obtain ⟨fresh, once⟩ := List.nodup_cons.1 once
      rw [List.foldl_cons, ih _ once]
      by_cases same : c = d
      · subst same
        rw [if_neg fresh, if_pos List.mem_cons_self, State.chan_setChan_same]
      · rw [State.chan_setChan_other _ _ _ _ (Ne.symm same)]
        simp only [List.mem_cons, same, false_or]
  have once : Channel.all.Nodup := by decide
  exact (judges Channel.all s once).trans (if_pos (Channel.mem_all c))

/-! ### What a report tells -/

/-- The state of DI after a report: a derivation hands the slope over, and a DEPTH or TWIST channel that has left FRESH
marks the open record (R66, R84). -/
theorem channelReport_di (c : Channel) (s : State) : (channelReport c s).di =
    match c with
    | .incl _ a => (s.derived a).di
    | .depth | .twist => if s.fresh c = false then (markEstimated s).di else s.di
    | _ => s.di := by
  unfold channelReport
  cases c with
  | incl m a => exact derive_di a s
  | depth =>
    dsimp only
    cases s.fresh .depth <;> rfl
  | twist =>
    dsimp only
    cases s.fresh .twist <;> rfl
  | retDens => rfl
  | _ => dsimp only; split <;> simp

/-- The reports of the channels `l` have been made in `s`, each by its channel as it stands (R33, R50, R55 to R60). -/
structure State.Told (s : State) (l : List Channel) (u : State) : Prop where
  time : u.runTime = s.runTime
  params : u.params = s.params
  fc : u.fc = { s.fc with
    slopes := u.fc.slopes, inclDisagree := u.fc.inclDisagree, inclLimit := u.fc.inclLimit }
  derived : ∀ m a, .incl m a ∈ l →
    u.fc.slopes.get a = s.derivedSlope a ∧ u.di.copies.get a = (s.derivedSlope a).copy
  stands : ∀ a, (∀ m, .incl m a ∉ l) →
    u.fc.slopes.get a = s.fc.slopes.get a ∧ u.di.copies.get a = s.di.copies.get a
  tilts : (∃ m a, .incl m a ∈ l) → u.fc.inclLimit = u.tilted ∧ u.mp.holdCauses.slope = u.slopeless ∧
    (u.fc.inclDisagree = true → ∃ a, (u.fc.slopes.get a).disagreeing = true)
  level : (∀ m a, .incl m a ∉ l) → u.fc.inclLimit = s.fc.inclLimit ∧ u.mp.holdCauses.slope = s.mp.holdCauses.slope
  disagree : u.fc.inclDisagree = true → s.fc.inclDisagree = true
  mp : u.mp = { s.mp with holdCauses := ⟨s.mp.holdCauses.link,
    if .depth ∈ l then !s.fresh .depth else s.mp.holdCauses.depth, u.mp.holdCauses.slope⟩ }
  source : ∀ j, j ≠ Source.inclLimit → j ≠ Source.inclDisagree → u.source j = s.source j

theorem State.Told.refl (s : State) : s.Told [] s :=
  ⟨rfl, rfl, rfl, fun _ _ h => absurd h List.not_mem_nil, fun _ _ => ⟨rfl, rfl⟩, fun ⟨_, _, h⟩ => absurd h List.not_mem_nil,
    fun _ => ⟨rfl, rfl⟩, id, rfl, fun _ _ _ => rfl⟩

/-- A slope is derived from the channels, the parameters, the run time and the slope as it was. -/
theorem State.derivedSlope_congr {s t : State} {a : Axis} (channels : t.fc.channels = s.fc.channels)
    (params : t.params = s.params) (time : t.runTime = s.runTime) (old : t.fc.slopes.get a = s.fc.slopes.get a) :
    t.derivedSlope a = s.derivedSlope a := by
  have raw : t.rawSlope = s.rawSlope := by
    funext b
    unfold State.rawSlope State.value
    rw [State.fresh_congr channels, State.chan_congr channels]
  have apart : t.disagrees = s.disagrees := by
    funext b
    unfold State.disagrees State.value State.par
    rw [State.slopeCase_congr channels, State.chan_congr channels, params]
  unfold State.derivedSlope State.timer State.par
  rw [State.slopeCase_congr channels, raw, apart, old, params, time]

namespace State.Told

variable {s u : State} {l : List Channel}

theorem channels (h : s.Told l u) : u.fc.channels = s.fc.channels := by rw [h.fc]

/-- Derived the first time or again, the slope is the one of `s`. -/
theorem derivedSlope (h : s.Told l u) (a : Axis) : u.derivedSlope a = s.derivedSlope a := by
  by_cases told : ∃ m, Channel.incl m a ∈ l
  · obtain ⟨m, mem⟩ := told
    have once := derive_derives a s
    have slope : (derive a s).fc.slopes.get a = s.derivedSlope a := by
      rw [once.slopes, PerAxis.get_set, if_pos rfl]
    rw [State.derivedSlope_congr (s := derive a s) (h.channels.trans once.channels.symm) (h.params.trans once.params.symm)
      (h.time.trans once.time.symm) ((h.derived m a mem).1.trans slope.symm)]
    exact once.derivedSlope
  · exact State.derivedSlope_congr h.channels h.params h.time (h.stands a fun m mem => told ⟨m, mem⟩).1

theorem reportIncl (h : s.Told l u) (m : Mount) (a : Axis) : s.Told (l ++ [.incl m a]) (channelReport (.incl m a) u) := by
  have next := derive_derives a u
  have fc := derive_fc a u
  have mp := derive_mp a u
  have source : ∀ j, j ≠ Source.inclLimit → j ≠ Source.inclDisagree → (derive a u).source j = u.source j :=
    fun j limit disagree => derive_source a limit disagree u
  rw [(u.derived_fields a).1] at fc
  rw [(u.derived_fields a).2.1] at mp
  have told := h.derivedSlope a
  show s.Told _ (derive a u)
  generalize derive a u = t at *
  have mem : ∀ b k, Channel.incl k b ∈ l ++ [Channel.incl m a] ↔ Channel.incl k b ∈ l ∨ k = m ∧ b = a := by simp
  have slopes : ∀ b, t.fc.slopes.get b = if b = a then s.derivedSlope a else u.fc.slopes.get b := fun b => by
    rw [next.slopes, PerAxis.get_set, told]
  have copies : ∀ b, t.di.copies.get b = if b = a then (s.derivedSlope a).copy else u.di.copies.get b := fun b => by
    rw [next.copies, PerAxis.get_set, told]
  refine ⟨next.time.trans h.time, next.params.trans h.params, ?_, fun k b here => ?_, fun b never => ?_, fun _ => ?_,
    fun never => absurd ((mem a m).2 (.inr ⟨rfl, rfl⟩)) (never m a), fun on => ?_, ?_, fun j limit disagree => ?_⟩
  · rw [fc, h.fc]
  · rw [slopes, copies]
    by_cases same : b = a
    · subst same
      rw [if_pos rfl, if_pos rfl]
      exact ⟨rfl, rfl⟩
    · rw [if_neg same, if_neg same]
      exact h.derived k b (((mem b k).1 here).resolve_right fun e => same e.2)
  · have other : b ≠ a := fun same => never m ((mem b m).2 (.inr ⟨rfl, same⟩))
    rw [slopes, copies, if_neg other, if_neg other]
    exact h.stands b fun k here => never k ((mem b k).2 (.inl here))
  · refine ⟨next.limit, ?_, fun on => ?_⟩
    · rw [next.causes]
    · rw [next.disagree, Bool.and_eq_true, Bool.or_eq_true] at on
      exact on.2.elim (fun x => ⟨.x, x⟩) fun y => ⟨.y, y⟩
  · rw [next.disagree, Bool.and_eq_true] at on
    exact h.disagree on.1
  · rw [mp, h.mp]
    simp
  · rw [source j limit disagree, h.source j limit disagree]

theorem reportOther (h : s.Told l u) {c : Channel} (other : ∀ m a, c ≠ .incl m a) :
    s.Told (l ++ [c]) (channelReport c u) := by
  have fc : (channelReport c u).fc = u.fc := by
    rw [channelReport_fc]
    cases c with
    | incl m a => exact absurd rfl (other m a)
    | _ => rfl
  have copies : (channelReport c u).di.copies = u.di.copies := by
    rw [channelReport_di]
    cases c with
    | incl m a => exact absurd rfl (other m a)
    | depth | twist => dsimp only; split <;> rfl
    | _ => rfl
  have mp : (channelReport c u).mp = { u.mp with holdCauses := { u.mp.holdCauses with
      depth := if .depth = c then !u.fresh .depth else u.mp.holdCauses.depth } } := by
    rw [channelReport_mp]
    cases c with
    | incl m a => exact absurd rfl (other m a)
    | _ => rfl
  have source := fun j limit disagree => channelReport_source c (j := j) limit disagree u
  obtain ⟨time, params, -⟩ := channelReport_keeps c u
  have mem : ∀ m a, Channel.incl m a ∈ l ++ [c] ↔ Channel.incl m a ∈ l := fun m a => by simp [Ne.symm (other m a)]
  have fresh : u.fresh = s.fresh := State.fresh_congr h.channels
  generalize channelReport c u = t at *
  have tilted : t.tilted = u.tilted := by
    unfold State.tilted State.par
    rw [params, fc]
  have slopeless : t.slopeless = u.slopeless := by
    unfold State.slopeless
    rw [fc]
  refine ⟨time.trans h.time, params.trans h.params, ?_, fun m a here => ?_, fun a never => ?_, fun some => ?_,
    fun never => ?_, ?_, ?_, fun j limit disagree => (source j limit disagree).trans (h.source j limit disagree)⟩
  · rw [fc]
    exact h.fc
  · rw [fc, copies]
    exact h.derived m a ((mem m a).1 here)
  · rw [fc, copies]
    exact h.stands a fun m here => never m ((mem m a).2 here)
  · obtain ⟨m, a, here⟩ := some
    rw [fc, mp, tilted, slopeless]
    exact h.tilts ⟨m, a, (mem m a).1 here⟩
  · rw [fc, mp]
    exact h.level fun m a here => never m a ((mem m a).2 here)
  · rw [fc]
    exact h.disagree
  · rw [mp, h.mp, fresh]
    by_cases depth : Channel.depth = c
    · simp [depth]
    · simp [depth]

theorem report (h : s.Told l u) (c : Channel) : s.Told (l ++ [c]) (channelReport c u) := by
  cases c with
  | incl m a => exact h.reportIncl m a
  | _ => exact h.reportOther fun _ _ => Channel.noConfusion

/-- The reports in their order. -/
theorem reports (h : s.Told l u) (rest : List Channel) :
    s.Told (l ++ rest) (rest.foldl (fun t c => channelReport c t) u) := by
  induction rest generalizing l u with
  | nil => simpa using h
  | cons c rest ih =>
    have step := ih (h.report c)
    rwa [List.append_assoc] at step

end State.Told

end Sys2Proof.Machine
end

section
/-! O30: a stall timer that has stopped stays so to the end of the event, and what the reports leave of SR's watch and of
the open record. -/

namespace Sys2Proof.Machine

/-! ### Stall timers (R162) -/

/-- The stall timer of a wheel does not run. -/
def State.Unwatched (w : WheelId) (s : State) : Prop := (s.wheel w).stallTimer = none

theorem State.Unwatched.of_wd {w : WheelId} {s t : State} (h : s.Unwatched w) (wd : t.wd = s.wd) : t.Unwatched w := by
  unfold State.Unwatched State.wheel at h ⊢
  rw [wd]
  exact h

theorem setApplied_stallTimer (d : Int) (s : State) (w : WheelId) :
    ((setApplied d s).wheel w).stallTimer = (s.wheel w).stallTimer := by
  unfold setApplied
  split
  · rfl
  · rw [formTargets_wheel]
    rfl

/-- The wheel that changes has the stall timer given, the other keeps its own. -/
theorem changeWheel_stallTimer (w x : WheelId) (v : Wheel) (s : State) :
    ((changeWheel w v s).wheel x).stallTimer = if x = w then v.stallTimer else (s.wheel x).stallTimer := by
  have put : ((s.putWheel w v).wheel x).stallTimer = if x = w then v.stallTimer else (s.wheel x).stallTimer := by
    rw [State.wheel_putWheel]
    split <;> rfl
  unfold changeWheel
  dsimp only
  split
  · exact (setApplied_stallTimer 0 _ x).trans put
  · exact put

theorem changeWheel_unwatched {w x : WheelId} {v : Wheel} {s : State} (h : s.Unwatched x)
    (stops : x = w → v.stallTimer = none) : (changeWheel w v s).Unwatched x := by
  unfold State.Unwatched
  rw [changeWheel_stallTimer]
  split
  · exact stops ‹_›
  · exact h

theorem wheelTripped_unwatched (w : WheelId) {x : WheelId} {s : State} (h : s.Unwatched x) :
    (wheelTripped w s).Unwatched x := by
  unfold wheelTripped
  dsimp only
  split
  case h_5 => exact changeWheel_unwatched h fun same => same ▸ h
  case h_6 | h_7 => exact h
  all_goals exact changeWheel_unwatched h fun _ => rfl

theorem groupReport_unwatched (g : Group) (b : Bool) {x : WheelId} {s : State} (h : s.Unwatched x) :
    (groupReport g b s).Unwatched x := by
  cases g with
  | wheel w =>
    cases b
    · exact h
    · exact wheelTripped_unwatched w h
  | plates => cases b <;> exact h
  | pump => cases b <;> exact h.of_wd (by simp [groupReport])
  | feed => exact h

theorem setSource_unwatched (i : Source) (st : SourceState) {x : WheelId} {s : State} (h : s.Unwatched x) :
    (setSource i st s).Unwatched x := by
  unfold setSource
  rw [recomputeGroups_eq]
  refine foldl_preserves (State.Unwatched x) _ (fun u g hu => ?_) _ _ h
  unfold reportGroup
  split
  · exact hu
  · exact groupReport_unwatched _ _ hu

/-- A condition other than EMERGENCY sets its source, and reports that it has become present, or does nothing (R203). -/
theorem tellChange_shape {i : Source} (other : i ≠ Source.emergency) (old now : Bool) (s : State) :
    tellChange i old now s = s ∨ ∃ st, tellChange i old now s = setSource i st s ∨
      tellChange i old now s = (setSource i st s).report (.trip i) := by
  have present : ∀ u : State, (if i = Source.emergency then emergencyStandby u else u) = u := fun u => if_neg other
  unfold tellChange
  by_cases same : now = old
  · exact .inl (if_pos same)
  · rw [if_neg same]
    unfold condition
    cases s.source i <;> cases now <;> dsimp only
    · exact .inl rfl
    · exact .inr ⟨_, .inr (present _)⟩
    · exact .inr ⟨_, .inl rfl⟩
    · exact .inl rfl
    · exact .inl rfl
    · exact .inr ⟨_, .inr (present _)⟩

theorem tellChange_unwatched {i : Source} (other : i ≠ Source.emergency) (old now : Bool) {x : WheelId} {s : State}
    (h : s.Unwatched x) : (tellChange i old now s).Unwatched x := by
  rcases tellChange_shape other old now s with same | ⟨st, set | told⟩
  · rw [same]
    exact h
  · rw [set]
    exact setSource_unwatched i st h
  · rw [told]
    exact setSource_unwatched i st h

theorem Wheel.enter_stallTimer (old mode : Mode) {v : Wheel} (h : v.stallTimer = none) :
    (v.enter old mode).stallTimer = none := by
  by_cases drops : v.Dropped old mode
  · rw [Wheel.enter_dropped drops]
    split
    · rfl
    · exact h
  · rw [Wheel.enter_kept drops, h]

theorem changeMode_unwatched (m : Mode) {x : WheelId} {s : State} (h : s.Unwatched x) : (changeMode m s).Unwatched x := by
  by_cases other : s.mp.mode = m
  · rw [changeMode, if_pos other]
    exact h
  · obtain ⟨-, u, -, -, wheels⟩ := changeMode_wheels other
    unfold State.Unwatched
    rw [wheels]
    exact Wheel.enter_stallTimer _ _ h

theorem holdTest_unwatched {x : WheelId} {s : State} (h : s.Unwatched x) : (holdTest s).Unwatched x := by
  rw [holdTest_eq]
  refine changeMode_unwatched _ (h.of_wd ?_)
  unfold State.holdCounted
  split <;> simp

theorem sensorStaleWatch_unwatched {x : WheelId} {s : State} (h : s.Unwatched x) : (sensorStaleWatch s).Unwatched x := by
  rw [sensorStaleWatch_eq]
  exact tellChange_unwatched (by decide) _ _ h

theorem derive_unwatched (a : Axis) {x : WheelId} {s : State} (h : s.Unwatched x) : (derive a s).Unwatched x := by
  rw [derive_eq, inclLimitWatch_eq]
  refine tellChange_unwatched (by decide) _ _ ?_
  show (disagreeWatch (s.derived a)).Unwatched x
  rw [disagreeWatch_eq]
  exact tellChange_unwatched (by decide) _ _ h

theorem wheelChannelLeft_unwatched (w : WheelId) {x : WheelId} {s : State} (h : s.Unwatched x) :
    (wheelChannelLeft w s).Unwatched x := changeWheel_unwatched h fun _ => rfl

/-- The report of a wheel's channel that has left FRESH stops its stall timer (R162). -/
theorem wheelChannelLeft_stops (w : WheelId) (s : State) : (wheelChannelLeft w s).Unwatched w := by
  unfold State.Unwatched wheelChannelLeft
  rw [changeWheel_stallTimer, if_pos rfl]

theorem channelReport_unwatched (c : Channel) {x : WheelId} {s : State} (h : s.Unwatched x) :
    (channelReport c s).Unwatched x := by
  unfold channelReport
  cases c with
  | incl m a => exact derive_unwatched a h
  | speed w | press w =>
    dsimp only
    split
    · exact wheelChannelLeft_unwatched w h
    · exact h
  | retDens => exact h
  | _ => dsimp only; split <;> exact h.of_wd (by simp)

/-- What the report of a channel that has left FRESH brings about, and every report keeps, holds after reports among
which it is. -/
theorem channelReports_settle {P : State → Prop} {c : Channel} (keeps : ∀ d t, P t → P (channelReport d t))
    (settles : ∀ t : State, t.fresh c = false → P (channelReport c t)) (l : List Channel) :
    ∀ u : State, c ∈ l → u.fresh c = false → P (l.foldl (fun t d => channelReport d t) u) := by
  induction l with
  | nil => exact fun _ mem => absurd mem List.not_mem_nil
  | cons d l ih =>
    intro u mem left
    rw [List.foldl_cons]
    by_cases now : c = d
    · subst now
      exact foldl_preserves P _ (fun t e h => keeps e t h) _ _ (settles u left)
    · refine ih _ ((List.mem_cons.1 mem).resolve_left now) ?_
      rw [State.fresh_congr (channelReport_channels d u)]
      exact left

/-- A wheel that loses a channel among those reported has no stall timer after the reports (R162). -/
theorem channelReports_unwatched {c : Channel} {w : WheelId} (mine : c = .speed w ∨ c = .press w) (l : List Channel)
    (u : State) (mem : c ∈ l) (left : u.fresh c = false) : (l.foldl (fun t d => channelReport d t) u).Unwatched w := by
  refine channelReports_settle (fun d t h => channelReport_unwatched d h) (fun t gone => ?_) l u mem left
  have stops : channelReport c t = wheelChannelLeft w t := by
    rcases mine with rfl | rfl
    · show (if (!t.fresh (.speed w)) = true then wheelChannelLeft w t else t) = _
      rw [gone]
      rfl
    · show (if (!t.fresh (.press w)) = true then wheelChannelLeft w t else t) = _
      rw [gone]
      rfl
  rw [stops]
  exact wheelChannelLeft_stops w t

/-! ### SR's watch (R180) -/

theorem derive_watch (a : Axis) (s : State) : (derive a s).watch = s.watch := by
  rw [derive_eq, inclLimitWatch_eq, tellChange_watch]
  show (disagreeWatch (s.derived a)).watch = s.watch
  rw [disagreeWatch_eq, tellChange_watch]
  rfl

/-- The report of a pump channel that has left FRESH stops the blockage timer, and no report touches SR's other watches
(R50, R180). -/
theorem channelReport_watch (c : Channel) (s : State) : (channelReport c s).watch = { s.watch with
    timer := if (c = .pumpPress ∨ c = .retFlow) ∧ s.fresh c = false then none else s.watch.timer } := by
  have same : ∀ {t : State}, t.sr = s.sr → t.watch = s.watch := fun h => by rw [State.watch, h, State.watch]
  unfold channelReport
  cases c with
  | incl m a => simpa using derive_watch a s
  | speed w | press w =>
    dsimp only
    split
    · rw [wheelChannelLeft, changeWheel_watch]
      simp
    · simp
  | pumpPress | retFlow =>
    dsimp only
    cases fresh : s.fresh _ <;> simp [blockageSuspend, State.watch]
  | retDens => simp
  | _ =>
    dsimp only
    split <;> simp [same]

theorem channelReports_blocked (l : List Channel) (u : State) :
    (l.foldl (fun t d => channelReport d t) u).watch.blocked = u.watch.blocked :=
  foldl_keeps _ (fun t : State => t.watch.blocked) (fun t d => (congrArg ReturnWatch.blocked (channelReport_watch d t) :)) l u

/-- A pump channel among those reported that has left FRESH leaves no blockage timer (R180). -/
theorem channelReports_suspended {c : Channel} (mine : c = .pumpPress ∨ c = .retFlow) (l : List Channel) (u : State)
    (mem : c ∈ l) (left : u.fresh c = false) : (l.foldl (fun t d => channelReport d t) u).watch.timer = none := by
  refine channelReports_settle (P := fun t => t.watch.timer = none) (fun d t h => ?_) (fun t gone => ?_) l u mem left
  · rw [channelReport_watch]
    dsimp only
    rw [h, ite_self]
  · rw [channelReport_watch]
    exact if_pos ⟨mine, gone⟩

/-! ### The open record (R84) -/

/-- Reports leave the track, the log and the ring, keep the open record's station, and take no ESTIMATED mark away. -/
structure Integrator.Marked (d e : Integrator) : Prop where
  track : e.path = d.path ∧ e.depth = d.depth ∧ e.log = d.log ∧ e.ring = d.ring
  station : e.openRecord.map OpenRecord.station = d.openRecord.map OpenRecord.station
  estimated : (∀ q, d.openRecord = some q → q.flags.estimated = true) →
    ∀ q, e.openRecord = some q → q.flags.estimated = true

theorem Integrator.Marked.refl (d : Integrator) : d.Marked d := ⟨⟨rfl, rfl, rfl, rfl⟩, rfl, id⟩

theorem Integrator.Marked.trans {d e f : Integrator} (h : d.Marked e) (k : e.Marked f) : d.Marked f := by
  obtain ⟨⟨path, depth, log, ring⟩, station, estimated⟩ := h
  obtain ⟨⟨path', depth', log', ring'⟩, station', estimated'⟩ := k
  exact ⟨⟨path'.trans path, depth'.trans depth, log'.trans log, ring'.trans ring⟩, station'.trans station,
    fun all => estimated' (estimated all)⟩

theorem markEstimated_marked (s : State) : s.di.Marked (markEstimated s).di := by
  refine ⟨⟨rfl, rfl, rfl, rfl⟩, ?_, fun _ q h => ?_⟩
  · show (s.di.openRecord.map _).map _ = _
    rw [Option.map_map]
    rfl
  · obtain ⟨r, -, rfl⟩ := Option.map_eq_some_iff.1 h
    rfl

theorem derived_marked (a : Axis) (s : State) : s.di.Marked (s.derived a).di := by
  refine ⟨⟨rfl, rfl, rfl, rfl⟩, ?_, fun all q h => ?_⟩
  · show (s.di.openRecord.map _).map _ = _
    rw [Option.map_map]
    rfl
  · obtain ⟨r, was, rfl⟩ := Option.map_eq_some_iff.1 h
    have mark := all r was
    simp [OpenFlags.withSlope, mark]

theorem channelReport_marked (c : Channel) (s : State) : s.di.Marked (channelReport c s).di := by
  rw [channelReport_di]
  cases c with
  | incl m a => exact derived_marked a s
  | depth | twist =>
    dsimp only
    split
    · exact markEstimated_marked s
    · exact .refl s.di
  | _ => exact .refl s.di

theorem channelReports_marked (l : List Channel) (u : State) :
    u.di.Marked (l.foldl (fun t d => channelReport d t) u).di :=
  foldl_preserves (fun t => u.di.Marked t.di) _ (fun t d h => h.trans (channelReport_marked d t)) l u (.refl u.di)

/-- A DEPTH or TWIST channel that has left FRESH leaves an open record ESTIMATED (R84). -/
theorem channelReports_estimated {c : Channel} (mine : c = .depth ∨ c = .twist) (l : List Channel) (u : State)
    (mem : c ∈ l) (left : u.fresh c = false) :
    ∀ q, (l.foldl (fun t d => channelReport d t) u).di.openRecord = some q → q.flags.estimated = true := by
  refine channelReports_settle (P := fun t => ∀ q, t.di.openRecord = some q → q.flags.estimated = true)
    (fun d t h => (channelReport_marked d t).estimated h) (fun t gone q h => ?_) l u mem left
  have marks : (channelReport c t).di = (markEstimated t).di := by
    rw [channelReport_di]
    rcases mine with rfl | rfl <;> exact if_pos gone
  rw [marks] at h
  obtain ⟨r, -, rfl⟩ := Option.map_eq_some_iff.1 h
  rfl

end Sys2Proof.Machine
end

section
/-! O30: the move in flight of a plate whose channel leaves FRESH ends FAILED (R147, R149), and stays counted. -/

namespace Sys2Proof.Machine

/-! ### What PM is handed at a trip (R152, R153) -/

/-- PM after hand-offs that at most abort the move: the faulty marks and the targets stand. -/
structure Manifold.Handed (a b : Manifold) : Prop where
  faulty : b.faulty = a.faulty
  targets : b.targets = a.targets
  move : b.move = a.move ∨ b.move = none

theorem Manifold.Handed.refl (a : Manifold) : a.Handed a := ⟨rfl, rfl, .inl rfl⟩

theorem Manifold.Handed.trans {a b c : Manifold} (h : a.Handed b) (k : b.Handed c) : a.Handed c := by
  refine ⟨k.faulty.trans h.faulty, k.targets.trans h.targets, ?_⟩
  rcases k.move with same | none
  · rw [same]
    exact h.move
  · exact .inr none

theorem groupReport_handed (g : Group) (b : Bool) (s : State) : s.pm.Handed (groupReport g b s).pm := by
  have same : ∀ {t : State}, t.pm = s.pm → s.pm.Handed t.pm := fun h => h ▸ .refl s.pm
  cases g with
  | plates =>
    cases b
    · exact ⟨rfl, rfl, .inl rfl⟩
    · exact ⟨rfl, rfl, .inr rfl⟩
  | wheel w => cases b <;> exact same (by simp [groupReport])
  | pump => cases b <;> exact same (by simp [groupReport])
  | feed => exact same rfl

theorem setSource_handed (i : Source) (st : SourceState) (s : State) : s.pm.Handed (setSource i st s).pm := by
  unfold setSource
  rw [recomputeGroups_eq]
  refine foldl_preserves (fun t : State => s.pm.Handed t.pm) _ (fun u g h => ?_) _ _ (.refl s.pm)
  unfold reportGroup
  split
  · exact h
  · exact h.trans (groupReport_handed _ _ u)

theorem tellChange_handed {i : Source} (other : i ≠ Source.emergency) (old now : Bool) {a : Manifold} {s : State}
    (h : a.Handed s.pm) : a.Handed (tellChange i old now s).pm := by
  rcases tellChange_shape other old now s with same | ⟨st, set | told⟩
  · rw [same]
    exact h
  · rw [set]
    exact h.trans (setSource_handed i st s)
  · rw [told]
    exact h.trans (setSource_handed i st s)

theorem derive_handed (a : Axis) (s : State) : s.pm.Handed (derive a s).pm := by
  have derived : (s.derived a).pm = s.pm := rfl
  rw [derive_eq, inclLimitWatch_eq]
  refine tellChange_handed (i := Source.inclLimit) (by decide) _ _ ?_
  show s.pm.Handed (disagreeWatch (s.derived a)).pm
  rw [disagreeWatch_eq]
  refine tellChange_handed (i := Source.inclDisagree) (by decide) _ _ ?_
  exact .refl s.pm

theorem sensorStaleWatch_handed (s : State) : s.pm.Handed (sensorStaleWatch s).pm := by
  rw [sensorStaleWatch_eq]
  exact tellChange_handed (i := Source.sensorStale) (by decide) _ _ (.refl s.pm)

/-- MP's test moves between AUTO and HOLD alone, which leaves PM (R34, R150). -/
theorem holdTest_pm (s : State) : (holdTest s).pm = s.pm := by
  unfold holdTest
  split
  · rename_i auto
    split
    · have counted : (s.count 17).mp.mode ≠ .hold := by simp [auto]
      rw [changeMode_pm counted]
      simp
    · rfl
  · rename_i hold
    split
    · rfl
    · rw [changeMode_pm (by rw [hold]; decide)]
  all_goals rfl

/-! ### A failed move (R147, R149) -/

/-- The plate is FAULTY, and counter 16 stands at `k` or more. -/
structure State.FailedMove (p : Plate) (k : Nat) (s : State) : Prop where
  faulty : s.pm.faulty.get p = true
  counted : k ≤ s.counter 16

namespace State.FailedMove

variable {p : Plate} {k : Nat} {s t : State}

theorem of_same (h : s.FailedMove p k) (faulty : t.pm.faulty = s.pm.faulty) (counters : t.counters = s.counters) :
    t.FailedMove p k := by
  refine ⟨by rw [faulty]; exact h.faulty, ?_⟩
  rw [State.counter, counters]
  exact h.counted

theorem handed (h : s.FailedMove p k) (pm : s.pm.Handed t.pm) (counters : t.counters = s.counters) : t.FailedMove p k :=
  h.of_same pm.faulty counters

theorem endDone (h : s.FailedMove p k) : (endDone s).FailedMove p k := by
  refine ⟨by simpa [Machine.endDone, State.putPm] using h.faulty, ?_⟩
  unfold Machine.endDone
  rw [State.counter_count _ (by decide) (by decide) _ (by decide), if_neg (by decide)]
  exact h.counted

theorem endFailed (h : s.FailedMove p k) (cap : k ≤ 65535) (q : Plate) : (endFailed q s).FailedMove p k := by
  have counted := h.counted
  have same : (s.putPm { s.pm with move := none, arbiter := .idle, faulty := putPlate s.pm.faulty q true }).counter 16 =
      s.counter 16 := rfl
  refine ⟨?_, ?_⟩
  · have marks : (Machine.endFailed q s).pm.faulty.get p = (putPlate s.pm.faulty q true).get p := by
      simp [Machine.endFailed, State.putPm]
    rw [marks, putPlate_get, h.faulty, ite_self]
  · unfold Machine.endFailed
    rw [State.counter_count _ (by decide) (by decide) _ (by decide), if_pos rfl, same]
    omega

theorem grantRounds (cap : k ≤ 65535) : ∀ (n : Nat) {s : State}, s.FailedMove p k → (grantRounds n s).FailedMove p k
  | 0, _, h => h
  | n + 1, s, h => by
    unfold Machine.grantRounds
    cases turn : s.pm.turn with
    | none =>
      rw [Manifold.choose_none turn]
      exact h.of_same rfl rfl
    | some q =>
      obtain ⟨u, t, chosen⟩ := Manifold.choose_some turn
      rw [chosen]
      dsimp only
      have taken : (s.putPm { s.pm with urgentSnap := u, trimSnap := t, nextPhase := s.pm.phaseAfter q }).FailedMove p k :=
        h.of_same rfl rfl
      split
      · exact grantRounds cap n taken
      · rename_i e _
        have started : (startMove q e.target { s.pm with
            urgentSnap := u, trimSnap := t, nextPhase := s.pm.phaseAfter q } s).FailedMove p k := h.of_same rfl rfl
        split
        · exact grantRounds cap n (started.endFailed cap q)
        · split
          · exact grantRounds cap n started.endDone
          · exact started

theorem grantPoint (h : s.FailedMove p k) (cap : k ≤ 65535) : (grantPoint s).FailedMove p k := grantRounds cap 9 h

theorem report (h : s.FailedMove p k) (cap : k ≤ 65535) (c : Channel) : (channelReport c s).FailedMove p k := by
  have same : ∀ {t : State}, t.pm = s.pm → t.counters = s.counters → t.FailedMove p k := fun pm => h.of_same (by rw [pm])
  unfold channelReport
  cases c with
  | incl m a => exact h.handed (derive_handed a s) (derive_keeps a s).2.2.1
  | plate q =>
    dsimp only
    split
    · unfold plateChannelLeft
      split
      · split
        · exact (h.endFailed cap q).grantPoint cap
        · exact h
      · exact h
    · exact h
  | retDens => exact h
  | _ => dsimp only; split <;> exact same (by simp) (by simp)

end State.FailedMove

/-! ### No further move (R141) -/

/-- No plate has a pending entry or waits in a snapshot. -/
def Manifold.Unasked (pm : Manifold) : Prop :=
  ∀ q : Plate, pm.table.get q = none ∧ pm.urgentSnap.get q = false ∧ pm.trimSnap.get q = false

/-- With nothing pending a grant point leaves the arbiter IDLE (step 4 of R141). -/
theorem grantPoint_unasked {s : State} (h : s.pm.Unasked) :
    grantPoint s = s.putPm { s.pm with arbiter := .idle, nextPhase := .urgent } := by
  have none : ∀ (snap : Vector Bool 8) (c : PlateClass), (∀ q : Plate, snap.get q = false) →
      Plate.all.find? (s.pm.awaiting snap c) = none := fun snap c empty => by
    rw [lowestPlate_eq_none]
    intro q
    have nobody : ¬∃ x : Plate, snap.get x = true := fun ⟨x, hx⟩ => by simp [empty] at hx
    unfold Manifold.awaiting Manifold.holding
    rw [if_neg nobody, (h q).1]
    rfl
  have turn : s.pm.turn = .none := by
    unfold Manifold.turn Manifold.urgent Manifold.trim
    rw [none _ _ fun q => (h q).2.1, none _ _ fun q => (h q).2.2]
    split <;> rfl
  unfold grantPoint grantRounds
  rw [Manifold.choose_none turn]

/-- No move is in flight, the targets stand, and counter 16 has its value. -/
structure State.MoveOver (targets : Vector Nat 8) (k : Nat) (s : State) : Prop where
  move : s.pm.move = none
  targets : s.pm.targets = targets
  counted : s.counter 16 = k

namespace State.MoveOver

variable {targets : Vector Nat 8} {k : Nat} {s t : State}

theorem handed (h : s.MoveOver targets k) (pm : s.pm.Handed t.pm) (counters : t.counters = s.counters) :
    t.MoveOver targets k := by
  refine ⟨?_, pm.targets.trans h.targets, ?_⟩
  · rcases pm.move with same | none
    · rw [same, h.move]
    · exact none
  · rw [State.counter, counters]
    exact h.counted

theorem report (h : s.MoveOver targets k) (c : Channel) : (channelReport c s).MoveOver targets k := by
  have same : ∀ {t : State}, t.pm = s.pm → t.counters = s.counters → t.MoveOver targets k :=
    fun pm => h.handed (pm ▸ .refl s.pm)
  unfold channelReport
  cases c with
  | incl m a => exact h.handed (derive_handed a s) (derive_keeps a s).2.2.1
  | plate q =>
    have idle : plateChannelLeft q s = s := by
      unfold plateChannelLeft
      rw [h.move]
    dsimp only
    rw [idle, ite_self]
    exact h
  | retDens => exact h
  | _ => dsimp only; split <;> exact same (by simp) (by simp)

end State.MoveOver

/-! ### The report of the plate's channel -/

/-- The report of another channel than an inclinometer and the plate's own leaves PM and the counters. -/
theorem channelReport_moving {c : Channel} {s : State} {m : PlateMove} (move : s.pm.move = some m)
    (other : c ≠ .plate m.plate) (level : ∀ k a, c ≠ .incl k a) :
    (channelReport c s).pm = s.pm ∧ (channelReport c s).counters = s.counters := by
  unfold channelReport
  cases c with
  | incl k a => exact absurd rfl (level k a)
  | plate q =>
    have stays : plateChannelLeft q s = s := by
      unfold plateChannelLeft
      rw [move]
      exact if_neg fun same => other (congrArg Channel.plate same.symm)
    dsimp only
    rw [stays, ite_self]
    exact ⟨rfl, rfl⟩
  | retDens => exact ⟨rfl, rfl⟩
  | _ => dsimp only; split <;> simp

/-- The plate's own channel, having left FRESH, fails its move (R147). -/
theorem channelReport_failed {s : State} {m : PlateMove} (move : s.pm.move = some m)
    (left : s.fresh (.plate m.plate) = false) :
    (channelReport (.plate m.plate) s).FailedMove m.plate (min (s.counter 16 + 1) 65535) ∧
    (s.pm.Unasked → (channelReport (.plate m.plate) s).MoveOver s.pm.targets (min (s.counter 16 + 1) 65535)) := by
  have fails : channelReport (.plate m.plate) s = grantPoint (endFailed m.plate s) := by
    show (if (!s.fresh (.plate m.plate)) = true then plateChannelLeft m.plate s else s) = _
    rw [left]
    unfold plateChannelLeft
    rw [move]
    exact (if_pos rfl).trans (if_pos rfl)
  have pm : (endFailed m.plate s).pm =
      { s.pm with move := none, arbiter := .idle, faulty := putPlate s.pm.faulty m.plate true } := by
    simp [endFailed, State.putPm]
  have counted : (endFailed m.plate s).counter 16 = min (s.counter 16 + 1) 65535 := by
    unfold endFailed
    rw [State.counter_count _ (by decide) (by decide) _ (by decide), if_pos rfl]
    rfl
  have failed : (endFailed m.plate s).FailedMove m.plate (min (s.counter 16 + 1) 65535) :=
    ⟨by rw [pm]; simp [putPlate_get], counted.ge⟩
  rw [fails]
  refine ⟨failed.grantPoint (by omega), fun unasked => ?_⟩
  have empty : (endFailed m.plate s).pm.Unasked := by
    rw [pm]
    exact unasked
  rw [grantPoint_unasked empty]
  refine ⟨?_, ?_, counted⟩
  · show (endFailed m.plate s).pm.move = none
    rw [pm]
  · show (endFailed m.plate s).pm.targets = _
    rw [pm]

/-- Reports with the plate's channel and without an inclinometer (R50, R147). -/
theorem channelReports_failed {m : PlateMove} (l : List Channel) : ∀ u : State, u.pm.move = some m →
    .plate m.plate ∈ l → (∀ k a, .incl k a ∉ l) → u.fresh (.plate m.plate) = false →
    let t := l.foldl (fun t d => channelReport d t) u
    t.FailedMove m.plate (min (u.counter 16 + 1) 65535) ∧
    (u.pm.Unasked → t.MoveOver u.pm.targets (min (u.counter 16 + 1) 65535)) := by
  induction l with
  | nil => exact fun _ _ mem => absurd mem List.not_mem_nil
  | cons d l ih =>
    intro u move mem level left
    dsimp only
    rw [List.foldl_cons]
    by_cases now : d = .plate m.plate
    · subst now
      obtain ⟨failed, over'⟩ := channelReport_failed move left
      exact ⟨foldl_preserves (State.FailedMove m.plate _) _ (fun t c h => h.report (by omega) c) _ _ failed,
        fun unasked => foldl_preserves (State.MoveOver _ _) _ (fun t c h => h.report c) _ _ (over' unasked)⟩
    · obtain ⟨pm, counters⟩ := channelReport_moving move now fun k a same => level k a (same ▸ List.mem_cons_self)
      have later := ih (channelReport d u) (by rw [pm, move]) ((List.mem_cons.1 mem).resolve_left (Ne.symm now))
        (fun k a h => level k a (List.mem_cons_of_mem d h)) (by rw [State.fresh_congr (channelReport_channels d u)]; exact left)
      have count : (channelReport d u).counter 16 = u.counter 16 := by rw [State.counter, counters, State.counter]
      rw [pm, count] at later
      exact later

end Sys2Proof.Machine
end

section
/-! O30: the event of a window end. -/

namespace Sys2Proof.Machine

/-! ### The window timer at the start (R43, R45) -/

theorem powerOn_window (e g o : Level) (s : State) : (powerOn e g o s).fc.windowTimer = ⟨0, 1000⟩ := by
  rw [(powerOn_keeps e g o s).2.2.2.2.1]
  rfl

theorem restartModule_window (k : Bool) (s : State) : (restartModule k s).fc.windowTimer = ⟨0, 1000⟩ := by
  have reborn : (s.reborn k).fc.windowTimer = ⟨0, 1000⟩ := by
    cases k with
    | false => rfl
    | true =>
      rw [(reborn_keepLog s).2.2.1]
      rfl
  have keeps : ∀ u : State, (finish (reportInputs u)).fc = u.fc := fun u => by simp [reportInputs, reportInput]
  rw [restartModule_eq, keeps, reborn]

/-! ### After the reports: MP's test, SENSOR_STALE and the records (R34, R51) -/

/-- What MP's test, SENSOR_STALE and the records leave of a state `w`. -/
structure State.Concluded (w t : State) : Prop where
  params : t.params = w.params
  fc : t.fc = { w.fc with sensorStale := w.sensorStaleNow }
  di : t.di = w.di
  sl : t.sl = w.sl
  causes : t.mp.holdCauses = w.mp.holdCauses
  tested : w.HoldTested t
  start : w.mp.mode = .start → t.mp.mode = .start
  source : t.source Source.sensorStale = if w.sensorStaleNow = w.fc.sensorStale then w.source Source.sensorStale
    else (w.source Source.sensorStale).after w.sensorStaleNow
  unwatched : ∀ x, w.Unwatched x → t.Unwatched x
  watch : t.watch = w.watch
  pm : w.pm.Handed t.pm
  failures : t.counter 16 = w.counter 16

theorem holdTest_failures (s : State) : (holdTest s).counter 16 = s.counter 16 := by
  rw [State.counter, holdTest_counters, ← State.counter]
  unfold State.holdCounted
  split
  · rw [State.counter_count _ (by decide) (by decide) _ (by decide), if_neg (by decide)]
  · rfl

theorem finish_unwatched {x : WheelId} {s : State} (h : s.Unwatched x) : (finish s).Unwatched x := by
  have wd : (finish s).wd.unsent = s.wd.unsent := congrArg Blocks.wd (finish_blocks s)
  have timer : ∀ u : State, (u.wheel x).stallTimer = (u.wd.unsent.wheels.get x).stallTimer := fun u => by
    cases x <;> rfl
  unfold State.Unwatched
  rw [timer, wd, ← timer]
  exact h

theorem holdTest_sl (s : State) : (holdTest s).sl = s.sl := by
  unfold holdTest
  split
  · rename_i auto
    split
    · rw [changeMode_sl (by simp [auto]), if_neg (by decide)]
      simp
    · rfl
  · rename_i hold
    split
    · rfl
    · rw [changeMode_sl (by rw [hold]; decide), if_neg (by decide)]
  all_goals rfl

theorem concluded (w : State) : w.Concluded (finish (sensorStaleWatch (holdTest w))) := by
  have tested := holdTest_tested (s := w) rfl rfl
  have mp := holdTest_mp w
  have fc : (holdTest w).fc = w.fc := by simp
  have tu : (holdTest w).tu = w.tu := by simp
  have now : (holdTest w).sensorStaleNow = w.sensorStaleNow := by
    unfold State.sensorStaleNow State.chan
    rw [fc]
  have sl := holdTest_sl w
  have watch := holdTest_watch w
  have pm := holdTest_pm w
  have failures := holdTest_failures w
  have params : (holdTest w).params = w.params := by simp
  have di : (holdTest w).di = w.di := by simp
  have unwatched := fun x => holdTest_unwatched (x := x) (s := w)
  generalize holdTest w = v at *
  obtain ⟨fcV, mpV, slV, -⟩ := sensorStaleWatch_fields v
  have sourceV : (sensorStaleWatch v).source Source.sensorStale =
      if v.sensorStaleNow = v.fc.sensorStale then v.source Source.sensorStale
      else (v.source Source.sensorStale).after v.sensorStaleNow := by
    unfold sensorStaleWatch
    dsimp only
    split
    · rfl
    · rw [condition_source, if_pos rfl]
      rfl
  obtain ⟨-, paramsV, countersV, -, diV, -⟩ := sensorStaleWatch_keeps v
  have watchV := sensorStaleWatch_watch v
  have pmV := sensorStaleWatch_handed v
  have unwatchedV := fun x => sensorStaleWatch_unwatched (x := x) (s := v)
  generalize sensorStaleWatch v = y at *
  obtain ⟨-, paramsT, countersT, mpT, fcT, diT, slT, tuT, -⟩ := finish_keeps y
  have watchT := finish_watch y
  have pmT : (finish y).pm.unsent = y.pm.unsent := congrArg Blocks.pm (finish_blocks y)
  have unwatchedT := fun x => finish_unwatched (x := x) (s := y)
  have sourceT := finish_source y Source.sensorStale
  generalize finish y = t at *
  have source : v.source = w.source := by
    unfold State.source
    rw [tu]
  refine ⟨paramsT.trans (paramsV.trans params), ?_, diT.trans (diV.trans di), slT.trans (slV.trans sl), ?_, ?_, fun start => ?_,
    ?_, fun x h => unwatchedT x (unwatchedV x (unwatched x h)), watchT.trans (watchV.trans watch), ?_, ?_⟩
  · rw [fcT, fcV, fc, now]
  · rw [mpT, mpV, mp]
  · exact tested.of_same (by rw [mpT, mpV]) (by rw [State.counter, countersT, countersV, ← State.counter])
      (.inl (by rw [mpT, mpV]))
  · rw [mpT, mpV, mp]
    exact w.testedMode_start.2 start
  · rw [sourceT, sourceV, now, fc, source]
  · rw [← pm]
    have handed : y.pm.Handed t.pm :=
      ⟨(congrArg Manifold.faulty pmT :), (congrArg Manifold.targets pmT :), .inl (congrArg Manifold.move pmT :)⟩
    exact pmV.trans handed
  · rw [State.counter, countersT, countersV, ← State.counter, failures]

/-! ### The slopes (R55 to R60) -/

/-- A derivation, in the words of R55 to R58. -/
theorem State.derivedSlope_timed (s : State) (a : Axis) :
    let old := s.fc.slopes.get a
    let new := s.derivedSlope a
    new.disagreeing = true → new.persistent = old.persistent ∧
      new.timer = if old.disagreeing = true then old.timer else some ⟨s.runTime, (s.par .disagreeTime * 1000).toNat⟩ := by
  intro old new now
  obtain ⟨-, -, -, -, -, begins, goes, -⟩ := s.derivedSlope_table a
  by_cases was : old.disagreeing = true
  · rw [if_pos was]
    obtain ⟨timer, persistent⟩ := goes now was
    exact ⟨persistent, timer⟩
  · rw [if_neg was]
    obtain ⟨timer, persistent⟩ := begins now (Bool.eq_false_iff.2 was)
    exact ⟨persistent, timer⟩

/-! ### The event -/

/-- `j` is `s` at the run time `now` with every channel judged and the next window started (R49). -/
structure State.JudgedAt (s : State) (now : RunTime) (j : State) : Prop where
  time : j.runTime = now
  params : j.params = s.params
  counters : j.counters = s.counters
  mp : j.mp = s.mp
  di : j.di = s.di
  sl : j.sl = s.sl
  pm : j.pm = s.pm
  sr : j.sr = s.sr
  tu : j.tu = s.tu
  fc : j.fc = { s.fc with
    channels := j.fc.channels, windowTimer := ⟨s.fc.windowTimer.start + 1000, 1000⟩ }
  chan : ∀ c, j.chan c = (s.chan c).judged c.threshold

theorem State.nextWindow_fc (s : State) :
    s.nextWindow.fc = { s.fc with windowTimer := ⟨s.fc.windowTimer.start + 1000, 1000⟩ } := by
  have period : BitVec.ofNat 32 Config.windowPeriod = (1000 : RunTime) := by decide
  unfold State.nextWindow
  rw [period]
  rfl

theorem judgeAll_judgedAt (s : State) (now : RunTime) : s.JudgedAt now (judgeAll (s.begin now).nextWindow) := by
  obtain ⟨time, params, counters, -, mp, di, sl, pm, -, sr, tu, -⟩ := judgeAll_keeps (s.begin now).nextWindow
  obtain ⟨channels, fc⟩ := judgeAll_fc (s.begin now).nextWindow
  have chan := judgeAll_chan (s.begin now).nextWindow
  have began : (s.begin now).fc = s.fc := rfl
  have next : (s.begin now).nextWindow.chan = s.chan := State.chan_congr (by rw [State.nextWindow_fc, began])
  rw [State.nextWindow_fc, began] at fc
  rw [next] at chan
  generalize judgeAll (s.begin now).nextWindow = j at *
  exact ⟨time, params, counters, mp, di, sl, pm, sr, tu, by rw [fc], chan⟩

theorem finish_transit (u : State) : (finish u).sr.line = u.sr.line ∧ (finish u).sr.vPump = u.sr.vPump :=
  ⟨congrArg (fun b : Blocks => b.sr.line) (finish_blocks u), congrArg (fun b : Blocks => b.sr.vPump) (finish_blocks u)⟩

/-! ### What the reports leave of the slopes and of SL -/

theorem channelReport_sl (c : Channel) (s : State) : (channelReport c s).sl = s.sl := by
  unfold channelReport
  cases c with
  | incl m a => exact derive_sl a s
  | retDens => rfl
  | _ => dsimp only; split <;> simp

/-- The slope of an axis after the reports, in the words of R55 to R58. -/
theorem State.Told.axis {j w : State} {l : List Channel} (told : j.Told l w) (a : Axis) :
    let old := j.fc.slopes.get a
    let new := w.fc.slopes.get a
    let up := j.chan (.incl .upper a)
    let low := j.chan (.incl .lower a)
    let apart := j.par .disagreeTolerance < |up.value - low.value|
    let derived := fun raw : Int => new.clamped = decide (raw < -5000 ∨ 5000 < raw) ∧
      new.slope = if raw < -5000 then -5000 else if 5000 < raw then 5000 else raw
    (.incl .upper a ∉ l → .incl .lower a ∉ l → new = old ∧ w.di.copies.get a = j.di.copies.get a) ∧
    (.incl .upper a ∈ l ∨ .incl .lower a ∈ l →
      w.di.copies.get a = ⟨new.slope, new.case, new.clamped, new.disagreeing⟩ ∧
      (up.state = .fresh → low.state = .fresh → new.case = .both ∧ derived (Int.tdiv (up.value + low.value) 2) ∧
        new.disagreeing = decide apart) ∧
      (up.state = .fresh → low.state ≠ .fresh → new.case = .single ∧ derived up.value) ∧
      (up.state ≠ .fresh → low.state = .fresh → new.case = .single ∧ derived low.value) ∧
      (up.state ≠ .fresh → low.state ≠ .fresh → new.case = .none ∧ new.slope = old.slope ∧ new.clamped = old.clamped) ∧
      (new.case ≠ .both → new.disagreeing = false) ∧
      (new.disagreeing = true → new.persistent = old.persistent ∧
        new.timer = if old.disagreeing = true then old.timer else some ⟨j.runTime, (j.par .disagreeTime * 1000).toNat⟩) ∧
      (new.disagreeing = false → new.timer = none ∧ new.persistent = false)) := by
  intro old new up low apart derived
  refine ⟨fun noUp noLow => told.stands a fun m => by cases m <;> assumption, fun some => ?_⟩
  obtain ⟨m, mem⟩ : ∃ m, Channel.incl m a ∈ l := some.elim (fun h => ⟨_, h⟩) fun h => ⟨_, h⟩
  obtain ⟨slope, copy⟩ := told.derived m a mem
  have table := j.derivedSlope_table a
  have timed := j.derivedSlope_timed a
  dsimp only at table timed
  rw [← slope] at table timed copy
  obtain ⟨both, upper, lower, none, apart', -, -, stops⟩ := table
  exact ⟨copy, both, upper, lower, none, apart', timed, stops⟩

/-- The inclination limit, the agreement and the SLOPE cause after the reports, in the words of R33, R59 and R60. -/
theorem State.Told.tilted {j w : State} {l : List Channel} (told : j.Told l w) :
    ((∃ m a, .incl m a ∈ l) → (w.fc.inclLimit = true ↔ ∃ a, j.par .inclLimit < |(w.fc.slopes.get a).slope|)) ∧
    ((∃ m a, .incl m a ∈ l) → (∀ a, (w.fc.slopes.get a).disagreeing = false) → w.fc.inclDisagree = false) ∧
    ((∃ m a, .incl m a ∈ l) → (w.mp.holdCauses.slope = true ↔ ∃ a, (w.fc.slopes.get a).case = .none)) := by
  have anyAxis : ∀ P : Axis → Prop, (∃ b, P b) ↔ P .x ∨ P .y := fun P =>
    ⟨fun ⟨b, hb⟩ => by cases b <;> simp [hb], fun h => h.elim (fun x => ⟨_, x⟩) fun y => ⟨_, y⟩⟩
  refine ⟨fun some => ?_, fun some agree => ?_, fun some => ?_⟩
  · rw [(told.tilts some).1, anyAxis, State.tilted, State.par, told.params, magnitude_eq_abs, magnitude_eq_abs]
    simp
    rfl
  · refine Bool.eq_false_iff.2 fun on => ?_
    obtain ⟨a, apart⟩ := (told.tilts some).2.2 on
    rw [agree a] at apart
    cases apart
  · rw [(told.tilts some).2.1, anyAxis]
    simp [State.slopeless]
    rfl

/-! ### The event -/

/-- From `s` the channels are judged (`j`), those of `l`, whose state the judgement changes, are reported (`w`), and the
event is concluded (`t`). -/
structure State.WindowPassed (s : State) (now : RunTime) (l : List Channel) (j w t : State) : Prop where
  judged : s.JudgedAt now j
  changed : ∀ c, c ∈ l ↔ (j.chan c).state ≠ (s.chan c).state
  reports : w = l.foldl (fun u c => channelReport c u) j
  told : j.Told l w
  ended : w.Concluded t

theorem windowEnd_event {s : State} {now : RunTime} (due : s.fc.windowTimer.duration ≤ now.since s.fc.windowTimer.start) :
    ∃ l j w t, exec (.windowEnd now) s = .next t ∧ t.runTime = now ∧ t.pending = s.pending ∧ t.sr.line = s.sr.line ∧
      t.sr.vPump = s.sr.vPump ∧ s.WindowPassed now l j w t := by
  have runs : exec (.windowEnd now) s = .next (finish (windowEnd (s.begin now))) := by
    have expires : windowExpiry (s.begin now) = windowEnd (s.begin now) := if_pos (decide_eq_true due)
    rw [← expires]
    rfl
  have timed : (finish (windowEnd (s.begin now))).runTime = now ∧ (finish (windowEnd (s.begin now))).pending = s.pending := by
    simp
  have line : (finish (windowEnd (s.begin now))).sr.line = s.sr.line ∧
      (finish (windowEnd (s.begin now))).sr.vPump = s.sr.vPump := by
    rw [(finish_transit _).1, (finish_transit _).2, (windowEnd_line _).1, (windowEnd_line _).2.1]
    exact ⟨rfl, rfl⟩
  have judged := judgeAll_judgedAt s now
  have changed := fun c => State.mem_changedBy (s := s.begin now) (t := judgeAll (s.begin now).nextWindow) (c := c)
  rw [windowEnd_eq] at runs timed line
  generalize (s.begin now).changedBy (judgeAll (s.begin now).nextWindow) = l at *
  generalize judgeAll (s.begin now).nextWindow = j at *
  exact ⟨l, j, _, _, runs, timed.1, timed.2, line.1, line.2, judged, fun c => (changed c).trans ne_comm, rfl,
    (State.Told.refl j).reports l, concluded _⟩

namespace State.WindowPassed

variable {s j w t : State} {now : RunTime} {l : List Channel} (h : s.WindowPassed now l j w t)
include h

theorem channels : t.fc.channels = j.fc.channels := by
  rw [h.ended.fc]
  exact h.told.channels

theorem turned (c : Channel) : (t.chan c).state ≠ (s.chan c).state ↔ c ∈ l := by
  rw [h.changed, State.chan_congr h.channels]

/-- A channel that has left FRESH is reported, and reads so already in the judged state. -/
theorem left {c : Channel} (left : s.fresh c = true ∧ t.fresh c = false) : c ∈ l ∧ j.fresh c = false := by
  obtain ⟨was, gone⟩ := left
  rw [State.fresh_congr h.channels] at gone
  refine ⟨(h.changed c).2 fun same => ?_, gone⟩
  rw [State.fresh, ← same] at was
  rw [State.fresh, was] at gone
  cases gone

theorem par (p : ParamId) : j.par p = s.par p := by rw [State.par, h.judged.params, State.par]

/-- FC and the counters of the reported state, as far as `s` has them. -/
theorem began : w.fc.sensorStale = s.fc.sensorStale ∧ w.fc.startOver = s.fc.startOver ∧
    w.source Source.sensorStale = s.source Source.sensorStale ∧ w.mp.mode = s.mp.mode ∧
    w.counter 17 = s.counter 17 ∧ j.counter 16 = s.counter 16 := by
  have counts := State.CountsOnly.foldl (fun u c => channelReport_counts c u) l j
  rw [← h.reports] at counts
  have counters : ∀ n, j.counter n = s.counter n := fun n => by rw [State.counter, h.judged.counters, State.counter]
  refine ⟨by rw [h.told.fc, h.judged.fc], by rw [h.told.fc, h.judged.fc], ?_, by rw [h.told.mp, h.judged.mp], ?_, counters 16⟩
  · rw [h.told.source _ (by decide) (by decide), State.source, h.judged.tu, State.source]
  · rw [counts.others 17 (by decide) (by decide), counters]

theorem axis (a : Axis) :
    let old := s.fc.slopes.get a
    let new := t.fc.slopes.get a
    let up := t.chan (.incl .upper a)
    let low := t.chan (.incl .lower a)
    let apart := s.par .disagreeTolerance < |up.value - low.value|
    let derived := fun raw : Int => new.clamped = decide (raw < -5000 ∨ 5000 < raw) ∧
      new.slope = if raw < -5000 then -5000 else if 5000 < raw then 5000 else raw
    (.incl .upper a ∉ l → .incl .lower a ∉ l → new = old ∧ t.di.copies.get a = s.di.copies.get a) ∧
    (.incl .upper a ∈ l ∨ .incl .lower a ∈ l →
      t.di.copies.get a = ⟨new.slope, new.case, new.clamped, new.disagreeing⟩ ∧
      (up.state = .fresh → low.state = .fresh → new.case = .both ∧ derived (Int.tdiv (up.value + low.value) 2) ∧
        new.disagreeing = decide apart) ∧
      (up.state = .fresh → low.state ≠ .fresh → new.case = .single ∧ derived up.value) ∧
      (up.state ≠ .fresh → low.state = .fresh → new.case = .single ∧ derived low.value) ∧
      (up.state ≠ .fresh → low.state ≠ .fresh → new.case = .none ∧ new.slope = old.slope ∧ new.clamped = old.clamped) ∧
      (new.case ≠ .both → new.disagreeing = false) ∧
      (new.disagreeing = true → new.persistent = old.persistent ∧
        new.timer = if old.disagreeing = true then old.timer else some ⟨now, (s.par .disagreeTime * 1000).toNat⟩) ∧
      (new.disagreeing = false → new.timer = none ∧ new.persistent = false)) := by
  have axis := h.told.axis a
  have old : j.fc.slopes.get a = s.fc.slopes.get a := by rw [h.judged.fc]
  have slopes : t.fc.slopes = w.fc.slopes := by rw [h.ended.fc]
  dsimp only at axis
  rw [old, h.judged.di, h.judged.time, h.par, h.par, ← slopes, ← h.ended.di, ← State.chan_congr h.channels] at axis
  exact axis

/-- The inclination limit and the agreement (R59, R60). -/
theorem inclination :
    ((∃ m a, .incl m a ∈ l) → (t.fc.inclLimit = true ↔ ∃ a, s.par .inclLimit < |(t.fc.slopes.get a).slope|)) ∧
    ((∀ m a, .incl m a ∉ l) → t.fc.inclLimit = s.fc.inclLimit) ∧
    (t.fc.inclDisagree = true → s.fc.inclDisagree = true) ∧
    ((∃ m a, .incl m a ∈ l) → (∀ a, (t.fc.slopes.get a).disagreeing = false) → t.fc.inclDisagree = false) := by
  obtain ⟨limit, agree, -⟩ := h.told.tilted
  have slopes : t.fc.slopes = w.fc.slopes := by rw [h.ended.fc]
  have limitT : t.fc.inclLimit = w.fc.inclLimit := by rw [h.ended.fc]
  have agreeT : t.fc.inclDisagree = w.fc.inclDisagree := by rw [h.ended.fc]
  have disagree := h.told.disagree
  rw [h.judged.fc] at disagree
  rw [h.par] at limit
  rw [slopes, limitT, agreeT]
  refine ⟨limit, fun level => ?_, disagree, agree⟩
  rw [(h.told.level level).1, h.judged.fc]

/-- The HOLD causes (R33). -/
theorem causes : t.mp.holdCauses.link = s.mp.holdCauses.link ∧
    (.depth ∈ l → t.mp.holdCauses.depth = !t.fresh .depth) ∧
    (.depth ∉ l → t.mp.holdCauses.depth = s.mp.holdCauses.depth) ∧
    ((∃ m a, .incl m a ∈ l) → (t.mp.holdCauses.slope = true ↔ ∃ a, (t.fc.slopes.get a).case = .none)) ∧
    ((∀ m a, .incl m a ∉ l) → t.mp.holdCauses.slope = s.mp.holdCauses.slope) := by
  obtain ⟨-, -, slope⟩ := h.told.tilted
  have slopes : t.fc.slopes = w.fc.slopes := by rw [h.ended.fc]
  have depth : w.mp.holdCauses.depth = if .depth ∈ l then !j.fresh .depth else s.mp.holdCauses.depth := by
    rw [h.told.mp, h.judged.mp]
  rw [h.ended.causes, slopes, State.fresh_congr h.channels]
  refine ⟨by rw [h.told.mp, h.judged.mp], fun here => ?_, fun never => ?_, slope, fun level => ?_⟩
  · rw [depth, if_pos here]
  · rw [depth, if_neg never]
  · rw [(h.told.level level).2, h.judged.mp]

/-- MP's test of the causes (R34). -/
theorem tested :
    let free := t.mp.holdCauses = ⟨false, false, false⟩
    (s.mp.mode = .auto → ¬free → t.mp.mode = .hold ∧ t.counter 17 = min (s.counter 17 + 1) 65535) ∧
    (s.mp.mode = .hold → free → t.mp.mode = .auto ∧ t.counter 17 = s.counter 17) ∧
    (¬(s.mp.mode = .auto ∧ ¬free) → ¬(s.mp.mode = .hold ∧ free) →
      t.mp.mode = s.mp.mode ∧ t.counter 17 = s.counter 17) := by
  obtain ⟨-, -, -, mode, count, -⟩ := h.began
  have tested := h.ended.tested
  have start := h.ended.start
  unfold State.HoldTested at tested
  rw [mode, count] at tested
  rw [mode] at start
  obtain ⟨holds, resumes, stays⟩ := tested
  refine ⟨holds, resumes, fun a b => ?_⟩
  obtain ⟨kept, same | ⟨was, standby⟩⟩ := stays a b
  · exact ⟨same, kept⟩
  · rw [start was] at standby
    cases standby

/-- SENSOR_STALE and its source (R51). -/
theorem stale :
    (t.fc.sensorStale = true ↔ ∃ c, (t.chan c).state = .stale ∨ s.fc.startOver = true ∧ (t.chan c).state = .absent) ∧
    (t.fc.sensorStale = true → s.fc.sensorStale = false → t.source Source.sensorStale = .active) ∧
    (t.fc.sensorStale = false → s.fc.sensorStale = true → s.source Source.sensorStale = .active →
      t.source Source.sensorStale = .latched) := by
  obtain ⟨was, started, sourceW, -⟩ := h.began
  have now : t.fc.sensorStale = w.sensorStaleNow := by rw [h.ended.fc]
  have channels : w.chan = t.chan := State.chan_congr (h.told.channels.trans h.channels.symm)
  have source := h.ended.source
  rw [← now, was, sourceW] at source
  refine ⟨?_, fun present absent => ?_, fun absent present active => ?_⟩
  · rw [now, State.sensorStaleNow_iff, started, channels]
  · rw [present, absent, if_neg (by decide)] at source
    rw [source]
    cases s.source Source.sensorStale <;> rfl
  · rw [present, absent, if_neg (by decide), active] at source
    exact source

/-- The stall timers and the blockage watch (R162, R180). -/
theorem watches :
    (∀ x : WheelId, (s.fresh (.speed x) = true ∧ t.fresh (.speed x) = false) ∨
      (s.fresh (.press x) = true ∧ t.fresh (.press x) = false) → (t.wheel x).stallTimer = none) ∧
    ((s.fresh .pumpPress = true ∧ t.fresh .pumpPress = false) ∨ (s.fresh .retFlow = true ∧ t.fresh .retFlow = false) →
      t.sr.blockTimer = none) ∧
    t.sr.returnBlocked = s.sr.returnBlocked := by
  have stalls : ∀ c x, c = .speed x ∨ c = .press x → s.fresh c = true ∧ t.fresh c = false →
      (t.wheel x).stallTimer = none := fun c x mine lost => by
    have stops := channelReports_unwatched mine l j (h.left lost).1 (h.left lost).2
    rw [← h.reports] at stops
    exact h.ended.unwatched x stops
  have pump : ∀ c, c = .pumpPress ∨ c = .retFlow → s.fresh c = true ∧ t.fresh c = false → t.sr.blockTimer = none :=
    fun c mine lost => by
      have stops := channelReports_suspended mine l j (h.left lost).1 (h.left lost).2
      rw [← h.reports, ← h.ended.watch] at stops
      exact stops
  refine ⟨fun x lost => lost.elim (stalls _ x (.inl rfl)) (stalls _ x (.inr rfl)),
    fun lost => lost.elim (pump _ (.inl rfl)) (pump _ (.inr rfl)), ?_⟩
  have blocked := channelReports_blocked l j
  have judged : j.watch.blocked = s.sr.returnBlocked := by rw [State.watch, h.judged.sr]
  rw [← h.reports, ← h.ended.watch] at blocked
  exact blocked.trans judged

/-- The open record's mark, and what of DI stays (R84). -/
theorem record :
    ((s.fresh .depth = true ∧ t.fresh .depth = false) ∨ (s.fresh .twist = true ∧ t.fresh .twist = false) →
      ∀ q, t.di.openRecord = some q → q.flags.estimated = true) ∧
    s.di.Marked t.di := by
  have marks : ∀ c, c = .depth ∨ c = .twist → s.fresh c = true ∧ t.fresh c = false →
      ∀ q, t.di.openRecord = some q → q.flags.estimated = true := fun c mine lost => by
    have marks := channelReports_estimated mine l j (h.left lost).1 (h.left lost).2
    rwa [← h.reports, ← h.ended.di] at marks
  have marked := channelReports_marked l j
  rw [← h.reports, ← h.ended.di, h.judged.di] at marked
  exact ⟨fun lost => lost.elim (marks _ (.inl rfl)) (marks _ (.inr rfl)), marked⟩

/-- The move of a plate whose channel has left FRESH (R147, R149). -/
theorem plate {m : PlateMove} (move : s.pm.move = some m)
    (lost : s.fresh (.plate m.plate) = true ∧ t.fresh (.plate m.plate) = false) (level : ∀ k a, .incl k a ∉ l) :
    t.pm.faulty.get m.plate = true ∧ min (s.counter 16 + 1) 65535 ≤ t.counter 16 ∧
    (s.pm.Unasked → t.pm.move = none ∧ t.counter 16 = min (s.counter 16 + 1) 65535 ∧ t.pm.targets = s.pm.targets) := by
  obtain ⟨-, -, -, -, -, count⟩ := h.began
  obtain ⟨fails, alone⟩ := channelReports_failed (m := m) l j (by rw [h.judged.pm, move]) (h.left lost).1 level (h.left lost).2
  rw [← h.reports, count] at fails alone
  rw [h.judged.pm] at alone
  refine ⟨by rw [h.ended.pm.faulty]; exact fails.faulty, by rw [h.ended.failures]; exact fails.counted, fun unasked => ?_⟩
  obtain ⟨idle, targets, exactly⟩ := alone unasked
  refine ⟨?_, h.ended.failures.trans exactly, h.ended.pm.targets.trans targets⟩
  rcases h.ended.pm.move with same | gone
  · rw [same, idle]
  · exact gone

theorem steering : t.sl = s.sl := by
  have kept := foldl_keeps _ State.sl (fun u c => channelReport_sl c u) l j
  rw [← h.reports] at kept
  exact h.ended.sl.trans (kept.trans h.judged.sl)

end State.WindowPassed

end Sys2Proof.Machine

open Sys2Proof Sys2Proof.Machine in
/-- Settles O30: the event (`windowEnd_event`) clause by clause. -/
theorem windowJudged : Obligations.WindowJudged := by
  unfold Obligations.WindowJudged
  refine ⟨fun s now => ⟨fun due => ?_, fun early => ?_⟩, by decide, fun s e g o => ⟨_, rfl, powerOn_window e g o s⟩,
    fun s k h => ⟨_, exec_moduleRestart h, restartModule_window k s⟩⟩
  · obtain ⟨l, j, w, t, runs, time, pending, line, vPump, passed⟩ := windowEnd_event due
    obtain ⟨limit, levelLimit, disagree, agree⟩ := passed.inclination
    obtain ⟨link, depth, depthStays, slope, slopeStays⟩ := passed.causes
    obtain ⟨stale, active, latched⟩ := passed.stale
    obtain ⟨stalls, pump, blocked⟩ := passed.watches
    obtain ⟨estimated, ⟨path, at', log, ring⟩, station, -⟩ := passed.record
    have params := passed.ended.params.trans (passed.told.params.trans passed.judged.params)
    have window : t.fc.windowTimer = ⟨s.fc.windowTimer.start + 1000, 1000⟩ := by
      rw [passed.ended.fc, passed.told.fc, passed.judged.fc]
    refine ⟨t, runs, time, pending, params, window, fun c => ?_, ?_⟩
    · intro e enough
      rw [State.chan_congr passed.channels, passed.judged.chan]
      exact ChannelEntry.judged_eq _ _
    · intro turned left tilted
      have turns : ∀ c, turned c ↔ c ∈ l := passed.turned
      have tilts : tilted ↔ ∃ m a, .incl m a ∈ l := by simp only [tilted, turns]
      have level : ¬tilted ↔ ∀ m a, .incl m a ∉ l := by simp only [tilts, not_exists]
      simp only [turns]
      rw [level, tilts]
      exact ⟨passed.axis, limit, levelLimit, disagree, agree, link, depth, depthStays, slope, slopeStays, passed.tested,
        stale, active, latched, stalls, pump, blocked, estimated, fun m move lost level => passed.plate move lost level,
        path, at', log, ring, station, passed.steering, line, vPump⟩
  · have nothing : windowExpiry (s.begin now) = s.begin now := if_neg (by simpa [Timer.due] using early)
    exact ⟨_, rfl, event_lineBecomes nothing⟩
end
